-- ==== Sys2Proof/Word.lean ====
section
/-! DEFINITION. The plain types every other file rests on: bytes, house times, the index types of the
G364's numbered things, and tables of a fixed number of like records. -/

namespace Sys2Proof

/-- One byte of a cell. -/
abbrev Byte := BitVec 8

/-- A house time: a 48-bit count of house ticks (R1). -/
abbrev Time := BitVec 48

/-- A counter: 32 bits wide (R173); `Counter.bump` saturates. -/
abbrev Counter := BitVec 32

/-- A command's tag (9.2). -/
abbrev Tag := BitVec 16

/-- A frame number (R10): taken mod 2^32. -/
abbrev FrameNo := BitVec 32

/-- Trunks T0 to T7. -/
abbrev Trunk := Fin 8

/-- Drop ports D0 to D7. -/
abbrev Port := Fin 8

/-- Channels 0 to 15 of a drop port. -/
abbrev Channel := Fin 16

/-- Sources S0 to S127. -/
abbrev SourceNo := Fin 128

/-- Destinations 0 to 127. -/
abbrev DestNo := Fin 128

/-- Formats F0 to F15. -/
abbrev FormatNo := Fin 16

/-- Salvo slots 0 to 31. -/
abbrev SlotNo := Fin 32

/-- Slots 0 to 2,047 of the Cell Pool. -/
abbrev PoolNo := Fin 2048

/-- A table of `n` records of one kind: the part's numbered records (formats, sources, destinations,
ports, trunks). A list with its length, so that tables are plain data and can be compared. -/
structure Tbl (α : Type) (n : Nat) where
  rows : List α
  size : rows.length = n
  deriving DecidableEq, Repr

/-- The table whose `n` records are all `a`. -/
def Tbl.fill {α : Type} (n : Nat) (a : α) : Tbl α n :=
  ⟨List.replicate n a, List.length_replicate⟩

/-- The record numbered `i`. -/
def Tbl.get {α : Type} {n : Nat} (t : Tbl α n) (i : Fin n) : α :=
  t.rows.get (i.cast t.size.symm)

/-- The table with record `i` replaced by `a`. -/
def Tbl.set {α : Type} {n : Nat} (t : Tbl α n) (i : Fin n) (a : α) : Tbl α n :=
  ⟨t.rows.set i a, by rw [List.length_set, t.size]⟩

/-- The table with record `i` changed by `f`. -/
def Tbl.modify {α : Type} {n : Nat} (t : Tbl α n) (i : Fin n) (f : α → α) : Tbl α n :=
  t.set i (f (t.get i))

/-- Every record changed by `f`, which is told the record's number. -/
def Tbl.mapIdx {α β : Type} {n : Nat} (f : Fin n → α → β) (t : Tbl α n) : Tbl β n :=
  ⟨(List.finRange n).map fun i => f i (t.get i), by simp⟩

/-- Every record changed by `f`. -/
def Tbl.map {α β : Type} {n : Nat} (f : α → β) (t : Tbl α n) : Tbl β n :=
  ⟨t.rows.map f, by rw [List.length_map, t.size]⟩

/-- How many records satisfy `p`. -/
def Tbl.count {α : Type} {n : Nat} (p : α → Bool) (t : Tbl α n) : Nat :=
  t.rows.countP p

/-- The first `n` bytes of a list, padded with zero bytes (R188: bytes after the last field are zero). -/
def Tbl.ofBytes (n : Nat) (bytes : List Byte) : Tbl Byte n :=
  ⟨(bytes ++ List.replicate n 0).take n, by
    rw [List.length_take, List.length_append, List.length_replicate]; omega⟩

end Sys2Proof
end

