-- ==== Sys2Proof/Config.lean ====
section
/-! DEFINITION. What is fixed for a part: its capacities (Introduction, "Capacities"), its identity (R166, R188)
and the constants of its cadence arithmetic. -/

namespace Sys2Proof.Config

/-- The 64-bit serial number, "fixed at manufacture and different for every part" (R166). It has no body:
no proof can see its value (log 3). -/
opaque serialNumber : BitVec 64

/-- Vendor code of the IDENTIFY reply (R188). -/
def vendorCode : BitVec 16 := 0x0A31

/-- Part code of the IDENTIFY reply (R166, R188). -/
def partCode : BitVec 16 := 364

/-- Revision number of the IDENTIFY reply (R188). -/
def revision : Byte := 1

/-- Slots of the Cell Pool (R95). -/
def poolSlots : Nat := 2048

/-- Entries of a drop port's essence queue (R92). -/
def essenceDepth : Nat := 512

/-- Entries of a drop port's service queue (R97). -/
def serviceDepth : Nat := 32

/-- Cells of a trunk's command FIFO (R155). -/
def commandDepth : Nat := 8

/-- Entries of a trunk's reply queue (R150). -/
def replyDepth : Nat := 16

/-- Entries of a trunk's report queue (R151). -/
def reportDepth : Nat := 16

/-- Essence cells that may pass over a waiting service entry (R98). -/
def passOverLimit : Nat := 64

/-- Setup margin after a power-on reset, in ticks (R3). -/
def resetMargin : Nat := 20000

/-- Largest setup margin, in ticks (R3). -/
def maxMargin : Nat := 1000000

/-- Smallest integer part of a frame period, in ticks (R6). -/
def minPeriod : Nat := 10000

/-- Largest denominator of the fractional part of a period (R6). -/
def maxDenominator : Nat := 4095

/-- The horizon of a take's target, in ticks (R12). -/
def horizon : Nat := 2 ^ 32

/-- Age at which an epoch is renormalised, in ticks (R16). -/
def renormalAge : Nat := 2 ^ 40

/-- Largest error count (R136). -/
def maxErrors : Nat := 255

/-- What an errored cell adds to the error count (R136). -/
def errorWeight : Nat := 8

/-- Error count from which a trunk is DEGRADED (R136). -/
def degradedFrom : Nat := 96

/-- Good cells in a recovery run (R141). -/
def runCells : Nat := 16

/-- Completed runs that recovery needs (R142). -/
def recoveryRuns : Nat := 128

end Sys2Proof.Config
end

