-- ==== Sys2Proof/Syntax.lean ====
section
/-! DEFINITION. The syntax of the block: the 64-byte cell (11.1), the operands of the commands (11.2), and `Instr`,
one constructor for each row of spec/opcode_table.json. -/

namespace Sys2Proof

/-- A cell as it stands on a link (11.1): 64 bytes. `kind` is byte 0, `marks` byte 1 (frame-start mark, OVERWRITTEN
flag, two reserved bits, stream or channel), `seq` bytes 2–3, `payload` bytes 4–59, `crc` bytes 60–63. -/
structure Cell where
  kind : Byte
  marks : Byte
  seq : BitVec 16
  payload : Tbl Byte 56
  crc : BitVec 32
  deriving DecidableEq, Repr

/-- The header fields of an executed command that its rule may use (9.2): the tag and the owner. -/
structure Header where
  tag : Tag
  owner : Byte
  deriving DecidableEq, Repr

/-- A target-mode operand (R187), with the six extension bytes where it names AT (R160). -/
inductive ModeOperand where
  | next
  | frames
  | atTime (target : Time)
  /-- a byte that names no mode -/
  | other (code : Byte)
  deriving DecidableEq, Repr

/-- Operands of TAKE and PROBE (R59, 11.2). -/
structure TakeOperands where
  dest : Byte
  source : Byte
  guardByte : Byte
  mode : ModeOperand
  frames : BitVec 16
  overrideFlag : Bool
  deriving DecidableEq, Repr

/-- Operands of SWEEP (R117, 11.2). -/
structure SweepOperands where
  first : Byte
  count : Byte
  direction : Byte
  source : Byte
  mode : ModeOperand
  frames : BitVec 16
  deriving DecidableEq, Repr

/-- Operands of SWAP (R119, 11.2). -/
structure SwapOperands where
  destA : Byte
  destB : Byte
  mode : ModeOperand
  frames : BitVec 16
  deriving DecidableEq, Repr

/-- One pair of a SALVO_LOAD as sent: destination, source and guard byte (R105). -/
structure RawPair where
  dest : Byte
  source : Byte
  guardByte : Byte
  deriving DecidableEq, Repr

/-- Operands of SALVO_LOAD (R105, 11.2). The pair list is present when the pair count lies from 1 to 10 (R160). -/
structure LoadOperands where
  slot : Byte
  start : Byte
  count : Byte
  pairs : List RawPair
  deriving DecidableEq, Repr

/-- Operands of SALVO_FIRE (R108, 11.2). -/
structure FireOperands where
  slot : Byte
  fireMode : Byte
  mode : ModeOperand
  frames : BitVec 16
  deriving DecidableEq, Repr

/-- Operands of DEST_DEFINE (3.2, 11.2); the offset is a signed 24-bit value. -/
structure DestOperands where
  dest : Byte
  format : Byte
  cls : Byte
  offset : BitVec 24
  deriving DecidableEq, Repr

/-- The form of a FORMAT_DEFINE (R6, R187): the undefine form ignores operand bytes 2–11. -/
inductive FormatForm where
  | undefine
  | define (pi : BitVec 24) (pn pd wl : BitVec 16) (cadence : Byte)
  deriving DecidableEq, Repr

/-- The four tally bits of a source (R25). -/
structure Tally where
  pgm : Bool
  pvw : Bool
  iso : Bool
  aux : Bool
  deriving DecidableEq, Repr

/-- Status codes of replies (R163). -/
inductive Status where
  | ok | okLate | okClamped | range | undefined | formatMismatch | noArm | lockedOut | isProtected | recording
  | operandError | inUse | notHeld | busy | emptySlot | lengthError | codeError
  deriving DecidableEq, Repr

/-- The commands and events of the G364: one constructor for each row of spec/opcode_table.json. A row that executes a
COMMAND cell carries the trunk whose FIFO head it executes, the header and the operands of that cell. -/
inductive Instr where
  /-- TRUNK_CELL_ARRIVAL (R135). `pick` settles which member of the free list the Cell Pool takes if it takes one (R95: any
  member may be the one taken): the first free slot found counting up from `pick`. Nothing constrains it (log 4). -/
  | trunkCellArrival (t : Trunk) (c : Cell) (pick : PoolNo)
  | lostDelineation (t : Trunk)
  | dropTransmitOpportunity (p : Port)
  | returnTransmitOpportunity (t : Trunk)
  | resetLineAsserted
  | resetLineReleased
  | commitEvent (d : DestNo)
  /-- SWAP_COMMIT_EVENT (R121); `d` is either half's destination. -/
  | swapCommitEvent (d : DestNo)
  | switchEvent (d : DestNo)
  | frameWatchExpiry (n : SourceNo)
  | drainExpiry (d : DestNo)
  | joinExpiry (d : DestNo)
  | fillFramePoint (d : DestNo)
  | renormalisation (f : FormatNo)
  | take (t : Trunk) (h : Header) (o : TakeOperands)
  | probe (t : Trunk) (h : Header) (o : TakeOperands)
  | cancel (t : Trunk) (h : Header) (dest : Byte)
  | sweep (t : Trunk) (h : Header) (o : SweepOperands)
  | swap (t : Trunk) (h : Header) (o : SwapOperands)
  | salvoLoad (t : Trunk) (h : Header) (o : LoadOperands)
  | salvoFire (t : Trunk) (h : Header) (o : FireOperands)
  | salvoClear (t : Trunk) (h : Header) (slot : Byte)
  | lock (t : Trunk) (h : Header) (dest : Byte)
  | unlock (t : Trunk) (h : Header) (dest : Byte)
  | protect (t : Trunk) (h : Header) (dest : Byte)
  | unprotect (t : Trunk) (h : Header) (dest : Byte)
  | armOverride (t : Trunk) (h : Header) (dest : Byte)
  | recordState (t : Trunk) (h : Header) (dest code : Byte)
  | sourceDefine (t : Trunk) (h : Header) (source format : Byte) (label : Tbl Byte 16)
  | sourceTally (t : Trunk) (h : Header) (source : Byte) (bits : Tally)
  | destDefine (t : Trunk) (h : Header) (o : DestOperands)
  | formatDefine (t : Trunk) (h : Header) (format : Byte) (form : FormatForm)
  | timeset (t : Trunk) (h : Header) (v : Time)
  | setMargin (t : Trunk) (h : Header) (margin : BitVec 32)
  | setReportMask (t : Trunk) (h : Header) (mask : Byte)
  | trunkRelease (t : Trunk) (h : Header) (named : Byte)
  | trunkPolicy (t : Trunk) (h : Header) (named policy : Byte)
  | hold (t : Trunk) (h : Header)
  | resume (t : Trunk) (h : Header)
  | resetArm (t : Trunk) (h : Header)
  | reset (t : Trunk) (h : Header)
  | identify (t : Trunk) (h : Header)
  | readStatus (t : Trunk) (h : Header)
  | readDest (t : Trunk) (h : Header) (start count wrap : Byte)
  | readSource (t : Trunk) (h : Header) (source : Byte)
  | readFormat (t : Trunk) (h : Header) (format : Byte)
  | readSalvo (t : Trunk) (h : Header) (slot half : Byte)
  | readCounters (t : Trunk) (h : Header) (group : Byte) (clear : Bool)
  /-- COMMAND_DECODE_FAILURE (R159): the code, sub-code and tag as received and the status of the first failing check. -/
  | commandDecodeFailure (t : Trunk) (code sub : Byte) (tag : Tag) (status : Status)
  | houseTick
  deriving DecidableEq, Repr

end Sys2Proof
end

