-- ==== Sys2Proof/WellFormed.lean ====
section
/-! DEFINITION. Which terms of `Instr` a COMMAND cell can spell: the checks that the types alone do not make. -/

namespace Sys2Proof

/-- A mode operand that names no mode is a byte above 2 (R187). -/
def ModeOperand.wf : ModeOperand → Bool
  | .other code => 2 < code.toNat
  | _ => true

/-- The pair list is as long as the pair count when that lies from 1 to 10, and empty otherwise (R160). -/
def LoadOperands.wf (o : LoadOperands) : Bool :=
  o.pairs.length == (if 1 ≤ o.count.toNat ∧ o.count.toNat ≤ 10 then o.count.toNat else 0)

/-- Decoding fails with LENGTH_ERROR or CODE_ERROR alone (R159). -/
def Status.isDecodeFailure : Status → Bool
  | .lengthError | .codeError => true
  | _ => false

/-- A command is well formed when its operands are ones that a cell can carry. -/
def Instr.wf : Instr → Bool
  | .take _ _ o | .probe _ _ o => o.mode.wf
  | .sweep _ _ o => o.mode.wf
  | .swap _ _ o => o.mode.wf
  | .salvoFire _ _ o => o.mode.wf
  | .salvoLoad _ _ o => o.wf
  | .commandDecodeFailure _ _ _ _ status => status.isDecodeFailure
  | _ => true

end Sys2Proof
end

