-- ==== Sys2Proof/Decode.lean ====
section
/-! DEFINITION. Bits and bytes: byte order (R185), the CRC of a cell (R186), the command codes and operand layouts of 11.2,
and the decoding of a COMMAND cell into the row that executes it (R159, R160), with the encoder of well-formed commands.
`decodeTableWord` is the host's question about table words; the table gives no row any bits. -/

namespace Sys2Proof

/-! ## Byte order (R185: most significant byte first) -/

/-- The last `n` bytes of a number, most significant first. -/
def toBytes : Nat → Nat → List Byte
  | 0, _ => []
  | n + 1, x => BitVec.ofNat 8 (x / 256 ^ n) :: toBytes n x

/-- The number that bytes spell, most significant first. -/
def fromBytes (bytes : List Byte) : Nat :=
  bytes.foldl (fun acc b => acc * 256 + b.toNat) 0

/-- Byte `i` of an operand field or payload. -/
def byteAt (bytes : List Byte) (i : Nat) : Byte := bytes.getD i 0

/-- The number spelled by the `n` bytes from byte `i` on. -/
def fieldAt (bytes : List Byte) (i n : Nat) : Nat := fromBytes ((bytes.drop i).take n)

/-! ## Cells -/

/-- Kind codes (11.1). -/
def Cell.idleKind : Byte := 0x00
def Cell.essenceKind : Byte := 0x01
def Cell.commandKind : Byte := 0x02
def Cell.replyKind : Byte := 0x03
def Cell.reportKind : Byte := 0x04
def Cell.displayKind : Byte := 0x05
def Cell.fillKind : Byte := 0x06

/-- Bytes 0 to 59 of a cell: header and payload. -/
def Cell.body (c : Cell) : List Byte :=
  [c.kind, c.marks] ++ toBytes 2 c.seq.toNat ++ c.payload.rows

/-- One data bit into the CRC register: the register is shifted toward its most significant end, and XORed with the polynomial
when the bit shifted out differs from the data bit (R186). -/
def crcBit (reg : BitVec 32) (bit : Bool) : BitVec 32 :=
  if reg.msb != bit then (reg <<< 1) ^^^ 0x04C11DB7#32 else reg <<< 1

/-- One byte into the CRC register, most significant bit first (R186). -/
def crcByte (reg : BitVec 32) (b : Byte) : BitVec 32 :=
  [7, 6, 5, 4, 3, 2, 1, 0].foldl (fun r i => crcBit r (b.getLsbD i)) reg

/-- The CRC of a run of bytes: preset to all ones, complemented at the end (R186). -/
def crc32 (bytes : List Byte) : BitVec 32 := ~~~ (bytes.foldl crcByte 0xFFFFFFFF#32)

/-- The CRC that a cell with these header and payload bytes carries (R186). -/
def Cell.crcOf (c : Cell) : BitVec 32 := crc32 c.body

/-- The cell with the CRC computed for it. -/
def Cell.withCrc (c : Cell) : Cell := { c with crc := c.crcOf }

/-- A cell of a kind, its header fields and payload given, with its CRC. -/
def Cell.make (kind marks : Byte) (seq : BitVec 16) (payload : List Byte) : Cell :=
  Cell.withCrc { kind, marks, seq, payload := Tbl.ofBytes 56 payload, crc := 0 }

/-- The IDLE cell the part sends: unused header fields zero, payload 56 zero bytes (R185, R153). -/
def Cell.idle : Cell := Cell.make Cell.idleKind 0 0 []

/-- The frame-start mark: bit 7 of byte 1 (11.1). -/
def Cell.frameStart (c : Cell) : Bool := c.marks.getLsbD 7

/-- The stream or channel: bits 3–0 of byte 1 (11.1). -/
def Cell.stream (c : Cell) : Fin 16 := ⟨c.marks.toNat % 16, Nat.mod_lt _ (by decide)⟩

/-- "The CRC computed over the 60 bytes of header and payload differs from the cell's CRC field" (R135) is false. -/
def Cell.crcMatches (c : Cell) : Bool := c.crcOf == c.crc

/-- The header bits that a cell of its kind does not use are zero (R135, R185): an ESSENCE cell uses the frame-start mark, the
stream and the sequence number; IDLE and COMMAND cells use the kind alone. -/
def Cell.reservedClear (c : Cell) : Bool :=
  if c.kind = Cell.essenceKind then (c.marks &&& 0x70#8) == 0 else c.marks == 0 && c.seq == 0

/-- A good forward cell (R135): kind IDLE, ESSENCE or COMMAND, reserved bits zero, CRC matching. Every other kind is invalid or
of the wrong direction. -/
def Cell.good (c : Cell) : Bool :=
  (c.kind == Cell.idleKind || c.kind == Cell.essenceKind || c.kind == Cell.commandKind) && c.reservedClear && c.crcMatches

/-! ## Command codes (11.2) -/

/-- The assigned commands. -/
inductive CommandName where
  | take | probe | cancel | sweep | swap | salvoLoad | salvoFire | salvoClear | lock | unlock | protect | unprotect
  | armOverride | recordState | sourceTally | hold | resume | identify | readStatus | readDest | readSource | readFormat
  | readSalvo | readCounters | sourceDefine | destDefine | formatDefine | timeset | setMargin | setReportMask | trunkRelease
  | trunkPolicy | resetArm | reset
  deriving DecidableEq, Repr

/-- The code and sub-code of each command (11.2). Code 0x7F is the extended group. -/
def CommandName.codes : CommandName → Byte × Byte
  | .take => (0x01, 0) | .probe => (0x02, 0) | .cancel => (0x03, 0) | .sweep => (0x04, 0) | .swap => (0x05, 0)
  | .salvoLoad => (0x08, 0) | .salvoFire => (0x09, 0) | .salvoClear => (0x0A, 0)
  | .lock => (0x10, 0) | .unlock => (0x11, 0) | .protect => (0x12, 0) | .unprotect => (0x13, 0)
  | .armOverride => (0x14, 0) | .recordState => (0x15, 0) | .sourceTally => (0x20, 0)
  | .hold => (0x30, 0) | .resume => (0x31, 0) | .identify => (0x40, 0) | .readStatus => (0x41, 0)
  | .readDest => (0x42, 0) | .readSource => (0x43, 0) | .readFormat => (0x44, 0) | .readSalvo => (0x45, 0)
  | .readCounters => (0x46, 0)
  | .sourceDefine => (0x7F, 0x01) | .destDefine => (0x7F, 0x02) | .formatDefine => (0x7F, 0x03) | .timeset => (0x7F, 0x04)
  | .setMargin => (0x7F, 0x05) | .setReportMask => (0x7F, 0x06) | .trunkRelease => (0x7F, 0x07)
  | .trunkPolicy => (0x7F, 0x08) | .resetArm => (0x7F, 0x09) | .reset => (0x7F, 0x0A)

/-- Every assigned command. -/
def CommandName.all : List CommandName :=
  [.take, .probe, .cancel, .sweep, .swap, .salvoLoad, .salvoFire, .salvoClear, .lock, .unlock, .protect, .unprotect,
   .armOverride, .recordState, .sourceTally, .hold, .resume, .identify, .readStatus, .readDest, .readSource, .readFormat,
   .readSalvo, .readCounters, .sourceDefine, .destDefine, .formatDefine, .timeset, .setMargin, .setReportMask, .trunkRelease,
   .trunkPolicy, .resetArm, .reset]

/-- Checks 2 and 3 of R159: the command that a code and sub-code name, if they name one. -/
def commandOf (code sub : Byte) : Option CommandName := CommandName.all.find? fun k => k.codes == (code, sub)

/-- The length of a command's fixed operands (11.2): what check 4 of R159 requires. -/
def CommandName.fixedLength : CommandName → Nat
  | .take | .probe | .sweep => 7
  | .swap | .salvoFire => 5
  | .salvoLoad | .readDest => 3
  | .cancel | .lock | .unlock | .protect | .unprotect | .armOverride | .salvoClear | .readSource | .readFormat
  | .setReportMask | .trunkRelease => 1
  | .recordState | .sourceTally | .readSalvo | .readCounters | .trunkPolicy => 2
  | .hold | .resume | .identify | .readStatus | .resetArm | .reset => 0
  | .sourceDefine => 18
  | .destDefine | .timeset => 6
  | .formatDefine => 12
  | .setMargin => 4

/-- Where a command's target-mode operand stands among its operand bytes (11.2). -/
def CommandName.modeOffset : CommandName → Option Nat
  | .take | .probe => some 3
  | .sweep => some 4
  | .swap | .salvoFire => some 2
  | _ => none

/-- The pairs that a SALVO_LOAD with this pair count carries (R160). -/
def pairsCalledFor (count : Byte) : Nat := if 1 ≤ count.toNat ∧ count.toNat ≤ 10 then count.toNat else 0

/-- What the fixed operands call for beyond themselves (R160): what check 5 of R159 adds. -/
def CommandName.extension (k : CommandName) (ops : List Byte) : Nat :=
  match k.modeOffset with
  | some i => if byteAt ops i = 2 then 6 else 0
  | none => if k = .salvoLoad then 3 * pairsCalledFor (byteAt ops 2) else 0

/-! ## Operands (11.2, R187) -/

/-- The target-mode operand at byte `i`, with the target time of an AT mode from byte `ext` on. -/
def modeAt (ops : List Byte) (i ext : Nat) : ModeOperand :=
  if byteAt ops i = 0 then .next
  else if byteAt ops i = 1 then .frames
  else if byteAt ops i = 2 then .atTime (BitVec.ofNat 48 (fieldAt ops ext 6))
  else .other (byteAt ops i)

/-- `n` pairs of three bytes (11.2). -/
def pairsFrom : Nat → List Byte → List RawPair
  | 0, _ => []
  | n + 1, bytes => ⟨byteAt bytes 0, byteAt bytes 1, byteAt bytes 2⟩ :: pairsFrom n (bytes.drop 3)

/-- The tally-bits operand (R187): bit 0 PGM, bit 1 PVW, bit 2 ISO, bit 3 AUX; the other bits are ignored. -/
def tallyOf (b : Byte) : Tally := ⟨b.getLsbD 0, b.getLsbD 1, b.getLsbD 2, b.getLsbD 3⟩

/-- Four tally bits as one byte, coded as the SOURCE_TALLY operand (R188). -/
def Tally.byte (y : Tally) : Byte :=
  (if y.pgm then 1 else 0) ||| (if y.pvw then 2 else 0) ||| (if y.iso then 4 else 0) ||| (if y.aux then 8 else 0)

/-- TAKE and PROBE: 0 destination; 1 source; 2 guard; 3 target mode; 4–5 n; 6 flags; AT: 7–12 (11.2). -/
def takeOperands (ops : List Byte) : TakeOperands where
  dest := byteAt ops 0
  source := byteAt ops 1
  guardByte := byteAt ops 2
  mode := modeAt ops 3 7
  frames := BitVec.ofNat 16 (fieldAt ops 4 2)
  overrideFlag := (byteAt ops 6).getLsbD 0

/-- SWEEP: 0 first; 1 count; 2 direction; 3 source; 4 target mode; 5–6 n; AT: 7–12 (11.2). -/
def sweepOperands (ops : List Byte) : SweepOperands where
  first := byteAt ops 0
  count := byteAt ops 1
  direction := byteAt ops 2
  source := byteAt ops 3
  mode := modeAt ops 4 7
  frames := BitVec.ofNat 16 (fieldAt ops 5 2)

/-- SWAP: 0 A; 1 B; 2 target mode; 3–4 n; AT: 5–10 (11.2). -/
def swapOperands (ops : List Byte) : SwapOperands where
  destA := byteAt ops 0
  destB := byteAt ops 1
  mode := modeAt ops 2 5
  frames := BitVec.ofNat 16 (fieldAt ops 3 2)

/-- SALVO_LOAD: 0 slot; 1 start; 2 n; 3– pairs (11.2). -/
def loadOperands (ops : List Byte) : LoadOperands where
  slot := byteAt ops 0
  start := byteAt ops 1
  count := byteAt ops 2
  pairs := pairsFrom (pairsCalledFor (byteAt ops 2)) (ops.drop 3)

/-- SALVO_FIRE: 0 slot; 1 fire mode; 2 target mode; 3–4 n; AT: 5–10 (11.2). -/
def fireOperands (ops : List Byte) : FireOperands where
  slot := byteAt ops 0
  fireMode := byteAt ops 1
  mode := modeAt ops 2 5
  frames := BitVec.ofNat 16 (fieldAt ops 3 2)

/-- FORMAT_DEFINE: 1 form; 2–4 Pi; 5–6 Pn; 7–8 Pd; 9–10 Wl; 11 cadence source. Bit 0 of the form selects the define form, and the
undefine form ignores bytes 2–11 (R187). -/
def formatForm (ops : List Byte) : FormatForm :=
  if (byteAt ops 1).getLsbD 0 then
    .define (BitVec.ofNat 24 (fieldAt ops 2 3)) (BitVec.ofNat 16 (fieldAt ops 5 2)) (BitVec.ofNat 16 (fieldAt ops 7 2))
      (BitVec.ofNat 16 (fieldAt ops 9 2)) (byteAt ops 11)
  else .undefine

/-- The row of a command that passed the checks of R159, from its operand bytes (11.2). -/
def rowOf (t : Trunk) (h : Header) (k : CommandName) (ops : List Byte) : Instr :=
  match k with
  | .take => .take t h (takeOperands ops)
  | .probe => .probe t h (takeOperands ops)
  | .cancel => .cancel t h (byteAt ops 0)
  | .sweep => .sweep t h (sweepOperands ops)
  | .swap => .swap t h (swapOperands ops)
  | .salvoLoad => .salvoLoad t h (loadOperands ops)
  | .salvoFire => .salvoFire t h (fireOperands ops)
  | .salvoClear => .salvoClear t h (byteAt ops 0)
  | .lock => .lock t h (byteAt ops 0)
  | .unlock => .unlock t h (byteAt ops 0)
  | .protect => .protect t h (byteAt ops 0)
  | .unprotect => .unprotect t h (byteAt ops 0)
  | .armOverride => .armOverride t h (byteAt ops 0)
  | .recordState => .recordState t h (byteAt ops 0) (byteAt ops 1)
  | .sourceTally => .sourceTally t h (byteAt ops 0) (tallyOf (byteAt ops 1))
  | .hold => .hold t h
  | .resume => .resume t h
  | .identify => .identify t h
  | .readStatus => .readStatus t h
  | .readDest => .readDest t h (byteAt ops 0) (byteAt ops 1) (byteAt ops 2)
  | .readSource => .readSource t h (byteAt ops 0)
  | .readFormat => .readFormat t h (byteAt ops 0)
  | .readSalvo => .readSalvo t h (byteAt ops 0) (byteAt ops 1)
  | .readCounters => .readCounters t h (byteAt ops 0) ((byteAt ops 1).getLsbD 0)
  | .sourceDefine => .sourceDefine t h (byteAt ops 0) (byteAt ops 1) (Tbl.ofBytes 16 (ops.drop 2))
  | .destDefine => .destDefine t h ⟨byteAt ops 0, byteAt ops 1, byteAt ops 2, BitVec.ofNat 24 (fieldAt ops 3 3)⟩
  | .formatDefine => .formatDefine t h (byteAt ops 0) (formatForm ops)
  | .timeset => .timeset t h (BitVec.ofNat 48 (fieldAt ops 0 6))
  | .setMargin => .setMargin t h (BitVec.ofNat 32 (fieldAt ops 0 4))
  | .setReportMask => .setReportMask t h (byteAt ops 0)
  | .trunkRelease => .trunkRelease t h (byteAt ops 0)
  | .trunkPolicy => .trunkPolicy t h (byteAt ops 0) (byteAt ops 1)
  | .resetArm => .resetArm t h
  | .reset => .reset t h

/-- The header fields of a COMMAND cell's payload (11.2): code, sub-code, tag, owner and operand length. -/
structure CommandHeader where
  code : Byte
  sub : Byte
  tag : Tag
  owner : Byte
  length : Nat
  deriving DecidableEq, Repr

/-- The command header of a cell (11.2). -/
def headerOf (c : Cell) : CommandHeader where
  code := byteAt c.payload.rows 0
  sub := byteAt c.payload.rows 1
  tag := BitVec.ofNat 16 (fieldAt c.payload.rows 2 2)
  owner := byteAt c.payload.rows 4
  length := (byteAt c.payload.rows 5).toNat

/-- The decoding of an executed COMMAND cell of trunk `t` by the five checks of R159, in their order. -/
def decodeCommand (t : Trunk) (c : Cell) : Instr :=
  let p := headerOf c
  if 48 < p.length then .commandDecodeFailure t p.code p.sub p.tag .lengthError
  else
    match commandOf p.code p.sub with
    | none => .commandDecodeFailure t p.code p.sub p.tag .codeError
    | some k =>
      if p.length < k.fixedLength then .commandDecodeFailure t p.code p.sub p.tag .lengthError
      else if p.length < k.fixedLength + k.extension (c.payload.rows.drop 6) then
        .commandDecodeFailure t p.code p.sub p.tag .lengthError
      else rowOf t ⟨p.tag, p.owner⟩ k ((c.payload.rows.drop 6).take p.length)

/-! ## The encoder -/

/-- A target-mode operand's byte (R187). -/
def ModeOperand.code : ModeOperand → Byte
  | .next => 0
  | .frames => 1
  | .atTime _ => 2
  | .other code => code

/-- The six extension bytes of an AT target (R160). -/
def ModeOperand.extensionBytes : ModeOperand → List Byte
  | .atTime target => toBytes 6 target.toNat
  | _ => []

/-- A yes/no result or flag as a byte. -/
def flagByte (b : Bool) : Byte := if b then 1 else 0

/-- The operand bytes of TAKE and PROBE (11.2). -/
def TakeOperands.bytes (o : TakeOperands) : List Byte :=
  [o.dest, o.source, o.guardByte, o.mode.code] ++ toBytes 2 o.frames.toNat ++ [flagByte o.overrideFlag] ++ o.mode.extensionBytes

/-- The trunk, name, header and operand bytes of a command row; none for the rows that execute no well-formed command. -/
def spell : Instr → Option (Trunk × CommandName × Header × List Byte)
  | .take t h o => some (t, .take, h, o.bytes)
  | .probe t h o => some (t, .probe, h, o.bytes)
  | .cancel t h d => some (t, .cancel, h, [d])
  | .sweep t h o => some (t, .sweep, h,
      [o.first, o.count, o.direction, o.source, o.mode.code] ++ toBytes 2 o.frames.toNat ++ o.mode.extensionBytes)
  | .swap t h o => some (t, .swap, h, [o.destA, o.destB, o.mode.code] ++ toBytes 2 o.frames.toNat ++ o.mode.extensionBytes)
  | .salvoLoad t h o => some (t, .salvoLoad, h,
      [o.slot, o.start, o.count] ++ o.pairs.flatMap fun p => [p.dest, p.source, p.guardByte])
  | .salvoFire t h o => some (t, .salvoFire, h,
      [o.slot, o.fireMode, o.mode.code] ++ toBytes 2 o.frames.toNat ++ o.mode.extensionBytes)
  | .salvoClear t h k => some (t, .salvoClear, h, [k])
  | .lock t h d => some (t, .lock, h, [d])
  | .unlock t h d => some (t, .unlock, h, [d])
  | .protect t h d => some (t, .protect, h, [d])
  | .unprotect t h d => some (t, .unprotect, h, [d])
  | .armOverride t h d => some (t, .armOverride, h, [d])
  | .recordState t h d code => some (t, .recordState, h, [d, code])
  | .sourceDefine t h n f label => some (t, .sourceDefine, h, [n, f] ++ label.rows)
  | .sourceTally t h n bits => some (t, .sourceTally, h, [n, bits.byte])
  | .destDefine t h o => some (t, .destDefine, h, [o.dest, o.format, o.cls] ++ toBytes 3 o.offset.toNat)
  | .formatDefine t h f .undefine => some (t, .formatDefine, h, [f, 0] ++ List.replicate 10 0)
  | .formatDefine t h f (.define pi pn pd wl cadence) => some (t, .formatDefine, h,
      [f, 1] ++ toBytes 3 pi.toNat ++ toBytes 2 pn.toNat ++ toBytes 2 pd.toNat ++ toBytes 2 wl.toNat ++ [cadence])
  | .timeset t h v => some (t, .timeset, h, toBytes 6 v.toNat)
  | .setMargin t h m => some (t, .setMargin, h, toBytes 4 m.toNat)
  | .setReportMask t h m => some (t, .setReportMask, h, [m])
  | .trunkRelease t h n => some (t, .trunkRelease, h, [n])
  | .trunkPolicy t h n p => some (t, .trunkPolicy, h, [n, p])
  | .hold t h => some (t, .hold, h, [])
  | .resume t h => some (t, .resume, h, [])
  | .resetArm t h => some (t, .resetArm, h, [])
  | .reset t h => some (t, .reset, h, [])
  | .identify t h => some (t, .identify, h, [])
  | .readStatus t h => some (t, .readStatus, h, [])
  | .readDest t h a n w => some (t, .readDest, h, [a, n, w])
  | .readSource t h n => some (t, .readSource, h, [n])
  | .readFormat t h f => some (t, .readFormat, h, [f])
  | .readSalvo t h k half => some (t, .readSalvo, h, [k, half])
  | .readCounters t h g clear => some (t, .readCounters, h, [g, flagByte clear])
  | .trunkCellArrival .. | .lostDelineation .. | .dropTransmitOpportunity .. | .returnTransmitOpportunity ..
  | .resetLineAsserted | .resetLineReleased | .commitEvent .. | .swapCommitEvent .. | .switchEvent ..
  | .frameWatchExpiry .. | .drainExpiry .. | .joinExpiry .. | .fillFramePoint .. | .renormalisation ..
  | .commandDecodeFailure .. | .houseTick => none

/-- The COMMAND cell of a command, its header and its operand bytes (11.2). -/
def commandCell (k : CommandName) (h : Header) (ops : List Byte) : Cell :=
  Cell.make Cell.commandKind 0 0
    ([k.codes.1, k.codes.2] ++ toBytes 2 h.tag.toNat ++ [h.owner, BitVec.ofNat 8 ops.length] ++ ops)

/-- The COMMAND cell that spells a command row. -/
def encodeCommand (i : Instr) : Option Cell := (spell i).map fun p => commandCell p.2.1 p.2.2.1 p.2.2.2

/-! ## Table words -/

/-- The command that a table word spells. The table gives no row any bits (each row's "fields" is empty), so no word spells one. -/
def decodeTableWord (_nbits _w : Nat) : Option Instr := none

end Sys2Proof
end

