-- ==== Sys2Proof/Machine/State.lean ====
section
/-! DEFINITION. The state of the G364: every record of every block (INVENTORY.md, "State"), as plain data, and its
values after a power-on reset. -/

namespace Sys2Proof.Machine

/-! ## Cadence Unit -/

/-- A format record (1.4). -/
structure Format where
  defined : Bool
  pi : BitVec 24
  pn : BitVec 16
  pd : BitVec 16
  wl : BitVec 16
  /-- cadence source, or NONE -/
  cadence : Option SourceNo
  /-- epoch E -/
  epoch : Time
  /-- epoch frame number N_E -/
  epochFrame : FrameNo
  /-- TRACKING (true) or FREE_RUNNING -/
  tracking : Bool
  reanchors : Counter
  deriving DecidableEq, Repr

/-- An undefined format record, as it reads (R5). -/
def Format.undefined : Format :=
  { defined := false, pi := 0, pn := 0, pd := 0, wl := 0, cadence := none, epoch := 0, epochFrame := 0,
    tracking := false, reanchors := 0 }

/-! ## Source Tracker -/

/-- The state of a source (2.3). -/
inductive SourceState where
  | undefined | absent | acquiring | locked | lost
  deriving DecidableEq, Repr

/-- A source record (2.1). -/
structure Source where
  /-- F0–F15, or UNDEFINED -/
  format : Option FormatNo
  label : Tbl Byte 16
  tally : Tally
  state : SourceState
  lastCapture : Option Time
  frameWatch : Option Time
  inWindow : Nat
  outWindow : Nat
  lastSeq : Option (BitVec 16)
  gaps : Counter
  /-- signed; stored saturated to 32 bits (R19) -/
  phase : Int
  usage : Nat
  deriving DecidableEq, Repr

/-- Sixteen spaces (R19, R124). -/
def blankLabel : Tbl Byte 16 := Tbl.fill 16 0x20

/-- All four tally bits off. -/
def Tally.off : Tally := ⟨false, false, false, false⟩

/-- A source record after a power-on reset (R19). -/
def Source.reset : Source :=
  { format := none, label := blankLabel, tally := Tally.off, state := .undefined, lastCapture := none, frameWatch := none,
    inWindow := 0, outWindow := 0, lastSeq := none, gaps := 0, phase := 0, usage := 0 }

/-! ## Crosspoint Table -/

/-- MONITOR or RECORDER. -/
inductive DestClass where
  | monitor | recorder
  deriving DecidableEq, Repr

/-- The protection of a destination (R48). -/
inductive Protection where
  | free | locked | guarded
  deriving DecidableEq, Repr

/-- A destination record (3.1); the two take fields are held by the Take Scheduler. -/
structure Dest where
  /-- F0–F15, or UNDEFINED -/
  format : Option FormatNo
  cls : DestClass
  /-- ON (true) or OFF -/
  recording : Bool
  /-- offset O, in ticks -/
  offset : Int
  /-- current source, or NONE -/
  current : Option SourceNo
  protection : Protection
  owner : Byte
  deriving DecidableEq, Repr

/-- A destination record after a power-on reset (R37). -/
def Dest.reset : Dest :=
  { format := none, cls := .monitor, recording := false, offset := 0, current := none, protection := .free, owner := 0 }

/-- A trunk's arm record (R54). -/
inductive Arm where
  | clear
  | overriding (d : DestNo) (owner : Byte)
  | reset
  deriving DecidableEq, Repr

/-! ## Take Scheduler -/

/-- The source of a take: a definite source or NONE, or not yet fixed for a SWAP half before its commit (4.1). -/
inductive TakeSource where
  | fixed (n : Option SourceNo)
  | unfixed
  deriving DecidableEq, Repr

/-- NEXT, FRAMES or AT. -/
inductive TargetMode where
  | next | frames | atTime
  deriving DecidableEq, Repr

/-- ARMED, COMMITTED or FOLLOW. -/
inductive TakeState where
  | armed | committed | following
  deriving DecidableEq, Repr

/-- A switch point with the number of the frame there (4.1: the frame number is present with S). -/
structure Placed where
  switchPoint : Time
  frame : FrameNo
  deriving DecidableEq, Repr

/-- A take record (4.1). -/
structure Take where
  source : TakeSource
  /-- absent, or a source or NONE -/
  guardSource : Option (Option SourceNo)
  mode : TargetMode
  target : Time
  frames : BitVec 16
  placed : Option Placed
  late : Bool
  deferred : Bool
  overrideUsed : Bool
  trunk : Trunk
  tag : Tag
  salvo : Option SlotNo
  partner : Option DestNo
  state : TakeState
  deriving DecidableEq, Repr

/-- How a take ended (R65, R71). -/
inductive TakeOutcome where
  | done | doneLate | noSignal | superseded | guardFail | cancelled
  deriving DecidableEq, Repr

/-! ## Switch Unit -/

/-- FORWARDING or WAITING_FRAME. -/
inductive FwdFlag where
  | forwarding | waiting
  deriving DecidableEq, Repr

/-- Where a destination stands in a cut, with the fields of the switching record that its state holds (5.1): STEADY holds a
forwarded source (or NONE) and the forwarding flag; DRAINING the old source, the tail copy and the drain expiry; JOINING the
join expiry, its forwarded source being none pending. -/
inductive Cut where
  | steady (forwarded : Option SourceNo) (flag : FwdFlag)
  | draining (old : SourceNo) (tail : Bool) (expiry : Time)
  | joining (expiry : Time)
  deriving DecidableEq, Repr

/-- A switching record (5.1). `fill` is the next fill frame point, present while the fill timer is active. -/
structure Switching where
  cut : Cut
  fill : Option Time
  deriving DecidableEq, Repr

/-- A switching record after a power-on reset (R80). -/
def Switching.reset : Switching := { cut := .steady none .waiting, fill := none }

/-! ## Salvo Store -/

/-- A pair of a salvo slot (6.1). -/
structure Pair where
  dest : DestNo
  source : Option SourceNo
  guardSource : Option (Option SourceNo)
  deriving DecidableEq, Repr

/-- The six tallies of a fired salvo (6.1). -/
structure Tallies where
  done : Nat
  late : Nat
  noSignal : Nat
  superseded : Nat
  guardFail : Nat
  cancelled : Nat
  deriving DecidableEq, Repr

/-- All tallies 0. -/
def Tallies.zero : Tallies := ⟨0, 0, 0, 0, 0, 0⟩

/-- A salvo slot with its fired-salvo record (6.1); its state follows from the two counts (R104). -/
structure SalvoSlot where
  count : Nat
  positions : Tbl (Option Pair) 16
  outstanding : Nat
  tallies : Tallies
  firingTrunk : Option Trunk
  firingTag : Option Tag
  deriving DecidableEq, Repr

/-- An EMPTY slot, as after a power-on reset (R104). -/
def SalvoSlot.empty : SalvoSlot :=
  { count := 0, positions := Tbl.fill 16 none, outstanding := 0, tallies := .zero, firingTrunk := none, firingTag := none }

/-! ## Cell Pool and Drop Ports -/

/-- An occupied slot of the Cell Pool (R95): its number, its reference count and the cell it holds. -/
structure PoolSlot where
  number : PoolNo
  refs : Nat
  cell : Cell
  deriving DecidableEq, Repr

/-- DISPLAY or FILL. -/
inductive ServiceKind where
  | display | fill
  deriving DecidableEq, Repr

/-- An entry of a port's essence queue: (slot, channel) (R92). -/
structure EssenceEntry where
  slot : PoolNo
  channel : Channel
  deriving DecidableEq, Repr

/-- An entry of a port's service queue: (kind, channel) (R97). -/
structure ServiceEntry where
  kind : ServiceKind
  channel : Channel
  deriving DecidableEq, Repr

/-- A drop port (5.7). -/
structure DropPort where
  essence : List EssenceEntry
  service : List ServiceEntry
  passedOver : Nat
  outSeq : Tbl (BitVec 16) 16
  sent : Counter
  refused : Counter
  coalesced : Counter
  deriving DecidableEq, Repr

/-- A drop port after a power-on reset (R96, R97, R98, R101, R103). -/
def DropPort.reset : DropPort :=
  { essence := [], service := [], passedOver := 0, outSeq := Tbl.fill 16 0, sent := 0, refused := 0, coalesced := 0 }

/-! ## Trunk Receivers -/

/-- CLEAN, DEGRADED or QUARANTINED. -/
inductive TrunkState where
  | clean | degraded | quarantined
  deriving DecidableEq, Repr

/-- AUTO or MANUAL. -/
inductive Policy where
  | auto | manual
  deriving DecidableEq, Repr

/-- A trunk receive record (8.1). -/
structure Receiver where
  state : TrunkState
  errors : Nat
  runLength : Nat
  runCount : Nat
  policy : Policy
  /-- policy in force, present while QUARANTINED -/
  inForce : Option Policy
  /-- release received -/
  release : Bool
  good : Counter
  errored : Counter
  undefStream : Counter
  deriving DecidableEq, Repr

/-- A trunk receive record after a power-on reset (R138). -/
def Receiver.reset : Receiver :=
  { state := .clean, errors := 0, runLength := 0, runCount := 0, policy := .auto, inForce := none, release := false,
    good := 0, errored := 0, undefStream := 0 }

/-! ## Command Processor and Return Transmitters -/

/-- A trunk's context in the Command Processor (9.1). -/
structure CommandContext where
  fifo : List Cell
  dropped : Counter
  deriving DecidableEq, Repr

/-- One field of a reply's results, in the width its kind takes (R188). A presence indicator is a `flag` before its field,
a provisional mark a `flag` after it. -/
inductive ReplyField where
  /-- a destination, source, format, trunk, slot, position, owner, count or other quantity of 0–255 -/
  | quantity (v : Byte)
  /-- a yes/no result, flag or presence indicator -/
  | flag (b : Bool)
  /-- an enumeration, by its code -/
  | enumeration (code : Byte)
  /-- a status carried as a result -/
  | status (st : Status)
  | time (x : Time)
  | frame (n : FrameNo)
  | tag (g : Tag)
  | counter (v : Counter)
  /-- a phase or deviation -/
  | signed (v : Int)
  | offset (v : Int)
  | margin (v : Nat)
  /-- Pi -/
  | period (v : BitVec 24)
  /-- Pn, Pd, Wl; a sequence number or frame count n; a pool free count, vendor code, part code or capacity -/
  | word (v : BitVec 16)
  | serial (v : BitVec 64)
  | label (l : Tbl Byte 16)
  | pair (p : Option Pair)
  /-- tally bits or a report mask -/
  | bits (v : Byte)
  /-- packed bytes, of READ_DEST alone -/
  | packed (bytes : List Byte)
  deriving DecidableEq, Repr

/-- A reply entry, formed completely when it is queued (R163, R149). -/
structure Reply where
  code : Byte
  sub : Byte
  tag : Tag
  status : Status
  results : List ReplyField
  deriving DecidableEq, Repr

/-- A report entry, formed completely when it is queued (R164, R149; fields by the report table of 11.3). -/
inductive Report where
  | takeDone (d : DestNo) (tag : Tag) (outcome : TakeOutcome) (source : TakeSource) (late : Bool) (placed : Option Placed)
      (time : Time)
  | salvoDone (slot : SlotNo) (tag : Tag) (tallies : Tallies) (time : Time)
  | sourceState (n : SourceNo) (previous new : SourceState) (format : Option FormatNo) (phase : Int) (time : Time)
  | trunkState (t : Trunk) (previous new : TrunkState) (errors : Nat) (time : Time)
  | anchor (f : FormatNo) (deviation : Int) (epoch : Time) (epochFrame : FrameNo) (recomputed retargeted : Nat)
  | held (time : Time) (armed deferred : Nat)
  deriving DecidableEq, Repr

/-- The queue that a Return Transmitter serves when both hold entries (8.8). -/
inductive ReturnTurn where
  | reply | report
  deriving DecidableEq, Repr

/-- A Trunk Return Transmitter (8.8). -/
structure ReturnTx where
  replies : List Reply
  reports : List Report
  pointer : ReturnTurn
  overwrite : Bool
  discarded : Counter
  deriving DecidableEq, Repr

/-- A Return Transmitter after a power-on reset (R149), and after a warm reset (R152). -/
def ReturnTx.reset : ReturnTx := { replies := [], reports := [], pointer := .reply, overwrite := false, discarded := 0 }

/-! ## Mode Controller and the whole machine -/

/-- The device mode (R174). -/
inductive Mode where
  | run | holding | held
  deriving DecidableEq, Repr

/-- The state of the part, with the commands waiting for it. INVENTORY.md names the rule of each field. -/
structure State where
  /-- the commands that are waiting, first in first out: the model's own -/
  pending : List Instr
  /-- the RESET line is asserted (R154) -/
  resetLine : Bool
  houseTime : Time
  margin : Nat
  formats : Tbl Format 16
  sources : Tbl Source 128
  dests : Tbl Dest 128
  arms : Tbl Arm 8
  active : Tbl (Option Take) 128
  follow : Tbl (Option Take) 128
  switching : Tbl Switching 128
  salvos : Tbl SalvoSlot 32
  /-- the occupied slots, in rising slot number; every other slot is on the free list (R95) -/
  pool : List PoolSlot
  poolExhausted : Counter
  ports : Tbl DropPort 8
  receivers : Tbl Receiver 8
  contexts : Tbl CommandContext 8
  returns : Tbl ReturnTx 8
  mode : Mode
  reportMask : BitVec 8
  /-- the cell each drop link carried at its latest transmit opportunity -/
  dropLinks : Tbl Cell 8
  /-- the cell each trunk's return direction carried at its latest transmit opportunity -/
  returnLinks : Tbl Cell 8
  deriving DecidableEq, Repr

/-- The machine right after a power-on reset (R184, with R1, R3, R5, R19, R37, R54, R58, R80, R95, R103, R104, R138, R149,
R155, R165, R174): the RESET line released, HELD, house time 0, nothing defined, every link on IDLE, no command waiting. -/
def State.reset : State where
  pending := []
  resetLine := false
  houseTime := 0
  margin := Config.resetMargin
  formats := Tbl.fill 16 Format.undefined
  sources := Tbl.fill 128 Source.reset
  dests := Tbl.fill 128 Dest.reset
  arms := Tbl.fill 8 .clear
  active := Tbl.fill 128 none
  follow := Tbl.fill 128 none
  switching := Tbl.fill 128 Switching.reset
  salvos := Tbl.fill 32 SalvoSlot.empty
  pool := []
  poolExhausted := 0
  ports := Tbl.fill 8 DropPort.reset
  receivers := Tbl.fill 8 Receiver.reset
  contexts := Tbl.fill 8 { fifo := [], dropped := 0 }
  returns := Tbl.fill 8 ReturnTx.reset
  mode := .held
  reportMask := 0xFF
  dropLinks := Tbl.fill 8 Cell.idle
  returnLinks := Tbl.fill 8 Cell.idle

/-! ## Outcomes that stop -/

/-- Faults of a step. The spec names no condition that stops the part: a refused command is answered with a status, an errored
cell is counted, and a full queue discards or waits. So there is no fault, and no meaning raises one. -/
inductive Fault where
  deriving DecidableEq, Repr

/-- Refusals of a step. -/
inductive Refusal where
  /-- raised by `exec` alone, for a row that has no meaning yet; safe. No row is without one. -/
  | notModelled (mnemonic : String)
  deriving DecidableEq, Repr

/-- The outcome of a command. -/
abbrev Out := Host.Outcome State Fault Refusal

end Sys2Proof.Machine
end

