-- ==== Sys2Proof/Machine/Cadence.lean ====
section
/-! DEFINITION. The Cadence Unit's arithmetic (01_frame_cadence_and_house_time.md): comparison of house times, frame points,
switch points, predictions, intervals and expiries. All of it is exact. -/

namespace Sys2Proof.Machine

/-! ## House times (R2) -/

/-- The signed difference from `a` to `b` (R2). -/
def signedDiff (a b : Time) : Int := (b - a).toInt

/-- `a` is before `b`: the signed difference from `b` to `a` is negative (R2). Of two times 2^47 apart each is before the other. -/
def isBefore (a b : Time) : Bool := decide (signedDiff b a < 0)

/-- `a` is at or before `b`: the signed difference from `b` to `a` is zero or negative (R2). -/
def atOrBefore (a b : Time) : Bool := decide (signedDiff b a ≤ 0)

/-- The sum of a house time and a duration, mod 2^48 (R2). -/
def addTicks (x : Time) (n : Int) : Time := x + BitVec.ofInt 48 n

/-- The earlier of two house times; of two that are 2^47 apart, as no pair of commit points is in a run, the first (log 13). -/
def earlier (a b : Time) : Time := if atOrBefore a b then a else b

/-- An increment of a saturating counter (R173). -/
def bump (c : Counter) : Counter := if c = BitVec.allOnes 32 then c else c + 1

/-- A deviation saturated to the signed 32-bit range (R19, R188). -/
def saturate32 (v : Int) : Int := max (-(2 ^ 31)) (min (2 ^ 31 - 1) v)

/-! ## Frame points (R10, R11) -/

/-- G = Pi × Pd + Pn, the length in ticks of Pd frames (1.4). -/
def Format.g (f : Format) : Nat := f.pi.toNat * f.pd.toNat + f.pn.toNat

/-- S(k) = E + O + k × Pi + floor(k × Pn / Pd), mod 2^48 (R10). -/
def framePoint (f : Format) (offset : Int) (k : Nat) : Time :=
  addTicks f.epoch (offset + k * f.pi.toNat + (k * f.pn.toNat / f.pd.toNat : Nat))

/-- The number of frame `k`, (N_E + k) mod 2^32 (R10). -/
def frameNumber (f : Format) (k : Nat) : FrameNo := f.epochFrame + BitVec.ofNat 32 k

/-- The least `k` whose frame point is at or after `x` (R11). -/
def frameFrom (f : Format) (offset : Int) (x : Time) : Nat :=
  let a := signedDiff (addTicks f.epoch offset) x
  if a ≤ 0 then 0 else (a.toNat * f.pd.toNat + f.g - 1) / f.g

/-- The first frame point at or after `x` (R11). -/
def firstPoint (f : Format) (offset : Int) (x : Time) : Time := framePoint f offset (frameFrom f offset x)

/-- The switch point and frame number of a take with target `target` and `n` extra frames, with margin `m` (R11). -/
def switchPlace (f : Format) (offset : Int) (m : Nat) (target : Time) (n : Nat) : Placed :=
  let k := frameFrom f offset (addTicks target m) + n
  ⟨framePoint f offset k, frameNumber f k⟩

/-- The switch point lies further ahead of `now` than the horizon of 2^32 ticks (R12). -/
def beyondHorizon (now x : Time) : Bool := decide (Config.horizon < (x - now).toNat)

/-- The frame number in progress just after `now`, which a FILL cell carries (R100). -/
def currentFrame (f : Format) (offset : Int) (now : Time) : FrameNo :=
  let k := frameFrom f offset (now + 1)
  if k = 0 then f.epochFrame else frameNumber f (k - 1)

/-! ## Measuring a source (R13, R14) -/

/-- The predicted frame nearest to a capture (R13). -/
def nearestFrame (f : Format) (c : Time) : Nat :=
  let a := signedDiff f.epoch c
  if a < 0 then 0 else (a.toNat * f.pd.toNat + f.g / 2) / f.g

/-- The deviation of a capture from the start of its nearest predicted frame (R13). -/
def deviation (f : Format) (c : Time) : Int := signedDiff (framePoint f 0 (nearestFrame f c)) c

/-- |Pd × (C − L) − G| ≤ Pd × Wl: the interval is in window (R14). -/
def intervalInWindow (f : Format) (l c : Time) : Bool :=
  decide (((f.pd.toNat : Int) * signedDiff l c - f.g).natAbs ≤ f.pd.toNat * f.wl.toNat)

/-! ## Expiries (R15) -/

/-- Frame watch: L + 2 × Pi + Wl. -/
def watchTime (f : Format) (l : Time) : Time := addTicks l (2 * f.pi.toNat + f.wl.toNat)

/-- Drain and join expiry: the start + Pi + Wl. -/
def cutExpiry (f : Format) (start : Time) : Time := addTicks start (f.pi.toNat + f.wl.toNat)

/-! ## Renormalisation (R16) -/

/-- The house time for which a format's renormalisation is scheduled: E + 2^40. -/
def renormalTime (f : Format) : Time := addTicks f.epoch Config.renormalAge

/-- E advanced by q × G and N_E by q × Pd, with q = floor(2^39 / G) (R16). -/
def Format.renormalised (f : Format) : Format :=
  let q := 2 ^ 39 / f.g
  { f with epoch := addTicks f.epoch (q * f.g : Nat), epochFrame := f.epochFrame + BitVec.ofNat 32 (q * f.pd.toNat) }

end Sys2Proof.Machine
end

