-- ==== Sys2Proof/Machine/Operands.lean ====
section
/-! DEFINITION. How each operand byte of a command is read (R59, R187), and the tables of checks: a list of conditions in
their order, the first that holds giving the reply status. -/

namespace Sys2Proof.Machine

/-! ## Numbered things -/

/-- A destination number 0–127. -/
def destOperand (b : Byte) : Option DestNo := if h : b.toNat < 128 then some ⟨b.toNat, h⟩ else none

/-- A source number 0–127 (NONE does not pass). -/
def sourceNumber (b : Byte) : Option SourceNo := if h : b.toNat < 128 then some ⟨b.toNat, h⟩ else none

/-- A source byte: 0–127, or 255 for NONE (R60). -/
def sourceOperand (b : Byte) : Option (Option SourceNo) := if b = 255 then some none else (sourceNumber b).map some

/-- A guard byte (R59): 0–127 a guard naming that source, 0xFE no guard, 0xFF a guard of NONE, others out of range. -/
def guardOperand (b : Byte) : Option (Option (Option SourceNo)) :=
  if b = 0xFE then some none else if b = 0xFF then some (some none) else (sourceNumber b).map fun n => some (some n)

/-- A format number 0–15. -/
def formatNumber (b : Byte) : Option FormatNo := if h : b.toNat < 16 then some ⟨b.toNat, h⟩ else none

/-- A format operand: 0–15, or 255 for UNDEFINED (R20, R39). -/
def formatOperand (b : Byte) : Option (Option FormatNo) := if b = 255 then some none else (formatNumber b).map some

/-- A salvo slot number 0–31. -/
def slotOperand (b : Byte) : Option SlotNo := if h : b.toNat < 32 then some ⟨b.toNat, h⟩ else none

/-- A trunk number 0–7. -/
def trunkOperand (b : Byte) : Option Trunk := if h : b.toNat < 8 then some ⟨b.toNat, h⟩ else none

/-- A pair of a SALVO_LOAD in range (R105, check 4). -/
def pairOperand (p : RawPair) : Option Pair :=
  match destOperand p.dest, sourceOperand p.source, guardOperand p.guardByte with
  | some dest, some source, some guardSource => some { dest, source, guardSource }
  | _, _, _ => none

/-! ## Enumerated operands (R187) -/

/-- Class: 0 MONITOR, 1 RECORDER. -/
def classOperand (b : Byte) : Option DestClass :=
  if b = 0 then some .monitor else if b = 1 then some .recorder else none

/-- Recording state: 0 OFF, 1 ON. -/
def onOffOperand (b : Byte) : Option Bool := if b = 0 then some false else if b = 1 then some true else none

/-- Policy: 0 AUTO, 1 MANUAL. -/
def policyOperand (b : Byte) : Option Policy := if b = 0 then some .auto else if b = 1 then some .manual else none

/-- Direction: 0 UP (true), 1 DOWN. -/
def directionOperand (b : Byte) : Option Bool := if b = 0 then some true else if b = 1 then some false else none

/-- Fire mode: 0 STRICT (true), 1 LENIENT. -/
def fireModeOperand (b : Byte) : Option Bool := if b = 0 then some true else if b = 1 then some false else none

/-- Half: 0 LOW (true), 1 HIGH. -/
def halfOperand (b : Byte) : Option Bool := if b = 0 then some true else if b = 1 then some false else none

/-- Wrap: 0 none, 1 a group of 8, 2 of 16, 3 of 32, 4 of 64. -/
def wrapOperand (b : Byte) : Option (Option Nat) :=
  if b = 0 then some none
  else if b = 1 then some (some 8)
  else if b = 2 then some (some 16)
  else if b = 3 then some (some 32)
  else if b = 4 then some (some 64)
  else none

/-- The mode that a target-mode operand names, if it names one. -/
def namesMode : ModeOperand → Bool
  | .other _ => false
  | _ => true

/-! ## Tables of checks -/

/-- The status of the first check that fails, in the table's order; none when all pass. A row is the failure and its status. -/
def firstFailure (checks : List (Bool × Status)) : Option Status := (checks.find? (·.1)).map (·.2)

/-! ## Targets (R61, R12) -/

/-- A take's target as its command fixes it at acceptance; n is stored in the FRAMES mode alone (R61, log 14). `beyond` marks an AT
target beyond the horizon. -/
structure Target where
  mode : TargetMode
  time : Time
  frames : BitVec 16
  late : Bool
  beyond : Bool
  deriving DecidableEq, Repr

/-- The target fixed at acceptance time `now` (R61, R12). A mode operand that names no mode has been refused before; it reads as NEXT. -/
def fixTarget (now : Time) (m : ModeOperand) (frames : BitVec 16) : Target :=
  match m with
  | .atTime x =>
    if 2 ^ 47 ≤ (x - now).toNat then { mode := .atTime, time := now, frames := 0, late := true, beyond := false }
    else { mode := .atTime, time := x, frames := 0, late := false, beyond := beyondHorizon now x }
  | .frames => { mode := .frames, time := now, frames, late := false, beyond := false }
  | .next | .other _ => { mode := .next, time := now, frames := 0, late := false, beyond := false }

/-- The extra frames that a mode uses: n in FRAMES, none otherwise (R59). -/
def extraFrames (m : TargetMode) (n : BitVec 16) : Nat := if m = .frames then n.toNat else 0

end Sys2Proof.Machine
end

