-- ==== Sys2Proof/Machine/Flags.lean ====
section
/-! DEFINITION. What is computed from the records and kept nowhere: the state of a salvo slot (R104), where a destination stands
in a cut, the protection and recording checks (R44, R48), the display contents and indicators (R124, R125), and the counts of
READ_STATUS (R167). -/

namespace Sys2Proof.Machine

/-! ## Salvo slots (R104) -/

/-- EMPTY, LOADED or FIRED. -/
inductive SalvoState where
  | empty | loaded | fired
  deriving DecidableEq, Repr

/-- FIRED while the outstanding count is above 0, EMPTY while the pair count is 0, LOADED otherwise (R104). -/
def SalvoSlot.state (k : SalvoSlot) : SalvoState :=
  if 0 < k.outstanding then .fired else if k.count = 0 then .empty else .loaded

/-! ## Switching records (5.1) -/

/-- The forwarded source of a switching record: a source, NONE, or none pending while JOINING (5.1). -/
inductive Forwarded where
  | source (n : SourceNo)
  | nothing
  | pending
  deriving DecidableEq, Repr

/-- The forwarded source (5.1). -/
def Cut.forwarded : Cut → Forwarded
  | .steady (some n) _ => .source n
  | .steady none _ => .nothing
  | .draining old _ _ => .source old
  | .joining _ => .pending

/-- The destination is DRAINING or JOINING. -/
def Cut.inProgress : Cut → Bool
  | .steady _ _ => false
  | _ => true

/-- The destination's forwarded source is source `n`. -/
def Switching.forwards (w : Switching) (n : SourceNo) : Bool := w.cut.forwarded == .source n

/-- The destinations whose forwarded source is `n`, in ascending number. -/
def destsForwarding (s : State) (n : SourceNo) : List DestNo :=
  (List.finRange 128).filter fun d => (s.switching.get d).forwards n

/-! ## Takes -/

/-- The position holds an ARMED take. -/
def isArmed (o : Option Take) : Bool := o.any fun k => k.state == .armed

/-- The position holds a COMMITTED take. -/
def isCommitted (o : Option Take) : Bool := o.any fun k => k.state == .committed

/-- The position holds an ARMED take whose deferred flag is set. -/
def isDeferred (o : Option Take) : Bool := o.any fun k => k.state == .armed && k.deferred

/-- The number of COMMITTED takes (R167). -/
def committedCount (s : State) : Nat := s.active.count isCommitted

/-- The number of destinations DRAINING or JOINING (R167). -/
def cutCount (s : State) : Nat := s.switching.count (·.cut.inProgress)

/-- The number of salvo slots that are FIRED (R167). -/
def firedCount (s : State) : Nat := s.salvos.count (·.state == .fired)

/-- The pool free count: the size of the free list (R95). -/
def poolFree (s : State) : Nat := Config.poolSlots - s.pool.length

/-! ## Protection and recording (R44, R48) -/

/-- The protection check for a destination and an owner: none when it passes (R48). -/
def protectionFailure (x : Dest) (owner : Byte) : Option Status :=
  match x.protection with
  | .free => none
  | .locked => if owner = x.owner then none else some .lockedOut
  | .guarded => some .isProtected

/-- The recording check fails: a RECORDER with recording ON (R44). -/
def recordingFails (x : Dest) : Bool := x.cls == .recorder && x.recording

/-! ## Display contents (R124, R125) -/

/-- The five indicators of a destination's display contents (R125). -/
structure Indicators where
  recording : Bool
  locked : Bool
  guarded : Bool
  noSignal : Bool
  pending : Bool
  deriving DecidableEq, Repr

/-- NO_SIGNAL is on while the destination is JOINING, its forwarded source is NONE or not LOCKED, or its fill timer is active (R125). -/
def noSignal (s : State) (d : DestNo) : Bool :=
  let w := s.switching.get d
  w.fill.isSome || match w.cut.forwarded with
    | .source n => (s.sources.get n).state != .locked
    | .nothing | .pending => true

/-- The indicators of a destination (R125). -/
def indicators (s : State) (d : DestNo) : Indicators where
  recording := recordingFails (s.dests.get d)
  locked := (s.dests.get d).protection == .locked
  guarded := (s.dests.get d).protection == .guarded
  noSignal := noSignal s d
  pending := (s.active.get d).isSome

/-- Indicators as a byte: bit 0 RECORDING, bit 1 LOCKED, bit 2 PROTECTED, bit 3 NO_SIGNAL, bit 4 PENDING (11.4). -/
def Indicators.byte (i : Indicators) : Byte :=
  (if i.recording then 1 else 0) ||| (if i.locked then 2 else 0) ||| (if i.guarded then 4 else 0) |||
    (if i.noSignal then 8 else 0) ||| (if i.pending then 16 else 0)

/-- The display contents of a destination (R124). -/
structure Display where
  source : Forwarded
  label : Tbl Byte 16
  tally : Tally
  /-- the forwarded source's state, or none -/
  state : Option SourceState
  indicators : Indicators
  deriving DecidableEq, Repr

/-- The display contents, formed afresh from the records as they stand (R124, R126). -/
def displayContents (s : State) (d : DestNo) : Display :=
  match (s.switching.get d).cut.forwarded with
  | .source n =>
    let r := s.sources.get n
    { source := .source n, label := r.label, tally := r.tally, state := some r.state, indicators := indicators s d }
  | other => { source := other, label := blankLabel, tally := Tally.off, state := none, indicators := indicators s d }

end Sys2Proof.Machine
end

