-- ==== Sys2Proof/Machine/Cells.lean ====
section
/-! DEFINITION. The layouts of the cells that the part sends (11.3, 11.4): the codes of statuses and enumerations, the width of
each kind of result field (R188), REPLY and REPORT payloads, and the DISPLAY and FILL payloads (R189). -/

namespace Sys2Proof.Machine

/-! ## Codes (11.3) -/

/-- Status codes (11.3). -/
def statusCode : Status → Byte
  | .ok => 0x00 | .okLate => 0x01 | .okClamped => 0x02
  | .range => 0x10 | .undefined => 0x11 | .formatMismatch => 0x12 | .noArm => 0x13 | .lockedOut => 0x14
  | .isProtected => 0x15 | .recording => 0x16 | .operandError => 0x17 | .inUse => 0x18 | .notHeld => 0x19
  | .busy => 0x1A | .emptySlot => 0x1B | .lengthError => 0x1E | .codeError => 0x1F

/-- Outcome codes. -/
def outcomeCode : TakeOutcome → Byte
  | .done => 0 | .doneLate => 1 | .noSignal => 2 | .superseded => 3 | .guardFail => 4 | .cancelled => 5

/-- Source-state codes. -/
def sourceStateCode : SourceState → Byte
  | .undefined => 0 | .absent => 1 | .acquiring => 2 | .locked => 3 | .lost => 4

/-- Trunk-receive-state codes. -/
def trunkStateCode : TrunkState → Byte
  | .clean => 0 | .degraded => 1 | .quarantined => 2

/-- Device-mode codes. -/
def modeCode : Mode → Byte
  | .run => 0 | .holding => 1 | .held => 2

/-- Salvo-slot-state codes. -/
def salvoStateCode : SalvoState → Byte
  | .empty => 0 | .loaded => 1 | .fired => 2

/-- Switching-state codes. -/
def cutCode : Cut → Byte
  | .steady _ _ => 0 | .draining _ _ _ => 1 | .joining _ => 2

/-- Forwarding-flag codes. The flag is held in STEADY alone; elsewhere it is carried as zero (log 12). -/
def forwardingCode : Cut → Byte
  | .steady _ .waiting => 1
  | _ => 0

/-- Protection codes. -/
def protectionCode : Protection → Byte
  | .free => 0 | .locked => 1 | .guarded => 2

/-- Take-position-state and placement codes: 0 is an empty position. -/
def takeStateCode : TakeState → Byte
  | .armed => 1 | .committed => 2 | .following => 3

/-- The state code of a take position. -/
def positionCode (o : Option Take) : Byte := (o.map fun k => takeStateCode k.state).getD 0

/-- Tracking-state codes. -/
def trackingCode (tracking : Bool) : Byte := if tracking then 1 else 0

/-- Class codes (R187). -/
def classCode : DestClass → Byte
  | .monitor => 0 | .recorder => 1

/-- Policy codes (R187). -/
def policyCode : Policy → Byte
  | .auto => 0 | .manual => 1

/-- Target-mode codes (R187). -/
def targetModeCode : TargetMode → Byte
  | .next => 0 | .frames => 1 | .atTime => 2

/-- A number of 0–255 as a byte. -/
def numByte (n : Nat) : Byte := BitVec.ofNat 8 n

/-- A source, 255 standing for NONE (R188). -/
def sourceByte : Option SourceNo → Byte
  | some n => numByte n
  | none => 255

/-- A format, 255 standing for UNDEFINED (R188). -/
def formatByte : Option FormatNo → Byte
  | some f => numByte f
  | none => 255

/-- A forwarded source: 255 NONE, 254 none pending (11.3, 11.4). -/
def forwardedByte : Forwarded → Byte
  | .source n => numByte n
  | .nothing => 255
  | .pending => 254

/-- A take's source: 255 for NONE, and for a SWAP source not yet fixed (R188). -/
def takeSourceByte : TakeSource → Byte
  | .fixed n => sourceByte n
  | .unfixed => 255

/-- A guard byte: 0xFE no guard, 0xFF a guard of NONE (R59). -/
def guardByteOf : Option (Option SourceNo) → Byte
  | none => 0xFE
  | some n => sourceByte n

/-- A signed number in `n` bytes, two's complement (R185). -/
def signedBytes (n : Nat) (v : Int) : List Byte := toBytes n (BitVec.ofInt (8 * n) v).toNat

/-! ## Replies (R163, R188) -/

/-- A pair's three bytes, destination 255 marking a blank position (R188). -/
def pairBytes : Option Pair → List Byte
  | some p => [numByte p.dest, sourceByte p.source, guardByteOf p.guardSource]
  | none => [255, 0, 0]

/-- A result field in the width its kind takes (R188). -/
def ReplyField.bytes : ReplyField → List Byte
  | .quantity v => [v]
  | .flag b => [flagByte b]
  | .enumeration code => [code]
  | .status st => [statusCode st]
  | .time x => toBytes 6 x.toNat
  | .frame n => toBytes 4 n.toNat
  | .tag g => toBytes 2 g.toNat
  | .counter v => toBytes 4 v.toNat
  | .signed v => signedBytes 4 v
  | .offset v => signedBytes 3 v
  | .margin v => toBytes 4 v
  | .period v => toBytes 3 v.toNat
  | .word v => toBytes 2 v.toNat
  | .serial v => toBytes 8 v.toNat
  | .label l => l.rows
  | .pair p => pairBytes p
  | .bits v => [v]
  | .packed bytes => bytes

/-- The result bytes of a reply, in the order of its fields. -/
def Reply.resultBytes (r : Reply) : List Byte := r.results.flatMap ReplyField.bytes

/-- A REPLY cell's payload (11.3). -/
def Reply.payload (r : Reply) : List Byte :=
  [r.code, r.sub] ++ toBytes 2 r.tag.toNat ++ [statusCode r.status] ++ r.resultBytes

/-- A field that a rule may mark absent: its presence byte, then the field, carried as zero when absent (R188). -/
def optionalField {α : Type} (mk : α → ReplyField) (zero : α) (o : Option α) : List ReplyField :=
  [.flag o.isSome, mk (o.getD zero)]

/-- A count as a result field. -/
def countField (n : Nat) : ReplyField := .quantity (numByte n)

/-! ## Reports (R164, 11.3) -/

/-- The six tallies in the order of the report table. -/
def Tallies.list (y : Tallies) : List Nat := [y.done, y.late, y.noSignal, y.superseded, y.guardFail, y.cancelled]

/-- The switch point and frame number of a report: zero where the take held none (R188). -/
def placedBytes : Option Placed → List Byte
  | some p => toBytes 6 p.switchPoint.toNat ++ toBytes 4 p.frame.toNat
  | none => List.replicate 10 0

/-- A REPORT cell's payload (11.3). Bits 7 to 3 of a TAKE_DONE's flag byte, which 11.3 does not list, are zero (DESIGN CHOICE, log 17). -/
def Report.payload : Report → List Byte
  | .takeDone d tag outcome source late placed time =>
    [1, numByte d] ++ toBytes 2 tag.toNat ++ [outcomeCode outcome, takeSourceByte source,
      (if late then 1 else 0) ||| (if placed.isSome then 2 else 0) ||| (if source = .unfixed then 4 else 0)] ++
      placedBytes placed ++ toBytes 6 time.toNat
  | .salvoDone slot tag tallies time =>
    [2, numByte slot] ++ toBytes 2 tag.toNat ++ (Tallies.list tallies).map numByte ++ toBytes 6 time.toNat
  | .sourceState n previous new format phase time =>
    [3, numByte n, sourceStateCode previous, sourceStateCode new, formatByte format] ++ signedBytes 4 phase ++
      toBytes 6 time.toNat
  | .trunkState t previous new errors time =>
    [4, numByte t, trunkStateCode previous, trunkStateCode new, numByte errors] ++ toBytes 6 time.toNat
  | .anchor f dev epoch epochFrame recomputed retargeted =>
    [5, numByte f] ++ signedBytes 4 (saturate32 dev) ++ toBytes 6 epoch.toNat ++ toBytes 4 epochFrame.toNat ++
      [numByte recomputed, numByte retargeted]
  | .held time armed deferred => [6] ++ toBytes 6 time.toNat ++ [numByte armed, numByte deferred]

/-! ## Cells sent -/

/-- The REPLY cell of a reply entry (R149). Payload byte 55, which 11.3 calls not used, is zero (DESIGN CHOICE, log 17). -/
def replyCell (r : Reply) : Cell := Cell.make Cell.replyKind 0 0 r.payload

/-- The REPORT cell of a report entry; bit 6 of byte 1 is the OVERWRITTEN flag (R151, 11.1). -/
def reportCell (r : Report) (overwritten : Bool) : Cell :=
  Cell.make Cell.reportKind (if overwritten then 0x40 else 0) 0 r.payload

/-- A DISPLAY payload (11.4). -/
def Display.payload (x : Display) : List Byte :=
  [forwardedByte x.source, x.tally.byte, x.indicators.byte, (x.state.map sourceStateCode).getD 255] ++ x.label.rows

/-- A DISPLAY cell on a channel (R189): the frame-start mark is clear. -/
def displayCell (ch : Channel) (seq : BitVec 16) (x : Display) : Cell :=
  Cell.make Cell.displayKind (numByte ch) seq x.payload

/-- A FILL cell on a channel, carrying a frame number (R100, R189). -/
def fillCell (ch : Channel) (seq : BitVec 16) (n : FrameNo) : Cell :=
  Cell.make Cell.fillKind (numByte ch) seq (toBytes 4 n.toNat)

/-- An essence cell rewritten for a drop link: the channel in byte 1's low four bits and the output sequence number in bytes 2–3,
every other field kept, the CRC computed again (R99, R185). -/
def dropEssenceCell (c : Cell) (ch : Channel) (seq : BitVec 16) : Cell :=
  Cell.withCrc { c with marks := (c.marks &&& 0xF0#8) ||| numByte ch, seq }

end Sys2Proof.Machine
end

