-- ==== Sys2Proof/Machine/Ops.lean ====
section
/-! DEFINITION. The named operations over the state that the commands share: record updates, report and reply queues (R150, R151),
service postings (R97, R127), frame points of a destination, placement, recomputation, removal and completion of takes (R18, R63–R66,
R71–R73), the salvo notice (R114, R115), source-state changes (R33), notices to the Switch Unit (R84, R87, R88) and the execution of
a FIFO head (R156). -/

namespace Sys2Proof.Machine

/-! ## Record updates -/

/-- Format record `f` changed by `g`. -/
def State.updFormat (s : State) (f : FormatNo) (g : Format → Format) : State := { s with formats := s.formats.modify f g }

/-- Source record `n` changed by `g`. -/
def State.updSource (s : State) (n : SourceNo) (g : Source → Source) : State := { s with sources := s.sources.modify n g }

/-- Destination record `d` changed by `g`. -/
def State.updDest (s : State) (d : DestNo) (g : Dest → Dest) : State := { s with dests := s.dests.modify d g }

/-- Trunk `t`'s arm record set. -/
def State.setArm (s : State) (t : Trunk) (a : Arm) : State := { s with arms := s.arms.set t a }

/-- The active position of destination `d` set. -/
def State.setActive (s : State) (d : DestNo) (o : Option Take) : State := { s with active := s.active.set d o }

/-- The follow position of destination `d` set. -/
def State.setFollow (s : State) (d : DestNo) (o : Option Take) : State := { s with follow := s.follow.set d o }

/-- Switching record `d` changed by `g`. -/
def State.updSwitching (s : State) (d : DestNo) (g : Switching → Switching) : State :=
  { s with switching := s.switching.modify d g }

/-- Salvo slot `k` changed by `g`. -/
def State.updSalvo (s : State) (k : SlotNo) (g : SalvoSlot → SalvoSlot) : State := { s with salvos := s.salvos.modify k g }

/-- Drop port `p` changed by `g`. -/
def State.updPort (s : State) (p : Port) (g : DropPort → DropPort) : State := { s with ports := s.ports.modify p g }

/-- Trunk `t`'s receive record changed by `g`. -/
def State.updReceiver (s : State) (t : Trunk) (g : Receiver → Receiver) : State :=
  { s with receivers := s.receivers.modify t g }

/-- Trunk `t`'s command context changed by `g`. -/
def State.updContext (s : State) (t : Trunk) (g : CommandContext → CommandContext) : State :=
  { s with contexts := s.contexts.modify t g }

/-- Trunk `t`'s Return Transmitter changed by `g`. -/
def State.updReturn (s : State) (t : Trunk) (g : ReturnTx → ReturnTx) : State := { s with returns := s.returns.modify t g }

/-! ## Return queues (R150, R151) -/

/-- A report queued: appended, or on a full queue the oldest discarded, overwrite pending set and the discard counted (R151). -/
def ReturnTx.push (x : ReturnTx) (r : Report) : ReturnTx :=
  if x.reports.length < Config.reportDepth then { x with reports := x.reports ++ [r] }
  else { x with reports := x.reports.tail ++ [r], overwrite := true, discarded := bump x.discarded }

/-- A report queued on one trunk. -/
def queueReport (t : Trunk) (r : Report) (s : State) : State := s.updReturn t (·.push r)

/-- A report queued on every trunk in the report mask (R164). -/
def queueMasked (r : Report) (s : State) : State :=
  { s with returns := s.returns.mapIdx fun t x => if s.reportMask.getLsbD t then x.push r else x }

/-- A reply queued on the trunk its command came from, unless the tag is 0 (R150, R163). -/
def queueReply (t : Trunk) (r : Reply) (s : State) : State :=
  if r.tag = 0 then s else s.updReturn t fun x => { x with replies := x.replies ++ [r] }

/-! ## Service postings (R97, R127) -/

/-- The drop port of a destination: floor(d / 16). -/
def portOf (d : DestNo) : Port := ⟨d.val / 16, by omega⟩

/-- The channel of a destination: d mod 16. -/
def channelOf (d : DestNo) : Channel := ⟨d.val % 16, by omega⟩

/-- The destination of a port's channel: 16 × port + channel. -/
def destOf (p : Port) (ch : Channel) : DestNo := ⟨16 * p.val + ch.val, by omega⟩

/-- A DISPLAY or FILL entry posted to a port: absorbed by an entry of its kind already queued for the channel, appended otherwise;
an absorbed FILL is counted (R97). -/
def DropPort.post (x : DropPort) (kind : ServiceKind) (ch : Channel) : DropPort :=
  if (⟨kind, ch⟩ : ServiceEntry) ∈ x.service then
    match kind with
    | .display => x
    | .fill => { x with coalesced := bump x.coalesced }
  else { x with service := x.service ++ [⟨kind, ch⟩] }

/-- A DISPLAY entry requested for a destination: discarded while it is UNDEFINED (R127). -/
def requestDisplay (d : DestNo) (s : State) : State :=
  if (s.dests.get d).format.isSome then s.updPort (portOf d) (·.post .display (channelOf d)) else s

/-- DISPLAY entries requested destination by destination (R133). -/
def requestDisplays (ds : List DestNo) (s : State) : State := ds.foldl (fun s d => requestDisplay d s) s

/-- A FILL entry posted for a destination (R97). -/
def postFill (d : DestNo) (s : State) : State := s.updPort (portOf d) (·.post .fill (channelOf d))

/-! ## Frame points of a destination -/

/-- The format record of a destination; an UNDEFINED destination has none, and reads as the undefined record. -/
def formatOf (s : State) (d : DestNo) : Format :=
  match (s.dests.get d).format with
  | some f => s.formats.get f
  | none => Format.undefined

/-- The format record of a source. -/
def sourceFormat (s : State) (n : SourceNo) : Format :=
  match (s.sources.get n).format with
  | some f => s.formats.get f
  | none => Format.undefined

/-- The first frame point of a destination at or after `x` (R11). -/
def pointFrom (s : State) (d : DestNo) (x : Time) : Time := firstPoint (formatOf s d) (s.dests.get d).offset x

/-- The switch point and frame number of a take of destination `d` with this mode, target and frame count (R11, R64). -/
def placeFor (s : State) (d : DestNo) (mode : TargetMode) (target : Time) (n : BitVec 16) : Placed :=
  switchPlace (formatOf s d) (s.dests.get d).offset s.margin target (extraFrames mode n)

/-- A destination's fill timer made active with its next fill frame point the first frame point at or after `x`. It stays inactive
while the destination is UNDEFINED (R37, R80). -/
def armFill (d : DestNo) (x : Time) (s : State) : State :=
  if (s.dests.get d).format.isSome then s.updSwitching d fun w => { w with fill := some (pointFrom s d x) } else s

/-- `armFill` from the first frame point after now (R81, R86, R88, R89). -/
def armFillNext (d : DestNo) (s : State) : State := armFill d (s.houseTime + 1) s

/-- `armFill` from the first frame point at least one integer period after now: X = now + Pi + 1 (R87). -/
def armFillLater (d : DestNo) (s : State) : State :=
  armFill d (addTicks s.houseTime ((formatOf s d).pi.toNat + 1)) s

/-- The active fill timers of the destinations that `p` names realigned to the first frame point after now (R90). -/
def realignFill (p : DestNo → Bool) (s : State) : State :=
  { s with
    switching := s.switching.mapIdx fun d w =>
      if p d && w.fill.isSome then { w with fill := some (pointFrom s d (s.houseTime + 1)) } else w }

/-- The destination's format is `f`. -/
def hasFormat (s : State) (f : FormatNo) (d : DestNo) : Bool := (s.dests.get d).format == some f

/-! ## The device mode (R176) -/

/-- HELD reached: the mode set and a HELD report queued on the mask (R176). -/
def reachHeld (s : State) : State :=
  queueMasked (.held s.houseTime (s.active.count isArmed) (s.active.count isDeferred)) { s with mode := .held }

/-- No take is COMMITTED and no destination is DRAINING or JOINING (R176). -/
def noCutInProgress (s : State) : Bool := committedCount s == 0 && cutCount s == 0

/-- The Mode Controller told of a completion (R176). -/
def modeNotice (s : State) : State := if s.mode = .holding && noCutInProgress s then reachHeld s else s

/-! ## Takes: commit points (R3, R120) -/

/-- A take's own commit point S − M, with the margin in force now (R3). -/
def ownCommit (s : State) (k : Take) : Option Time := k.placed.map fun p => addTicks p.switchPoint (-s.margin)

/-- The destination whose ARMED take is bound in a SWAP pair to the ARMED take of `d` (R120, R123). -/
def boundPartner (s : State) (d : DestNo) : Option DestNo :=
  match s.active.get d with
  | some k =>
    match k.partner with
    | some p =>
      match s.active.get p with
      | some q => if k.state = .armed ∧ q.state = .armed ∧ q.partner = some d then some p else none
      | none => none
    | none => none
  | none => none

/-- The commit point of the take on `d`: for a bound SWAP half, the earlier of the two halves' own (R120). -/
def commitPoint (s : State) (d : DestNo) (k : Take) : Option Time :=
  match boundPartner s d with
  | none => ownCommit s k
  | some p =>
    match ownCommit s k, (s.active.get p).bind (ownCommit s) with
    | some a, some b => some (earlier a b)
    | a, none => a
    | none, b => b

/-- The time has been reached: it is at or before now (R2). -/
def isDue (s : State) (x : Time) : Bool := atOrBefore x s.houseTime

/-! ## Takes: recomputation (R18) -/

/-- A take placed ARMED with the switch point and frame number of its own target (R64). -/
def armedTake (s : State) (d : DestNo) (k : Take) : Take :=
  { k with state := .armed, placed := some (placeFor s d k.mode k.target k.frames) }

/-- A take re-targeted to now: mode NEXT, so that a FRAMES count is dropped, target now, late, switch point computed again; the
deferred flag is left as it was (R18). -/
def retargeted (s : State) (d : DestNo) (k : Take) : Take :=
  armedTake s d { k with mode := .next, target := s.houseTime, frames := 0, late := true }

/-- Recomputation re-targets the take: its recomputed commit point is at or before now (R18). -/
def mustRetarget (s : State) (d : DestNo) (k : Take) : Bool :=
  (ownCommit s (armedTake s d k)).any (isDue s)

/-- An ARMED take recomputed (R18). -/
def recomputed (s : State) (d : DestNo) (k : Take) : Take :=
  if mustRetarget s d k then retargeted s d k else armedTake s d k

/-- Every ARMED take of the destinations that `p` names recomputed (R18). -/
def recomputeTakes (p : DestNo → Bool) (s : State) : State :=
  { s with
    active := s.active.mapIdx fun d o =>
      if p d then o.map fun k => if k.state = .armed then recomputed s d k else k else o }

/-- How many ARMED takes of the destinations that `p` names there are, and how many of them recomputation re-targets (R17). -/
def recomputeCounts (p : DestNo → Bool) (s : State) : Nat × Nat :=
  ((List.finRange 128).countP fun d => p d && isArmed (s.active.get d),
   (List.finRange 128).countP fun d => p d && (s.active.get d).any fun k => k.state == .armed && mustRetarget s d k)

/-! ## Salvo notices (R114, R115) -/

/-- The tally of an outcome increased (R114). -/
def Tallies.add (y : Tallies) : TakeOutcome → Tallies
  | .done => { y with done := y.done + 1 }
  | .doneLate => { y with late := y.late + 1 }
  | .noSignal => { y with noSignal := y.noSignal + 1 }
  | .superseded => { y with superseded := y.superseded + 1 }
  | .guardFail => { y with guardFail := y.guardFail + 1 }
  | .cancelled => { y with cancelled := y.cancelled + 1 }

/-- A salvo slot notified that one of its takes has ended (R114). -/
def SalvoSlot.ended (k : SalvoSlot) (out : TakeOutcome) : SalvoSlot :=
  { k with tallies := k.tallies.add out, outstanding := k.outstanding - 1 }

/-- The Salvo Store notified: the outcome counted, the outstanding count lowered, and SALVO_DONE queued on the firing trunk when the
count falls to 0 and the firing tag is not 0 (R114, R115). -/
def salvoNotice (k : SlotNo) (out : TakeOutcome) (s : State) : State :=
  let slot := s.salvos.get k
  let s' := s.updSalvo k (·.ended out)
  match slot.firingTrunk, slot.firingTag with
  | some t, some g =>
    if slot.outstanding = 1 ∧ g ≠ 0 then queueReport t (.salvoDone k g (slot.tallies.add out) s.houseTime) s' else s'
  | _, _ => s'

/-! ## Takes: removal and completion (R65, R66, R71, R72, R73) -/

/-- A take's end made known: to the Salvo Store when it names a slot, else by a TAKE_DONE report on its issuing trunk unless its tag
is 0 (R65, R66, R72). -/
def notifyEnd (d : DestNo) (k : Take) (out : TakeOutcome) (s : State) : State :=
  match k.salvo with
  | some slot => salvoNotice slot out s
  | none =>
    if k.tag = 0 then s else queueReport k.trunk (.takeDone d k.tag out k.source k.late k.placed s.houseTime) s

/-- The take in the active position removed with an outcome; a bound partner is not looked at (R65, stages 1–3). -/
def removeActive (d : DestNo) (out : TakeOutcome) (s : State) : State :=
  match s.active.get d with
  | none => s
  | some k => notifyEnd d k out (s.setActive d none)

/-- An ARMED take removed with SUPERSEDED or CANCELLED, and its bound SWAP partner with it (R65, stages 1–4; R122). -/
def removeArmed (d : DestNo) (out : TakeOutcome) (s : State) : State :=
  match boundPartner s d with
  | none => removeActive d out s
  | some p => removeActive p out (removeActive d out s)

/-- The take in the follow position removed with an outcome (R65). -/
def removeFollow (d : DestNo) (out : TakeOutcome) (s : State) : State :=
  match s.follow.get d with
  | none => s
  | some k => notifyEnd d k out (s.setFollow d none)

/-- Stage 5 of R65 at the end of an event that began in `before`: a DISPLAY entry requested for each destination whose active position
held a take before the event and holds none after it, in ascending number (log 5). -/
def displayVacated (before s : State) : State :=
  requestDisplays
    ((List.finRange 128).filter fun d => (before.active.get d).isSome && (s.active.get d).isNone) s

/-- FOLLOW promotion (R73): the later of the stored target and now, marked late when the mode is AT and the target has passed. -/
def promote (d : DestNo) (s : State) : State :=
  match s.follow.get d with
  | none => s
  | some k =>
    let passed := isBefore k.target s.houseTime
    let k' := { k with target := if passed then s.houseTime else k.target, late := k.late || (k.mode == .atTime && passed) }
    (s.setFollow d none).setActive d (some (armedTake s d k'))

/-- How joining ended (R71): on a frame-start cell of the new source, with whether it was LOCKED then; at the join expiry; or at once
because the new source is NONE. -/
inductive JoinEnd where
  | frameStart (locked : Bool)
  | expiry
  | noSource
  deriving DecidableEq, Repr

/-- The outcome of a completing take (R71). -/
def outcomeOf (ended : JoinEnd) (late : Bool) : TakeOutcome :=
  match ended with
  | .frameStart false | .expiry => .noSignal
  | .frameStart true | .noSource => if late then .doneLate else .done

/-- Notice of completion for a destination (R71, R72): its COMMITTED take is removed and its end made known, a DISPLAY entry is
requested, a FOLLOW take is promoted, and the Mode Controller is told. Without a COMMITTED take there is nothing to complete (log 13). -/
def complete (d : DestNo) (ended : JoinEnd) (s : State) : State :=
  match s.active.get d with
  | none => s
  | some k =>
    if k.state = .committed then
      modeNotice (promote d (requestDisplay d (notifyEnd d k (outcomeOf ended k.late) (s.setActive d none))))
    else s

/-! ## Takes: placement (R63, R64) -/

/-- A destination's active position holds a take that is not ARMED: a new take becomes FOLLOW (R63). -/
def placesFollow (s : State) (d : DestNo) : Bool := (s.active.get d).any fun k => k.state != .armed

/-- A new take on the destination supersedes an existing one (R63). -/
def supersedes (s : State) (d : DestNo) : Bool :=
  if placesFollow s d then (s.follow.get d).isSome else (s.active.get d).isSome

/-- A new take placed (R63, R64): ARMED, superseding an ARMED take with its partner, or FOLLOW behind a COMMITTED take, superseding a
FOLLOW take. A DISPLAY entry is requested when it is placed ARMED on a destination whose active position was empty in `before`, the
state before the command. -/
def placeTake (before : State) (d : DestNo) (k : Take) (s : State) : State :=
  if placesFollow s d then
    (removeFollow d .superseded s).setFollow d (some { k with state := .following, placed := none })
  else
    let s' := (removeArmed d .superseded s).setActive d (some (armedTake s d k))
    if (before.active.get d).isNone then requestDisplay d s' else s'

/-! ## Tracking and source-state changes (R9, R33) -/

/-- A format's tracking state evaluated (R9): TRACKING while its cadence source is LOCKED and carries this format. -/
def isTracking (sources : Tbl Source 128) (f : FormatNo) (x : Format) : Bool :=
  x.defined && match x.cadence with
    | some n => (sources.get n).state == .locked && (sources.get n).format == some f
    | none => false

/-- The tracking state of every format whose cadence source is `n` evaluated again (R9, R33). -/
def evaluateTracking (n : SourceNo) (s : State) : State :=
  { s with
    formats := s.formats.mapIdx fun f x =>
      if x.cadence = some n then { x with tracking := isTracking s.sources f x } else x }

/-- A destination of a source that has entered LOST, at the Switch Unit (R84, R88): DRAINING ends, and a STEADY destination goes
WAITING_FRAME, posts FILL and fills from the first frame point after now. -/
def lossNotice (n : SourceNo) (d : DestNo) (s : State) : State :=
  match (s.switching.get d).cut with
  | .steady (some m) _ =>
    if m = n then armFillNext d (postFill d (s.updSwitching d fun w => { w with cut := .steady (some n) .waiting })) else s
  | .draining old _ _ =>
    if old = n then s.updSwitching d fun w => { w with cut := .joining (cutExpiry (formatOf s d) s.houseTime) } else s
  | _ => s

/-- The Switch Unit given notice of a loss, destination by destination (R84, R88). -/
def lossNotices (n : SourceNo) (s : State) : State := (List.finRange 128).foldl (fun s d => lossNotice n d s) s

/-- The effects of a change of a source's state, the record holding the new state already (R33): tracking, SOURCE_STATE, DISPLAY
entries, and on entry into LOST the notice to the Switch Unit. A change that neither enters nor leaves LOCKED and does not enter LOST
has none. -/
def sourceChanged (n : SourceNo) (previous : SourceState) (s : State) : State :=
  let r := s.sources.get n
  let lockChange := (previous == .locked) != (r.state == .locked)
  let entersLost := previous != .lost && r.state == .lost
  let s := if lockChange then evaluateTracking n s else s
  if lockChange || entersLost then
    let s := queueMasked (.sourceState n previous r.state r.format r.phase s.houseTime) s
    let s := requestDisplays (destsForwarding s n) s
    if entersLost then lossNotices n s else s
  else s

/-- A source enters LOST (R31): captures, frame watch, last sequence number and counts cleared, the phase kept. -/
def enterLost (n : SourceNo) (s : State) : State :=
  sourceChanged n (s.sources.get n).state
    (s.updSource n fun r => { r with
      state := .lost, lastCapture := none, frameWatch := none, lastSeq := none, inWindow := 0, outWindow := 0 })

/-! ## The forwarding flag (R87) -/

/-- A FORWARDING destination goes WAITING_FRAME on a sequence break or a failure, its fill timer starting at least one integer period
after now; any other destination is left as it stands (R87). -/
def breakForwarding (d : DestNo) (s : State) : State :=
  match (s.switching.get d).cut with
  | .steady (some n) .forwarding =>
    armFillLater d (s.updSwitching d fun w => { w with cut := .steady (some n) .waiting })
  | _ => s

/-! ## Executing a FIFO head (R156) -/

/-- What a command's rule makes of it: the state, the reply status and the results. -/
structure Result where
  state : State
  status : Status
  results : List ReplyField

/-- A command refused: nothing changes, and the reply carries the status and the refusal details its rule names (R163). -/
def refuse (s : State) (status : Status) (details : List ReplyField := []) : Result := ⟨s, status, details⟩

/-- The head of trunk `t`'s command FIFO may be taken, and its decoding is the command `i` (R156, R157, R159). -/
def headReady (s : State) (t : Trunk) (i : Instr) : Bool :=
  (s.contexts.get t).fifo.head?.any (fun c => decodeCommand t c == i) &&
    decide ((s.returns.get t).replies.length < Config.replyDepth)

/-- The state in which the head of trunk `t`'s FIFO has been taken: the cell removed and the arm record taken into hand and
cleared (R156, stages 1 and 2; R54). -/
def headTaken (s : State) (t : Trunk) : State :=
  (s.updContext t fun x => { x with fifo := x.fifo.tail }).setArm t .clear

/-- The execution of the command `i` as one event (R156): while the head of the trunk's FIFO is that command and the reply queue has
room, the head is taken, its rule acts with the arm in hand, and the reply is queued. Otherwise the command is not the one executed
next, and nothing happens (log 2). -/
def executeHead (t : Trunk) (i : Instr) (code sub : Byte) (tag : Tag) (act : Arm → State → Result) (s : State) : Out :=
  if headReady s t i then
    let r := act (s.arms.get t) (headTaken s t)
    .next (queueReply t { code, sub, tag, status := r.status, results := r.results } r.state)
  else .next s

/-- `executeHead` for an assigned command: its code and sub-code are the table's (11.2). -/
def executeCommand (t : Trunk) (i : Instr) (k : CommandName) (h : Header) (act : Arm → State → Result) (s : State) : Out :=
  executeHead t i k.codes.1 k.codes.2 h.tag act s

end Sys2Proof.Machine
end

