-- ==== Sys2Proof/Machine/Streams.lean ====
section
/-! DEFINITION. The arrival of an essence cell: the stages of the Source Tracker (R26–R30, R34), re-anchoring (R17), and the
Replication Engine with the Cell Pool (R82, R85, R87, R91–R95). -/

namespace Sys2Proof.Machine

/-! ## The Source Tracker -/

/-- The source of a trunk's stream: 16 × trunk + stream. -/
def sourceOf (t : Trunk) (stream : Fin 16) : SourceNo := ⟨16 * t.val + stream.val, by omega⟩

/-- Every destination FORWARDING source `n` goes WAITING_FRAME on a sequence break (R34, R87). -/
def breakNotices (n : SourceNo) (s : State) : State :=
  (destsForwarding s n).foldl (fun s d => breakForwarding d s) s

/-- The sequence check (R34): an absent last number, or the next one, is stored; any other is a break. -/
def sequenceCheck (n : SourceNo) (seq : BitVec 16) (s : State) : State :=
  let stored (s : State) := s.updSource n fun r => { r with lastSeq := some seq }
  match (s.sources.get n).lastSeq with
  | none => stored s
  | some q =>
    if seq = q + 1 then stored s
    else stored (breakNotices n (s.updSource n fun r => { r with gaps := bump r.gaps }))

/-- The state entry (R27): any cell moves an ABSENT source to ACQUIRING, a frame start moves a LOST one. -/
def Source.entered (r : Source) (frameStart : Bool) : Source :=
  if r.state = .absent ∨ (r.state = .lost ∧ frameStart) then
    { r with state := .acquiring, inWindow := 0, outWindow := 0, lastCapture := none, frameWatch := none }
  else r

/-- One interval counted toward lock in ACQUIRING (R29) or toward fallback in LOCKED (R30). -/
def Source.counted (r : Source) (inWindow : Bool) : Source :=
  match r.state with
  | .acquiring =>
    if inWindow then
      if r.inWindow + 1 = 3 then { r with state := .locked, inWindow := 3, outWindow := 0 }
      else { r with inWindow := r.inWindow + 1 }
    else { r with inWindow := 0 }
  | .locked =>
    if inWindow then { r with outWindow := 0 }
    else if r.outWindow + 1 = 2 then { r with state := .acquiring, inWindow := 0, outWindow := 0 }
    else { r with outWindow := r.outWindow + 1 }
  | _ => r

/-- A capture at `c` against the format `f`: the phase stored, and the interval from L judged and counted (R28–R30). -/
def Source.captured (r : Source) (f : Format) (c : Time) : Source :=
  let r' := { r with phase := saturate32 (deviation f c) }
  match r.lastCapture with
  | some l => r'.counted (intervalInWindow f l c)
  | none => r'

/-- Format `f` re-anchored on a capture at `c` with its predicted frame and deviation (R17): epoch, epoch frame number and counter,
fill timers, ARMED takes, and the ANCHOR report. -/
def reanchor (f : FormatNo) (c : Time) (frame : FrameNo) (dev : Int) (s : State) : State :=
  let s := s.updFormat f fun x => { x with epoch := c, epochFrame := frame, reanchors := bump x.reanchors }
  let s := realignFill (hasFormat s f) s
  let counts := recomputeCounts (hasFormat s f) s
  let s := recomputeTakes (hasFormat s f) s
  queueMasked (.anchor f dev c frame counts.1 counts.2) s

/-- The re-anchoring comparison for a capture of source `n` at now (R17): its format re-anchors when `n` is its cadence source, it is
TRACKING, and the deviation exceeds the window. -/
def reanchorCheck (n : SourceNo) (s : State) : State :=
  match (s.sources.get n).format with
  | none => s
  | some f =>
    let x := s.formats.get f
    let dev := deviation x s.houseTime
    if x.cadence = some n ∧ x.tracking ∧ x.wl.toNat < dev.natAbs then
      reanchor f s.houseTime (frameNumber x (nearestFrame x s.houseTime)) dev s
    else s

/-- A frame-start capture of an ACQUIRING or LOCKED source at now (R26, stages 3 to 6): phase and counts, the changes of R33, the
re-anchoring comparison, and the storing of L and the frame watch. -/
def captureFrame (n : SourceNo) (s : State) : State :=
  let previous := (s.sources.get n).state
  let s := s.updSource n fun r => r.captured (sourceFormat s n) s.houseTime
  let s := sourceChanged n previous s
  let s := reanchorCheck n s
  s.updSource n fun r => { r with
    lastCapture := some s.houseTime, frameWatch := some (watchTime (sourceFormat s n) s.houseTime) }

/-- A source is ACQUIRING or LOCKED, so that a frame start is captured (R28). -/
def Source.captures (r : Source) : Bool := r.state == .acquiring || r.state == .locked

/-- The Source Tracker's work on a cell of a defined source (R26). -/
def trackCell (n : SourceNo) (c : Cell) (s : State) : State :=
  let s := sequenceCheck n c.seq s
  let s := s.updSource n (·.entered c.frameStart)
  if c.frameStart && (s.sources.get n).captures then captureFrame n s else s

/-! ## The Cell Pool (R95) -/

/-- Pool slot `k` is on the free list: it is not among the occupied slots. -/
def slotFree (pool : List PoolSlot) (k : PoolNo) : Bool := pool.all fun x => x.number != k

/-- The slot taken: the first free slot found counting up from `pick`, mod 2,048; none when no slot is free (R92, R95; log 4). -/
def takeSlot (pool : List PoolSlot) (pick : PoolNo) : Option PoolNo :=
  ((List.finRange 2048).map fun i => pick + i).find? (slotFree pool)

/-- A slot entered among the occupied ones, in rising slot number. -/
def poolInsert (x : PoolSlot) : List PoolSlot → List PoolSlot
  | [] => [x]
  | y :: rest => if x.number < y.number then x :: y :: rest else y :: poolInsert x rest

/-- One reference to slot `k` given up: at 0 the slot returns to the free list (R95, R99). -/
def poolRelease (k : PoolNo) : List PoolSlot → List PoolSlot
  | [] => []
  | y :: rest =>
    if y.number = k then (if y.refs ≤ 1 then rest else { y with refs := y.refs - 1 } :: rest) else y :: poolRelease k rest

/-- The cell held in slot `k`; IDLE for a slot on the free list, which no essence entry names (R95; log 13). -/
def cellIn (pool : List PoolSlot) (k : PoolNo) : Cell := ((pool.find? fun x => x.number == k).map (·.cell)).getD Cell.idle

/-- The canonical form of the pool: slot numbers strictly rising, and no reference count 0. -/
def poolWf (pool : List PoolSlot) : Bool :=
  decide (pool.Pairwise fun x y => x.number < y.number) && pool.all fun x => decide (0 < x.refs)

/-! ## The Replication Engine -/

/-- A frame-start cell of `n` ends the draining of a destination whose old source is `n` (R82). -/
def endDraining (n : SourceNo) (s : State) : State :=
  { s with
    switching := s.switching.mapIdx fun d w =>
      match w.cut with
      | .draining old _ _ => if old = n then { w with cut := .joining (cutExpiry (formatOf s d) s.houseTime) } else w
      | _ => w }

/-- The destination receives a cell of source `n`, its draining having been ended by a frame start (R91). -/
def receives (s : State) (n : SourceNo) (frameStart : Bool) (d : DestNo) : Bool :=
  match (s.switching.get d).cut with
  | .steady (some m) flag => m == n && (flag == .forwarding || frameStart)
  | .steady none _ => false
  | .draining old tail _ => old == n && tail && !frameStart
  | .joining _ => frameStart && (s.dests.get d).current == some n

/-- The receiving set, in ascending destination number (R91, R92). -/
def receivingSet (s : State) (n : SourceNo) (frameStart : Bool) : List DestNo :=
  (List.finRange 128).filter (receives s n frameStart)

/-- The admitted set (R92): destination by destination, those whose port holds fewer than 512 entries, counting the entries
already allotted to this cell there. -/
def admittedSet (s : State) : List DestNo → List DestNo → List DestNo
  | [], admitted => admitted
  | d :: rest, admitted =>
    let allotted := admitted.countP fun e => portOf e == portOf d
    if (s.ports.get (portOf d)).essence.length + allotted < Config.essenceDepth then admittedSet s rest (admitted ++ [d])
    else admittedSet s rest admitted

/-- One essence entry of slot `k` appended for each destination (R92). -/
def appendEntries (k : PoolNo) (ds : List DestNo) (s : State) : State :=
  ds.foldl (fun s d => s.updPort (portOf d) fun x => { x with essence := x.essence ++ [⟨k, channelOf d⟩] }) s

/-- A cell stored once in slot `k` with one essence entry appended for each admitted destination (R92). -/
def storeCell (k : PoolNo) (c : Cell) (admitted : List DestNo) (s : State) : State :=
  appendEntries k admitted { s with pool := poolInsert ⟨k, admitted.length, c⟩ s.pool }

/-- A destination that receives the cell, its entry queued: a WAITING_FRAME destination resumes (R87), a JOINING one joins (R85). -/
def receiveCell (n : SourceNo) (locked : Bool) (d : DestNo) (s : State) : State :=
  match (s.switching.get d).cut with
  | .steady _ .waiting => s.updSwitching d fun _ => { cut := .steady (some n) .forwarding, fill := none }
  | .joining _ =>
    complete d (.frameStart locked) (s.updSwitching d fun _ => { cut := .steady (some n) .forwarding, fill := none })
  | _ => s

/-- A destination given notice that the cell could not be queued or stored for it (R93, R94): a FORWARDING destination goes
WAITING_FRAME, a WAITING_FRAME one stays, a DRAINING one copies no more tail, a JOINING one joins in WAITING_FRAME (R85). -/
def missCell (n : SourceNo) (locked : Bool) (d : DestNo) (s : State) : State :=
  match (s.switching.get d).cut with
  | .steady _ .forwarding => breakForwarding d s
  | .steady _ .waiting => s
  | .draining old _ expiry => s.updSwitching d fun w => { w with cut := .draining old false expiry }
  | .joining _ =>
    complete d (.frameStart locked) (armFillLater d (s.updSwitching d fun w => { w with cut := .steady (some n) .waiting }))

/-- The outcome of one arrival for each member of the receiving set, in ascending number: those in `got` have the cell queued (log 6). -/
def settleReceivers (n : SourceNo) (locked : Bool) (got : List DestNo) (receivers : List DestNo) (s : State) : State :=
  receivers.foldl (fun s d => if d ∈ got then receiveCell n locked d s else missCell n locked d s) s

/-- The refusals of R93 counted by the ports of the destinations refused. -/
def countRefusals (refused : List DestNo) (s : State) : State :=
  refused.foldl (fun s d => s.updPort (portOf d) fun x => { x with refused := bump x.refused }) s

/-- The Replication Engine's work on a cell of source `n` (R91–R94). -/
def replicate (n : SourceNo) (c : Cell) (pick : PoolNo) (s : State) : State :=
  let s := if c.frameStart then endDraining n s else s
  let locked := (s.sources.get n).state == .locked
  let receivers := receivingSet s n c.frameStart
  let admitted := admittedSet s receivers []
  let s := countRefusals (receivers.filter (· ∉ admitted)) s
  if admitted = [] then settleReceivers n locked [] receivers s
  else
    match takeSlot s.pool pick with
    | some k => settleReceivers n locked admitted receivers (storeCell k c admitted s)
    | none => settleReceivers n locked [] receivers { s with poolExhausted := bump s.poolExhausted }

/-- An essence cell handed on by trunk `t`'s receiver (R26, R137): of an UNDEFINED source it is discarded and counted. -/
def essenceArrival (t : Trunk) (c : Cell) (pick : PoolNo) (s : State) : State :=
  let n := sourceOf t c.stream
  if (s.sources.get n).state = .undefined then s.updReceiver t fun x => { x with undefStream := bump x.undefStream }
  else replicate n c pick (trackCell n c s)

end Sys2Proof.Machine
end

