-- ==== Sys2Proof/Machine/Links.lean ====
section
/-! DEFINITION. The links (08_trunk_and_drop_links.md, 5.7): forward reception, quarantine and recovery (R135–R143), the command FIFO
(R155), the transmit opportunities of drop ports (R98–R101) and Return Transmitters (R149–R151), and the RESET line (R154, R184). -/

namespace Sys2Proof.Machine

/-! ## Forward reception (R135–R143) -/

/-- A trunk's receive state changed, its record holding the new one already: TRUNK_STATE queued on the mask (R136, R139, R142). -/
def trunkChanged (t : Trunk) (previous : TrunkState) (s : State) : State :=
  let r := s.receivers.get t
  queueMasked (.trunkState t previous r.state r.errors s.houseTime) s

/-- The sources of a trunk: 16 × trunk to 16 × trunk + 15. -/
def sourcesOf (t : Trunk) : List SourceNo := (List.finRange 16).map (sourceOf t)

/-- A source of a trunk that enters QUARANTINED: it enters LOST when it is ACQUIRING or LOCKED (R32). -/
def quarantineSource (n : SourceNo) (s : State) : State :=
  if (s.sources.get n).captures then enterLost n s else s

/-- The sources of a trunk that enters QUARANTINED (R139, stage 4; R32). Neither rule orders them: that they enter LOST, and so report and
post, in ascending source number is the model's choice (DESIGN CHOICE, log 5). -/
def quarantineSources (t : Trunk) (s : State) : State := (sourcesOf t).foldl (fun s n => quarantineSource n s) s

/-- The trunk enters QUARANTINED, by the five stages of R139. -/
def enterQuarantine (t : Trunk) (s : State) : State :=
  let previous := (s.receivers.get t).state
  let s := s.updReceiver t fun r => { r with
    state := .quarantined, errors := Config.maxErrors, runLength := 0, runCount := 0, release := false, inForce := some r.policy }
  let s := s.updContext t fun x => { x with fifo := [] }
  let s := s.setArm t .clear
  let s := quarantineSources t s
  trunkChanged t previous s

/-- An errored cell of a trunk that is not QUARANTINED (R136): 8 added; past 255 the trunk is quarantined. -/
def erroredCell (t : Trunk) (s : State) : State :=
  let r := s.receivers.get t
  if Config.maxErrors < r.errors + Config.errorWeight then enterQuarantine t s
  else
    let s := s.updReceiver t fun r => { r with errors := r.errors + Config.errorWeight }
    if r.state = .clean ∧ Config.degradedFrom ≤ r.errors + Config.errorWeight then
      trunkChanged t .clean (s.updReceiver t fun r => { r with state := .degraded })
    else s

/-- A good cell's effect on the error count of a trunk that is not QUARANTINED (R136): 1 subtracted, to no less than 0. -/
def goodCell (t : Trunk) (s : State) : State :=
  let r := s.receivers.get t
  let s := s.updReceiver t fun r => { r with errors := r.errors - 1 }
  if r.state = .degraded ∧ r.errors - 1 < Config.degradedFrom then
    trunkChanged t .degraded (s.updReceiver t fun r => { r with state := .clean })
  else s

/-- Recovery completes (R142). -/
def recover (t : Trunk) (s : State) : State :=
  trunkChanged t .quarantined (s.updReceiver t fun r => { r with
    state := .clean, errors := 0, runLength := 0, runCount := 0, release := false, inForce := none })

/-- The record after one more good cell in quarantine (R141): runs of 16, counted up to 128. -/
def Receiver.run (r : Receiver) : Receiver :=
  if r.runLength + 1 = Config.runCells then
    { r with runLength := 0, runCount := min Config.recoveryRuns (r.runCount + 1) }
  else { r with runLength := r.runLength + 1 }

/-- The good cell that completes a run meets the policy in force (R142, R143), the record being the one after it. -/
def Receiver.recovers (r : Receiver) : Bool :=
  r.runCount == Config.recoveryRuns && (r.inForce == some .auto || r.release)

/-- A good cell of a QUARANTINED trunk (R140–R143). -/
def quarantinedGood (t : Trunk) (s : State) : State :=
  let completesRun := (s.receivers.get t).runLength + 1 == Config.runCells
  let s := s.updReceiver t Receiver.run
  if completesRun && (s.receivers.get t).recovers then recover t s else s

/-- An errored cell, or a cell period of lost delineation, at trunk `t`'s receiver (R135, R136, R140, R141). -/
def erroredArrival (t : Trunk) (s : State) : State :=
  let s := s.updReceiver t fun r => { r with errored := bump r.errored }
  if (s.receivers.get t).state = .quarantined then s.updReceiver t fun r => { r with runLength := 0 }
  else erroredCell t s

/-- A good COMMAND cell placed in the trunk's command FIFO, or discarded and counted when the FIFO holds 8 cells (R155). -/
def commandArrival (t : Trunk) (c : Cell) (s : State) : State :=
  s.updContext t fun x =>
    if x.fifo.length < Config.commandDepth then { x with fifo := x.fifo ++ [c] } else { x with dropped := bump x.dropped }

/-- A good cell at trunk `t`'s receiver: counted, the error count or the recovery adjusted, and passed on by its kind (R135–R137, R140). -/
def goodArrival (t : Trunk) (c : Cell) (pick : PoolNo) (s : State) : State :=
  let s := s.updReceiver t fun r => { r with good := bump r.good }
  if (s.receivers.get t).state = .quarantined then quarantinedGood t s
  else
    let s := goodCell t s
    if c.kind = Cell.essenceKind then essenceArrival t c pick s
    else if c.kind = Cell.commandKind then commandArrival t c s
    else s

/-- TRUNK_CELL_ARRIVAL (R135). While the RESET line is asserted no cell is received (R154). -/
def execTrunkCellArrival (t : Trunk) (c : Cell) (pick : PoolNo) (s : State) : Out :=
  if s.resetLine then .next s
  else if c.good then .next (goodArrival t c pick s)
  else .next (erroredArrival t s)

/-- LOST_DELINEATION (R135): one errored cell. While the RESET line is asserted no cell is received (R154). -/
def execLostDelineation (t : Trunk) (s : State) : Out :=
  if s.resetLine then .next s else .next (erroredArrival t s)

/-! ## Drop ports (R98–R101) -/

/-- The channel's output sequence number increased by one mod 2^16, and a cell sent counted (R101, R99, R100). -/
def DropPort.sentOn (x : DropPort) (ch : Channel) : DropPort :=
  { x with outSeq := x.outSeq.modify ch (· + 1), sent := bump x.sent }

/-- The cell of a service entry, its contents read now (R100). -/
def serviceCell (s : State) (p : Port) (e : ServiceEntry) : Cell :=
  let d := destOf p e.channel
  let seq := (s.ports.get p).outSeq.get e.channel
  match e.kind with
  | .display => displayCell e.channel seq (displayContents s d)
  | .fill =>
    fillCell e.channel seq
      (if (s.dests.get d).format.isSome then currentFrame (formatOf s d) (s.dests.get d).offset s.houseTime else 0)

/-- The service head sent: the entry removed and the passed-over count set to 0 (R98, R100). -/
def sendService (p : Port) (e : ServiceEntry) (rest : List ServiceEntry) (s : State) : State :=
  { s with
    dropLinks := s.dropLinks.set p (serviceCell s p e)
    ports := s.ports.modify p fun x => { x with service := rest, passedOver := 0 }.sentOn e.channel }

/-- The essence head sent (R99); a waiting service entry is passed over (R98). -/
def sendEssence (p : Port) (e : EssenceEntry) (rest : List EssenceEntry) (s : State) : State :=
  let seq := (s.ports.get p).outSeq.get e.channel
  { s with
    dropLinks := s.dropLinks.set p (dropEssenceCell (cellIn s.pool e.slot) e.channel seq)
    pool := poolRelease e.slot s.pool
    ports := s.ports.modify p fun x =>
      { x with essence := rest, passedOver := if x.service = [] then x.passedOver else x.passedOver + 1 }.sentOn e.channel }

/-- An IDLE cell sent on a drop link (R98). -/
def sendIdle (p : Port) (s : State) : State := { s with dropLinks := s.dropLinks.set p Cell.idle }

/-- The service head is sent now: the essence queue is empty, its head is a frame start, or the passed-over count has reached 64 (R98). -/
def serviceTurn (s : State) (p : Port) : Bool :=
  match (s.ports.get p).essence with
  | [] => true
  | e :: _ => (cellIn s.pool e.slot).frameStart || Config.passOverLimit ≤ (s.ports.get p).passedOver

/-- One transmit opportunity of a drop link (R98). -/
def dropOpportunity (p : Port) (s : State) : State :=
  match (s.ports.get p).service, (s.ports.get p).essence with
  | e :: rest, essence =>
    if serviceTurn s p then sendService p e rest s
    else
      match essence with
      | [] => sendIdle p s
      | x :: more => sendEssence p x more s
  | [], x :: more => sendEssence p x more s
  | [], [] => sendIdle p s

/-- DROP_TRANSMIT_OPPORTUNITY (R98). While the RESET line is asserted every link sends IDLE (R154). -/
def execDropTransmitOpportunity (p : Port) (s : State) : Out :=
  .next (if s.resetLine then sendIdle p s else dropOpportunity p s)

/-! ## Return Transmitters (R149–R151) -/

/-- The reply head sent, and the pointer set to REPORT (R149). -/
def sendReply (t : Trunk) (r : Reply) (rest : List Reply) (s : State) : State :=
  { s with
    returnLinks := s.returnLinks.set t (replyCell r)
    returns := s.returns.modify t fun x => { x with replies := rest, pointer := .report } }

/-- The report head sent with the OVERWRITTEN flag if an overwrite is pending, and the pointer set to REPLY (R149, R151). -/
def sendReport (t : Trunk) (r : Report) (rest : List Report) (s : State) : State :=
  { s with
    returnLinks := s.returnLinks.set t (reportCell r (s.returns.get t).overwrite)
    returns := s.returns.modify t fun x => { x with reports := rest, pointer := .reply, overwrite := false } }

/-- One transmit opportunity of a trunk's return direction (R149). -/
def returnOpportunity (t : Trunk) (s : State) : State :=
  match (s.returns.get t).replies, (s.returns.get t).reports with
  | r :: rest, [] => sendReply t r rest s
  | [], r :: rest => sendReport t r rest s
  | r :: rest, q :: more =>
    match (s.returns.get t).pointer with
    | .reply => sendReply t r rest s
    | .report => sendReport t q more s
  | [], [] => { s with returnLinks := s.returnLinks.set t Cell.idle }

/-- RETURN_TRANSMIT_OPPORTUNITY (R149). While the RESET line is asserted every link sends IDLE (R154); the queues are empty then. -/
def execReturnTransmitOpportunity (t : Trunk) (s : State) : Out :=
  .next (if s.resetLine then { s with returnLinks := s.returnLinks.set t Cell.idle } else returnOpportunity t s)

/-! ## The RESET line (R154, R184) -/

/-- RESET_LINE_ASSERTED (R154): every block takes its power-on values, every link sends IDLE, and the line stays asserted. -/
def execResetLineAsserted (s : State) : Out := .next { State.reset with pending := s.pending, resetLine := true }

/-- RESET_LINE_RELEASED (R184): the part stands in its power-on state, HELD, with house time counting from 0 (log 15). -/
def execResetLineReleased (s : State) : Out := .next { State.reset with pending := s.pending }

/-- HOUSE_TICK (R1): the counter advances by one, wrapping. While the RESET line is asserted it holds its power-on value 0 (R154). -/
def execHouseTick (s : State) : Out := .next (if s.resetLine then s else { s with houseTime := s.houseTime + 1 })

end Sys2Proof.Machine
end

