-- ==== Sys2Proof/Machine/Events.lean ====
section
/-! DEFINITION. The part's own scheduled events: commit and switch events of takes (R67, R68, R70, R81, R121), the expiries of sources
and cuts (R31, R83, R86), fill frame points (R89) and renormalisation (R16). Each has its effect when its record is in the state
that schedules it and its time is at or before now (R2); otherwise it does not fall due, and nothing happens (log 2). -/

namespace Sys2Proof.Machine

/-! ## Commit events (R67, R68, R121) -/

/-- A take's guard holds for a current source (R67). -/
def guardHolds (k : Take) (current : Option SourceNo) : Bool :=
  match k.guardSource with
  | none => true
  | some g => g == current

/-- A take's commit event outside RUN: the deferred flag is set (R68). -/
def deferTake (d : DestNo) (k : Take) (s : State) : State := s.setActive d (some { k with deferred := true })

/-- A take COMMITTED (R67). -/
def commitTake (d : DestNo) (k : Take) (s : State) : State := s.setActive d (some { k with state := .committed })

/-- The commit event of the ARMED take `k` on `d`: deferred outside RUN (R68), and in RUN committed or removed GUARD_FAIL (R67). -/
def commitArmed (d : DestNo) (k : Take) (s : State) : State :=
  if s.mode ≠ .run then deferTake d k s
  else if guardHolds k (s.dests.get d).current then commitTake d k s
  else displayVacated s (removeActive d .guardFail s)

/-- COMMIT_EVENT (R67): of an ARMED take that is not bound in a SWAP pair, at its commit point. -/
def execCommitEvent (d : DestNo) (s : State) : Out :=
  match s.active.get d with
  | some k =>
    if k.state = .armed ∧ boundPartner s d = none ∧ (commitPoint s d k).any (isDue s) then .next (commitArmed d k s) else .next s
  | none => .next s

/-- The shared commit event of the SWAP pair `d` and `p` (R121): in RUN each half receives the other destination's current source, both
read before either changes, and both commit; otherwise both are deferred. -/
def commitPair (d p : DestNo) (k q : Take) (s : State) : State :=
  if s.mode = .run then
    commitTake p { q with source := .fixed (s.dests.get d).current }
      (commitTake d { k with source := .fixed (s.dests.get p).current } s)
  else deferTake p q (deferTake d k s)

/-- SWAP_COMMIT_EVENT (R121): of the SWAP pair to which the ARMED take of `d` is bound, at its shared commit point. -/
def execSwapCommitEvent (d : DestNo) (s : State) : Out :=
  match s.active.get d, boundPartner s d with
  | some k, some p =>
    match s.active.get p with
    | some q => if (commitPoint s d k).any (isDue s) then .next (commitPair d p k q s) else .next s
    | none => .next s
  | _, _ => .next s

/-! ## The switch event (R70, R81) -/

/-- The source that a take's cut goes to; an unfixed one, which no COMMITTED take holds, reads as NONE (log 13). -/
def TakeSource.resolved : TakeSource → Option SourceNo
  | .fixed n => n
  | .unfixed => none

/-- The usage counts moved from the old current source to the new one (R35). -/
def moveUsage (old new : Option SourceNo) (s : State) : State :=
  let s := match old with
    | some n => s.updSource n fun r => { r with usage := r.usage - 1 }
    | none => s
  match new with
  | some n => s.updSource n fun r => { r with usage := r.usage + 1 }
  | none => s

/-- The destination's current source becomes `new` (R38, R70 stage 1). -/
def setCurrent (d : DestNo) (new : Option SourceNo) (s : State) : State :=
  moveUsage (s.dests.get d).current new (s.updDest d fun x => { x with current := new })

/-- The switch at the Switch Unit (R81): to NONE at once with fill; from NONE or a LOST source straight to JOINING; otherwise DRAINING,
with tail copy when the destination was FORWARDING. -/
def switchCut (d : DestNo) (new : Option SourceNo) (switchPoint : Time) (s : State) : State :=
  match (s.switching.get d).cut with
  | .steady forwarded flag =>
    match new with
    | none =>
      complete d .noSource
        (armFillNext d (postFill d (s.updSwitching d fun w => { w with cut := .steady none .waiting })))
    | some _ =>
      match forwarded with
      | none => s.updSwitching d fun w => { w with cut := .joining (cutExpiry (formatOf s d) s.houseTime) }
      | some old =>
        if (s.sources.get old).state = .lost then
          s.updSwitching d fun w => { w with cut := .joining (cutExpiry (formatOf s d) s.houseTime) }
        else
          s.updSwitching d fun w =>
            { w with cut := .draining old (flag == .forwarding) (cutExpiry (formatOf s d) switchPoint) }
  | _ => s

/-- SWITCH_EVENT (R70): of a COMMITTED take whose cut has not begun, at its switch point, in every device mode. -/
def execSwitchEvent (d : DestNo) (s : State) : Out :=
  match s.active.get d with
  | some k =>
    match k.placed with
    | some p =>
      if k.state = .committed ∧ (s.switching.get d).cut.inProgress = false ∧ isDue s p.switchPoint then
        .next (switchCut d k.source.resolved p.switchPoint (setCurrent d k.source.resolved s))
      else .next s
    | none => .next s
  | none => .next s

/-! ## Expiries (R31, R83, R86) -/

/-- FRAME_WATCH_EXPIRY (R31): the source enters LOST. -/
def execFrameWatchExpiry (n : SourceNo) (s : State) : Out :=
  if (s.sources.get n).frameWatch.any (isDue s) then .next (enterLost n s) else .next s

/-- DRAIN_EXPIRY (R83): the destination enters JOINING. -/
def execDrainExpiry (d : DestNo) (s : State) : Out :=
  match (s.switching.get d).cut with
  | .draining _ _ expiry =>
    if isDue s expiry then
      .next (s.updSwitching d fun w => { w with cut := .joining (cutExpiry (formatOf s d) s.houseTime) })
    else .next s
  | _ => .next s

/-- The new source given up (R86): STEADY and WAITING_FRAME on the current source, one FILL entry, the fill timer active from the first
frame point after now, and notice of completion at the join expiry. -/
def giveUpJoining (d : DestNo) (s : State) : State :=
  complete d .expiry
    (armFillNext d (postFill d (s.updSwitching d fun w => { w with cut := .steady (s.dests.get d).current .waiting })))

/-- JOIN_EXPIRY (R86). -/
def execJoinExpiry (d : DestNo) (s : State) : Out :=
  match (s.switching.get d).cut with
  | .joining expiry => if isDue s expiry then .next (giveUpJoining d s) else .next s
  | _ => .next s

/-! ## Fill frame points and renormalisation (R89, R16) -/

/-- FILL_FRAME_POINT (R89): a FILL entry is posted, and the next fill frame point set. -/
def execFillFramePoint (d : DestNo) (s : State) : Out :=
  if (s.switching.get d).fill.any (isDue s) then .next (armFillNext d (postFill d s)) else .next s

/-- RENORMALISATION (R16): of a defined format, at E + 2^40. -/
def execRenormalisation (f : FormatNo) (s : State) : Out :=
  if (s.formats.get f).defined && isDue s (renormalTime (s.formats.get f)) then .next (s.updFormat f (·.renormalised))
  else .next s

end Sys2Proof.Machine
end

