-- ==== Sys2Proof/Machine/Takes.lean ====
section
/-! DEFINITION. TAKE, PROBE and CANCEL (04_takes.md), SWEEP and SWAP (6.5, 6.6): the checks of R60 and R119, the target of R61,
placement by R63, and the replies. -/

namespace Sys2Proof.Machine

/-! ## The checks of R60 -/

/-- The source, unless it is NONE, is defined (R60, check 4). -/
def sourceDefined (s : State) : Option SourceNo → Bool
  | none => true
  | some n => (s.sources.get n).state != .undefined

/-- The source, unless it is NONE, carries the format (R60, check 5). -/
def sourceCarries (s : State) (format : Option FormatNo) : Option SourceNo → Bool
  | none => true
  | some n => (s.sources.get n).format == format

/-- The arm in hand is an override arm naming this destination and owner (R56). -/
def armMatches (arm : Arm) (d : DestNo) (owner : Byte) : Bool := arm == .overriding d owner

/-- Check 9 fails for destination `d`: an AT target beyond the horizon, or a FRAMES target whose switch point there is (R61). -/
def targetFails (s : State) (d : DestNo) (g : Target) : Bool :=
  g.beyond || (g.mode == .frames && beyondHorizon s.houseTime (placeFor s d g.mode g.time g.frames).switchPoint)

/-- What a take is asked to do: the operands of R59 as read. -/
structure Request where
  dest : DestNo
  source : Option SourceNo
  guardSource : Option (Option SourceNo)
  target : Target
  deriving DecidableEq, Repr

/-- Checks 3 to 9 of R60 for a request by `owner`, with or without the override flag and with the arm in hand: the first failure's
status. A matching arm spares checks 7 and 8 (R56). -/
def requestFailure (s : State) (owner : Byte) (overrideFlag : Bool) (arm : Arm) (r : Request) : Option Status :=
  let x := s.dests.get r.dest
  let guardNamed := r.guardSource.join
  (firstFailure [
    (x.format.isNone, .undefined),
    (!(sourceDefined s r.source && sourceDefined s guardNamed), .undefined),
    (!(sourceCarries s x.format r.source && sourceCarries s x.format guardNamed), .formatMismatch),
    (overrideFlag && !armMatches arm r.dest owner, .noArm)]).or
  ((if overrideFlag then none else protectionFailure x owner).or
  (firstFailure [
    (!overrideFlag && recordingFails x, .recording),
    (targetFails s r.dest r.target, .range)]))

/-- The decoding of R59 and the checks of R60 for a TAKE or PROBE. -/
def checkTake (h : Header) (o : TakeOperands) (arm : Arm) (s : State) : Except Status Request :=
  if !namesMode o.mode then .error .operandError
  else
    match destOperand o.dest, sourceOperand o.source, guardOperand o.guardByte with
    | some dest, some source, some guardSource =>
      let r : Request := { dest, source, guardSource, target := fixTarget s.houseTime o.mode o.frames }
      match requestFailure s h.owner o.overrideFlag arm r with
      | some st => .error st
      | none => .ok r
    | _, _, _ => .error .range

/-! ## Making takes (R62, R63) -/

/-- A take's record filled from its command (R62, R112, R118); placement gives its state and switch point. -/
def newTake (t : Trunk) (tag : Tag) (source : TakeSource) (guardSource : Option (Option SourceNo)) (g : Target)
    (overrideUsed : Bool) : Take :=
  { source, guardSource, mode := g.mode, target := g.time, frames := g.frames, placed := none, late := g.late, deferred := false,
    overrideUsed, trunk := t, tag, salvo := none, partner := none, state := .armed }

/-- OK, or OK_LATE when the AT target was past (R62). -/
def acceptedStatus (late : Bool) : Status := if late then .okLate else .ok

/-- The code of the placement that a new take on `d` receives (R63). -/
def placementCode (s : State) (d : DestNo) : Byte := takeStateCode (if placesFollow s d then .following else .armed)

/-- The fields of a TAKE's reply (R62): placement, supersession, the late flag, and for an ARMED placement the switch point and frame
number, marked absent for FOLLOW. -/
def takeFields (s : State) (r : Request) : List ReplyField :=
  let p := placeFor s r.dest r.target.mode r.target.time r.target.frames
  let armed := if placesFollow s r.dest then none else some p
  [.enumeration (placementCode s r.dest), .flag (supersedes s r.dest), .flag r.target.late] ++
    optionalField .time 0 (armed.map (·.switchPoint)) ++ optionalField .frame 0 (armed.map (·.frame))

/-- TAKE (R59–R64). -/
def actTake (t : Trunk) (h : Header) (o : TakeOperands) (arm : Arm) (s : State) : Result :=
  match checkTake h o arm s with
  | .error st => refuse s st
  | .ok r =>
    let k := newTake t h.tag (.fixed r.source) r.guardSource r.target o.overrideFlag
    ⟨displayVacated s (placeTake s r.dest k s), acceptedStatus r.target.late, takeFields s r⟩

/-- TAKE: executed from the head of trunk `t`'s FIFO. -/
def execTake (t : Trunk) (h : Header) (o : TakeOperands) (s : State) : Out :=
  executeCommand t (.take t h o) .take h (actTake t h o) s

/-- The fields of a PROBE's reply (R78): as a TAKE's, with the switch point and frame number the take would have as an ARMED take at
now, each followed by its provisional mark, set for a FOLLOW placement. -/
def probeFields (s : State) (r : Request) : List ReplyField :=
  let p := placeFor s r.dest r.target.mode r.target.time r.target.frames
  let provisional := placesFollow s r.dest
  [.enumeration (placementCode s r.dest), .flag (supersedes s r.dest), .flag r.target.late,
    .time p.switchPoint, .flag provisional, .frame p.frame, .flag provisional]

/-- PROBE (R78): the checks and placement of a TAKE, creating none. -/
def actProbe (h : Header) (o : TakeOperands) (arm : Arm) (s : State) : Result :=
  match checkTake h o arm s with
  | .error st => refuse s st
  | .ok r => ⟨s, acceptedStatus r.target.late, probeFields s r⟩

/-- PROBE: executed from the head of trunk `t`'s FIFO. -/
def execProbe (t : Trunk) (h : Header) (o : TakeOperands) (s : State) : Out :=
  executeCommand t (.probe t h o) .probe h (actProbe h o) s

/-! ## CANCEL (R76) -/

/-- The ARMED take in the active position is removed: it is there and `spare` does not spare it. -/
def removesArmed (s : State) (d : DestNo) (spare : Take → Bool) : Bool := (s.active.get d).any fun k => k.state == .armed && !spare k

/-- The FOLLOW take is removed: it is there and `spare` does not spare it. -/
def removesFollow (s : State) (d : DestNo) (spare : Take → Bool) : Bool := (s.follow.get d).any fun k => !spare k

/-- The destination's ARMED take, with its SWAP partner, and its FOLLOW take removed with CANCELLED, but for those that `spare` spares
(R46, R76). -/
def cancelPending (d : DestNo) (spare : Take → Bool) (s : State) : State :=
  let s' := if removesArmed s d spare then removeArmed d .cancelled s else s
  if removesFollow s d spare then removeFollow d .cancelled s' else s'

/-- How many takes `cancelPending` removes, a SWAP partner included (R46, R76). -/
def cancelCount (s : State) (d : DestNo) (spare : Take → Bool) : Nat :=
  (if removesArmed s d spare then (if (boundPartner s d).isSome then 2 else 1) else 0) +
    (if removesFollow s d spare then 1 else 0)

/-- CANCEL (R76). -/
def actCancel (h : Header) (dest : Byte) (s : State) : Result :=
  match destOperand dest with
  | none => refuse s .range
  | some d =>
    match protectionFailure (s.dests.get d) h.owner with
    | some st => refuse s st
    | none =>
      ⟨displayVacated s (cancelPending d (fun _ => false) s), .ok, [countField (cancelCount s d fun _ => false)]⟩

/-- CANCEL: executed from the head of trunk `t`'s FIFO. -/
def execCancel (t : Trunk) (h : Header) (dest : Byte) (s : State) : Out :=
  executeCommand t (.cancel t h dest) .cancel h (fun _ => actCancel h dest) s

/-! ## SWEEP (R117, R118) -/

/-- The run of a SWEEP: the count taken mod 128, UP or DOWN from the first destination, stopping at 127 or 0 (R117). -/
def sweepRun (first : DestNo) (count : Byte) (up : Bool) : List DestNo :=
  (List.range (count.toNat % 128)).filterMap fun i =>
    if up then (if h : first.val + i < 128 then some ⟨first.val + i, h⟩ else none)
    else if i ≤ first.val then some ⟨first.val - i, by omega⟩ else none

/-- The first element of a run with a failure, as its number and the status (R111, R118). -/
def firstSkipped {α : Type} (number : α → Byte) (failure : α → Option Status) : List α → Option (Byte × Status)
  | [] => none
  | x :: rest =>
    match failure x with
    | some st => some (number x, st)
    | none => firstSkipped number failure rest

/-- The first skipped member of a run in a reply: its number, 255 for none, and its status (log 9). -/
def skippedFields (o : Option (Byte × Status)) : List ReplyField :=
  match o with
  | some (n, st) => [.quantity n, .status st]
  | none => [.quantity 255, .status .ok]

/-- SWEEP (R117, R118): every destination of the run evaluated at now, and a take created in run order for each that passes. -/
def actSweep (t : Trunk) (h : Header) (o : SweepOperands) (s : State) : Result :=
  if !namesMode o.mode then refuse s .operandError
  else
    match directionOperand o.direction, destOperand o.first, sourceOperand o.source with
    | none, _, _ => refuse s .operandError
    | some _, none, _ => refuse s .range
    | some _, some _, none => refuse s .range
    | some up, some first, some source =>
      let target := fixTarget s.houseTime o.mode o.frames
      let run := sweepRun first o.count up
      let failure := fun d => requestFailure s h.owner false .clear { dest := d, source, guardSource := none, target }
      let taken := run.filter fun d => (failure d).isNone
      let k := newTake t h.tag (.fixed source) none target false
      let s' := taken.foldl (fun s' d => placeTake s d k s') s
      ⟨displayVacated s s', acceptedStatus (target.late && taken != []),
        [countField taken.length, countField (run.length - taken.length)] ++
          skippedFields (firstSkipped (fun d : DestNo => numByte d) failure run)⟩

/-- SWEEP: executed from the head of trunk `t`'s FIFO. -/
def execSweep (t : Trunk) (h : Header) (o : SweepOperands) (s : State) : Out :=
  executeCommand t (.sweep t h o) .sweep h (fun _ => actSweep t h o) s

/-! ## SWAP (R119, R120) -/

/-- A check of SWAP applied to A and then to B: the first failure's status with the number of the destination that failed. -/
def eitherFails (a b : DestNo) (fails : DestNo → Option Status) : Option (Status × Byte) :=
  match fails a with
  | some st => some (st, numByte a)
  | none => (fails b).map fun st => (st, numByte b)

/-- A failing condition as a status. -/
def failsWith (st : Status) (b : Bool) : Option Status := if b then some st else none

/-- Checks 4 to 9 of R119, with the destination that failed; 255 where the check is of the two together (log 10). -/
def swapFailure (s : State) (owner : Byte) (a b : DestNo) (g : Target) : Option (Status × Byte) :=
  (eitherFails a b fun d => failsWith .undefined (s.dests.get d).format.isNone).or
  ((if (s.dests.get a).format ≠ (s.dests.get b).format then some (.operandError, 255) else none).or
  ((eitherFails a b fun d => failsWith .busy (isCommitted (s.active.get d))).or
  ((eitherFails a b fun d => protectionFailure (s.dests.get d) owner).or
  ((eitherFails a b fun d => failsWith .recording (recordingFails (s.dests.get d))).or
  (eitherFails a b fun d => failsWith .range (targetFails s d g))))))

/-- A SWAP refused: the status, and which destination failed (R119, R163; log 10). -/
def refuseSwap (s : State) (st : Status) (which : Byte) : Result := refuse s st [.quantity which]

/-- One half of a SWAP pair placed ARMED (R120, stage 3). -/
def placeHalf (k : Take) (d partner : DestNo) (s : State) : State :=
  s.setActive d (some (armedTake s d { k with partner := some partner }))

/-- A DISPLAY entry requested where a destination's active position was empty before the command (R120). -/
def displayPlaced (before : State) (d : DestNo) (s : State) : State :=
  if (before.active.get d).isNone then requestDisplay d s else s

/-- The pair created (R120, stages 1 to 3): ARMED takes of A and then B superseded, the two halves placed, DISPLAY entries requested. R120
does not order the entries: A's, then B's, then those of vacated third destinations is the model's choice (DESIGN CHOICE, log 5). -/
def createPair (k : Take) (a b : DestNo) (s : State) : State :=
  let s' := removeArmed b .superseded (removeArmed a .superseded s)
  let s' := placeHalf k b a (placeHalf k a b s')
  displayVacated s (displayPlaced s b (displayPlaced s a s'))

/-- The fields of one half in a SWAP's reply: switch point, frame number, and whether an existing take was superseded (R120). -/
def halfFields (s : State) (d : DestNo) (p : Placed) : List ReplyField :=
  [.time p.switchPoint, .frame p.frame, .flag (s.active.get d).isSome]

/-- SWAP (R119, R120). -/
def actSwap (t : Trunk) (h : Header) (o : SwapOperands) (s : State) : Result :=
  if !namesMode o.mode then refuseSwap s .operandError 255
  else
    match destOperand o.destA, destOperand o.destB with
    | none, _ => refuseSwap s .range o.destA
    | some _, none => refuseSwap s .range o.destB
    | some a, some b =>
      if a = b then refuseSwap s .operandError 255
      else
        let g := fixTarget s.houseTime o.mode o.frames
        match swapFailure s h.owner a b g with
        | some (st, which) => refuseSwap s st which
        | none =>
          let pa := placeFor s a g.mode g.time g.frames
          let pb := placeFor s b g.mode g.time g.frames
          let shared := addTicks (earlier pa.switchPoint pb.switchPoint) (-s.margin)
          ⟨createPair (newTake t h.tag .unfixed none g false) a b s, acceptedStatus g.late,
            halfFields s a pa ++ halfFields s b pb ++ [.time shared]⟩

/-- SWAP: executed from the head of trunk `t`'s FIFO. -/
def execSwap (t : Trunk) (h : Header) (o : SwapOperands) (s : State) : Out :=
  executeCommand t (.swap t h o) .swap h (fun _ => actSwap t h o) s

end Sys2Proof.Machine
end

