-- ==== Sys2Proof/Machine/Salvos.lean ====
section
/-! DEFINITION. The Salvo Store's commands (6.2, 6.3): SALVO_LOAD, SALVO_CLEAR and SALVO_FIRE. -/

namespace Sys2Proof.Machine

/-! ## Loading and clearing (R105–R107) -/

/-- The ordinal of the first pair that fails check 4 of R105, if one does. -/
def firstBadPair (pairs : List RawPair) : Option Nat := pairs.findIdx? fun p => (pairOperand p).isNone

/-- Pairs written at consecutive positions from `start` on, counted mod 16 (R106). -/
def writePairs (start : Nat) : List Pair → Tbl (Option Pair) 16 → Tbl (Option Pair) 16
  | [], x => x
  | p :: rest, x => writePairs (start + 1) rest (x.set ⟨start % 16, Nat.mod_lt _ (by decide)⟩ (some p))

/-- A slot with pairs loaded from `start` on (R106): the count is the larger of the old one and start + n, and 16 past position 15. -/
def SalvoSlot.loaded (k : SalvoSlot) (start : Nat) (pairs : List Pair) : SalvoSlot :=
  { k with
    positions := writePairs start pairs k.positions
    count := if start + pairs.length ≤ 16 then max k.count (start + pairs.length) else 16 }

/-- SALVO_LOAD (R105, R106). -/
def actSalvoLoad (o : LoadOperands) (s : State) : Result :=
  match slotOperand o.slot with
  | none => refuse s .range
  | some k =>
    if 16 ≤ o.start.toNat then refuse s .range
    else if o.count.toNat < 1 ∨ 10 < o.count.toNat then refuse s .operandError
    else
      match firstBadPair o.pairs with
      | some i => refuse s .range [countField i]
      | none =>
        if (s.salvos.get k).state = .fired then refuse s .busy
        else
          let pairs := o.pairs.filterMap pairOperand
          let s' := s.updSalvo k (·.loaded o.start.toNat pairs)
          ⟨s', .ok, [countField (s'.salvos.get k).count, .flag (16 < o.start.toNat + pairs.length)]⟩

/-- SALVO_LOAD: executed from the head of trunk `t`'s FIFO. -/
def execSalvoLoad (t : Trunk) (h : Header) (o : LoadOperands) (s : State) : Out :=
  executeCommand t (.salvoLoad t h o) .salvoLoad h (fun _ => actSalvoLoad o) s

/-- SALVO_CLEAR (R107). -/
def actSalvoClear (slot : Byte) (s : State) : Result :=
  match slotOperand slot with
  | none => refuse s .range
  | some k => if (s.salvos.get k).state = .fired then refuse s .busy else ⟨s.updSalvo k fun _ => .empty, .ok, []⟩

/-- SALVO_CLEAR: executed from the head of trunk `t`'s FIFO. -/
def execSalvoClear (t : Trunk) (h : Header) (slot : Byte) (s : State) : Out :=
  executeCommand t (.salvoClear t h slot) .salvoClear h (fun _ => actSalvoClear slot) s

/-! ## Firing (R108–R113) -/

/-- The positions of a slot below its pair count that hold a pair, in ascending order, each with its number (R109). -/
def firedPairs (k : SalvoSlot) : List (Fin 16 × Pair) :=
  (List.finRange 16).filterMap fun i => if i.val < k.count then (k.positions.get i).map fun p => (i, p) else none

/-- The checks of R60 for one pair of a fire, check 6 passed (R109). -/
def pairFailure (s : State) (owner : Byte) (g : Target) (x : Fin 16 × Pair) : Option Status :=
  requestFailure s owner false .clear { dest := x.2.dest, source := x.2.source, guardSource := x.2.guardSource, target := g }

/-- The fired-salvo record reset by an accepted fire (R112). -/
def SalvoSlot.fire (k : SalvoSlot) (t : Trunk) (tag : Tag) : SalvoSlot :=
  { k with outstanding := 0, tallies := .zero, firingTrunk := some t, firingTag := some tag }

/-- One take of a fire: counted in the slot's outstanding count and then placed (R112). -/
def firePair (before : State) (slot : SlotNo) (t : Trunk) (tag : Tag) (g : Target) (p : Pair) (s : State) : State :=
  placeTake before p.dest { newTake t tag (.fixed p.source) p.guardSource g false with salvo := some slot }
    (s.updSalvo slot fun k => { k with outstanding := k.outstanding + 1 })

/-- The takes of a fire placed as FOLLOW, counted as they are placed: placement never makes a take COMMITTED, so each pair's
destination tells (R113). -/
def followCount (s : State) (pairs : List (Fin 16 × Pair)) : Nat := pairs.countP fun x => placesFollow s x.2.dest

/-- An accepted fire of the slot's `accepted` pairs (R112, R113). The late flag of the reply says that the AT target was past, also where a
LENIENT fire skips every pair and no take is marked late (DESIGN CHOICE, log 18). -/
def fireSalvo (slot : SlotNo) (t : Trunk) (h : Header) (g : Target) (accepted : List (Fin 16 × Pair)) (skipped : Nat)
    (first : Option (Byte × Status)) (s : State) : Result :=
  let s' := accepted.foldl (fun s' x => firePair s slot t h.tag g x.2 s') (s.updSalvo slot (·.fire t h.tag))
  ⟨displayVacated s s', acceptedStatus (g.late && accepted != []),
    [countField accepted.length, countField skipped] ++ skippedFields first ++
      [countField (s'.salvos.get slot).outstanding, countField (followCount s accepted), .flag g.late]⟩

/-- SALVO_FIRE (R108–R113). -/
def actSalvoFire (t : Trunk) (h : Header) (o : FireOperands) (s : State) : Result :=
  if !namesMode o.mode then refuse s .operandError
  else
    match fireModeOperand o.fireMode, slotOperand o.slot with
    | none, _ => refuse s .operandError
    | some _, none => refuse s .range
    | some strict, some slot =>
      match (s.salvos.get slot).state with
      | .empty => refuse s .emptySlot
      | .fired => refuse s .busy
      | .loaded =>
        let g := fixTarget s.houseTime o.mode o.frames
        let pairs := firedPairs (s.salvos.get slot)
        let failure := pairFailure s h.owner g
        let first := firstSkipped (fun x : Fin 16 × Pair => numByte x.1) failure pairs
        let accepted := pairs.filter fun x => (failure x).isNone
        match strict, first with
        | true, some (position, st) => refuse s st [.quantity position]
        | _, _ => fireSalvo slot t h g accepted (pairs.length - accepted.length) first s

/-- SALVO_FIRE: executed from the head of trunk `t`'s FIFO. -/
def execSalvoFire (t : Trunk) (h : Header) (o : FireOperands) (s : State) : Out :=
  executeCommand t (.salvoFire t h o) .salvoFire h (fun _ => actSalvoFire t h o) s

end Sys2Proof.Machine
end

