-- ==== Sys2Proof/Machine/Crosspoint.lean ====
section
/-! DEFINITION. The Crosspoint Table's commands (03_the_crosspoint_table.md): LOCK, UNLOCK, PROTECT and UNPROTECT, ARM_OVERRIDE,
RECORD_STATE and DEST_DEFINE. -/

namespace Sys2Proof.Machine

/-! ## Protection (R49–R53) -/

/-- What a protection command makes of a destination: the protection and owner it leaves, or the status that refuses it. -/
abbrev ProtectionOutcome := Except Status (Protection × Byte)

/-- LOCK's table (R49). -/
def lockOutcome (x : Dest) (owner : Byte) : ProtectionOutcome :=
  match x.protection with
  | .free => .ok (.locked, owner)
  | .locked => if owner = x.owner then .ok (.locked, x.owner) else .error .lockedOut
  | .guarded => if owner = x.owner then .ok (.locked, owner) else .error .isProtected

/-- UNLOCK's table (R50). -/
def unlockOutcome (x : Dest) (owner : Byte) : ProtectionOutcome :=
  match x.protection with
  | .free => .ok (.free, x.owner)
  | .locked => if owner = x.owner ∨ owner = 255 then .ok (.free, 0) else .error .lockedOut
  | .guarded => .error .isProtected

/-- PROTECT's table (R51). -/
def protectOutcome (x : Dest) (owner : Byte) : ProtectionOutcome :=
  match x.protection with
  | .free => .ok (.guarded, owner)
  | .locked => if owner = x.owner then .ok (.guarded, owner) else .error .lockedOut
  | .guarded => if owner = x.owner then .ok (.guarded, x.owner) else .error .isProtected

/-- UNPROTECT's table (R52). -/
def unprotectOutcome (x : Dest) (owner : Byte) : ProtectionOutcome :=
  match x.protection with
  | .free => .ok (.free, x.owner)
  | .locked => .error .lockedOut
  | .guarded => if owner = x.owner ∨ owner = 255 then .ok (.free, 0) else .error .isProtected

/-- A destination's protection and owner stored; a change of the protection state requests a DISPLAY entry (R53). -/
def storeProtection (d : DestNo) (p : Protection) (owner : Byte) (s : State) : State :=
  let s' := s.updDest d fun x => { x with protection := p, owner }
  if p = (s.dests.get d).protection then s' else requestDisplay d s'

/-- A protection command: the number checked, then the owner where the command names an owner to store (R49, R51), then its table. -/
def actProtection (needsOwner : Bool) (outcome : Dest → Byte → ProtectionOutcome) (h : Header) (dest : Byte) (s : State) : Result :=
  match destOperand dest with
  | none => refuse s .range
  | some d =>
    if needsOwner ∧ (h.owner = 0 ∨ h.owner = 255) then refuse s .operandError
    else
      match outcome (s.dests.get d) h.owner with
      | .error st => refuse s st
      | .ok (p, owner) => ⟨storeProtection d p owner s, .ok, []⟩

/-- LOCK (R49). -/
def execLock (t : Trunk) (h : Header) (dest : Byte) (s : State) : Out :=
  executeCommand t (.lock t h dest) .lock h (fun _ => actProtection true lockOutcome h dest) s

/-- UNLOCK (R50). -/
def execUnlock (t : Trunk) (h : Header) (dest : Byte) (s : State) : Out :=
  executeCommand t (.unlock t h dest) .unlock h (fun _ => actProtection false unlockOutcome h dest) s

/-- PROTECT (R51). -/
def execProtect (t : Trunk) (h : Header) (dest : Byte) (s : State) : Out :=
  executeCommand t (.protect t h dest) .protect h (fun _ => actProtection true protectOutcome h dest) s

/-- UNPROTECT (R52). -/
def execUnprotect (t : Trunk) (h : Header) (dest : Byte) (s : State) : Out :=
  executeCommand t (.unprotect t h dest) .unprotect h (fun _ => actProtection false unprotectOutcome h dest) s

/-! ## ARM_OVERRIDE (R55) -/

/-- ARM_OVERRIDE (R55): the trunk's arm record set at the end of the execution. -/
def actArmOverride (t : Trunk) (h : Header) (dest : Byte) (s : State) : Result :=
  match destOperand dest with
  | none => refuse s .range
  | some d => ⟨s.setArm t (.overriding d h.owner), .ok, []⟩

/-- ARM_OVERRIDE: executed from the head of trunk `t`'s FIFO. -/
def execArmOverride (t : Trunk) (h : Header) (dest : Byte) (s : State) : Out :=
  executeCommand t (.armOverride t h dest) .armOverride h (fun _ => actArmOverride t h dest) s

/-! ## RECORD_STATE (R45, R46) -/

/-- The recording state stored; a change requests a DISPLAY entry (R45, R46). -/
def storeRecording (d : DestNo) (on : Bool) (s : State) : State := s.updDest d fun x => { x with recording := on }

/-- A DISPLAY entry requested where the recording state has changed from `was` (R45, R46). -/
def displayRecording (d : DestNo) (was on : Bool) (s : State) : State := if was = on then s else requestDisplay d s

/-- RECORD_STATE ON (R46): recording set, the destination's pending takes without override-used removed, DISPLAY requested. -/
def recordOn (d : DestNo) (s : State) : Result :=
  let s' := cancelPending d (·.overrideUsed) (storeRecording d true s)
  ⟨displayVacated s (displayRecording d (s.dests.get d).recording true s'), .ok, [countField (cancelCount s d (·.overrideUsed))]⟩

/-- RECORD_STATE OFF (R45). -/
def recordOff (d : DestNo) (s : State) : Result :=
  ⟨displayRecording d (s.dests.get d).recording false (storeRecording d false s), .ok, [countField 0]⟩

/-- RECORD_STATE (R45, R46). -/
def actRecordState (dest code : Byte) (s : State) : Result :=
  match destOperand dest with
  | none => refuse s .range
  | some d =>
    if (s.dests.get d).format.isNone then refuse s .undefined
    else
      match onOffOperand code with
      | none => refuse s .operandError
      | some on =>
        if (s.dests.get d).cls ≠ .recorder then refuse s .operandError
        else if on then recordOn d s
        else recordOff d s

/-- RECORD_STATE: executed from the head of trunk `t`'s FIFO. -/
def execRecordState (t : Trunk) (h : Header) (dest code : Byte) (s : State) : Out :=
  executeCommand t (.recordState t h dest code) .recordState h (fun _ => actRecordState dest code) s

/-! ## DEST_DEFINE (R39–R43) -/

/-- An offset clamped to ±floor(Pi / 2) of a format (R41). -/
def clampOffset (f : Format) (o : Int) : Int :=
  let half : Int := (f.pi.toNat / 2 : Nat)
  max (-half) (min half o)

/-- Checks 5 and 6 of R39 fail: the format operand differs and the destination carries a source or holds a take. -/
def destInUse (s : State) (d : DestNo) (format : Option FormatNo) : Bool :=
  (s.dests.get d).format != format &&
    ((s.dests.get d).current.isSome || (s.active.get d).isSome || (s.follow.get d).isSome)

/-- The class stored (R43): recording is kept from RECORDER to RECORDER and OFF otherwise; recording that a change to MONITOR sets OFF
requests a DISPLAY entry. -/
def storeClass (d : DestNo) (c : DestClass) (s : State) : State :=
  let x := s.dests.get d
  let s' := s.updDest d fun x => { x with cls := c, recording := recordingFails x && c == .recorder }
  if c = .monitor ∧ x.recording then requestDisplay d s' else s'

/-- A destination undefined (R40): recording OFF, offset 0, the fill timer inactive. -/
def undefineDest (d : DestNo) (s : State) : State :=
  (s.updDest d fun x => { x with format := none, recording := false, offset := 0 }).updSwitching d fun w => { w with fill := none }

/-- The frame points of one destination moved under it: its ARMED take recomputed and its fill timer realigned (R42). -/
def offsetMoved (d : DestNo) (s : State) : State := realignFill (· == d) (recomputeTakes (· == d) s)

/-- A destination given the format `f` and a clamped offset (R40–R42): defined, kept or moved to another format. -/
def formatDest (d : DestNo) (f : FormatNo) (o : Int) (s : State) : State :=
  let x := s.dests.get d
  let s' := s.updDest d fun x => { x with format := some f, offset := o }
  match x.format with
  | none => requestDisplay d (armFillNext d s')
  | some g =>
    if g ≠ f then realignFill (· == d) s'
    else if o = x.offset then s'
    else offsetMoved d s'

/-- An accepted DEST_DEFINE (R40–R43): the class first, then the format and offset (log 8). -/
def defineDest (d : DestNo) (format : Option FormatNo) (c : DestClass) (offset : Int) (s : State) : Result :=
  let s' := storeClass d c s
  match format with
  | none => ⟨if (s.dests.get d).format.isSome then undefineDest d s' else s', .ok, []⟩
  | some f =>
    let o := clampOffset (s.formats.get f) offset
    ⟨formatDest d f o s', if o = offset then .ok else .okClamped, []⟩

/-- A format operand of 0–15 names an undefined format (R20, R39, check 3). -/
def namesUndefined (s : State) (format : Option FormatNo) : Bool := format.any fun f => !(s.formats.get f).defined

/-- DEST_DEFINE (R39–R43). -/
def actDestDefine (o : DestOperands) (s : State) : Result :=
  if s.mode ≠ .held then refuse s .notHeld
  else
    match destOperand o.dest, formatOperand o.format with
    | none, _ => refuse s .range
    | some _, none => refuse s .range
    | some d, some format =>
      if namesUndefined s format then refuse s .undefined
      else
        match classOperand o.cls with
        | none => refuse s .operandError
        | some c => if destInUse s d format then refuse s .inUse else defineDest d format c o.offset.toInt s

/-- DEST_DEFINE: executed from the head of trunk `t`'s FIFO. -/
def execDestDefine (t : Trunk) (h : Header) (o : DestOperands) (s : State) : Out :=
  executeCommand t (.destDefine t h o) .destDefine h (fun _ => actDestDefine o) s

end Sys2Proof.Machine
end

