-- ==== Sys2Proof/Machine/Sources.lean ====
section
/-! DEFINITION. The Source Tracker's commands (2.2): SOURCE_DEFINE and SOURCE_TALLY. -/

namespace Sys2Proof.Machine

/-! ## SOURCE_DEFINE (R20–R24) -/

/-- A take names source `n` as its source or as its guard (R21). -/
def Take.namesSource (k : Take) (n : SourceNo) : Bool := k.source == .fixed (some n) || k.guardSource == some (some n)

/-- A pair names source `n` as its source or as its guard (R21). -/
def Pair.namesSource (p : Pair) (n : SourceNo) : Bool := p.source == some n || p.guardSource == some (some n)

/-- A source is in use (R21). -/
def sourceInUse (s : State) (n : SourceNo) : Bool :=
  decide (0 < (s.sources.get n).usage) ||
    s.switching.rows.any (·.forwards n) ||
    s.active.rows.any (·.any (·.namesSource n)) ||
    s.follow.rows.any (·.any (·.namesSource n)) ||
    s.salvos.rows.any fun k => k.positions.rows.any (·.any (·.namesSource n))

/-- A label byte as stored (R24): 0x20 to 0x7E as it is, every other byte as '?'. -/
def labelByte (b : Byte) : Byte := if 0x20 ≤ b.toNat ∧ b.toNat ≤ 0x7E then b else 0x3F

/-- A source defined with a format, moved to another or undefined (R22, R23): captures, counts and phase cleared, the gap counter kept. -/
def Source.redefined (r : Source) (format : Option FormatNo) : Source :=
  { r with
    format
    state := if format.isSome then .absent else .undefined
    lastCapture := none
    frameWatch := none
    lastSeq := none
    inWindow := 0
    outWindow := 0
    phase := 0 }

/-- The format of a source stored with the effects of R22 and R23; the same format again changes nothing. -/
def storeFormat (n : SourceNo) (format : Option FormatNo) (s : State) : State :=
  let old := s.sources.get n
  if old.format = format then s
  else evaluateTracking n (sourceChanged n old.state (s.updSource n (·.redefined format)))

/-- The label of a source stored; a label that differs requests a DISPLAY entry for every destination forwarding the source (R24). -/
def storeLabel (n : SourceNo) (label : Tbl Byte 16) (s : State) : State :=
  let s' := s.updSource n fun r => { r with label }
  if label = (s.sources.get n).label then s' else requestDisplays (destsForwarding s n) s'

/-- SOURCE_DEFINE (R20–R24). -/
def actSourceDefine (source format : Byte) (label : Tbl Byte 16) (s : State) : Result :=
  match sourceNumber source, formatOperand format with
  | none, _ => refuse s .range
  | some _, none => refuse s .range
  | some n, some f =>
    if namesUndefined s f then refuse s .undefined
    else if f ≠ (s.sources.get n).format ∧ sourceInUse s n then refuse s .inUse
    else ⟨storeLabel n (label.map labelByte) (storeFormat n f s), .ok, []⟩

/-- SOURCE_DEFINE: executed from the head of trunk `t`'s FIFO. -/
def execSourceDefine (t : Trunk) (h : Header) (source format : Byte) (label : Tbl Byte 16) (s : State) : Out :=
  executeCommand t (.sourceDefine t h source format label) .sourceDefine h (fun _ => actSourceDefine source format label) s

/-! ## SOURCE_TALLY (R25) -/

/-- SOURCE_TALLY (R25). -/
def actSourceTally (source : Byte) (bits : Tally) (s : State) : Result :=
  match sourceNumber source with
  | none => refuse s .range
  | some n =>
    if (s.sources.get n).state = .undefined then refuse s .undefined
    else ⟨requestDisplays (destsForwarding s n) (s.updSource n fun r => { r with tally := bits }), .ok, []⟩

/-- SOURCE_TALLY: executed from the head of trunk `t`'s FIFO. -/
def execSourceTally (t : Trunk) (h : Header) (source : Byte) (bits : Tally) (s : State) : Out :=
  executeCommand t (.sourceTally t h source bits) .sourceTally h (fun _ => actSourceTally source bits) s

end Sys2Proof.Machine
end

