-- ==== Sys2Proof/Machine/CadenceCommands.lean ====
section
/-! DEFINITION. The Cadence Unit's commands (01_frame_cadence_and_house_time.md): SET_MARGIN, TIMESET and FORMAT_DEFINE, each accepted
in HELD alone. -/

namespace Sys2Proof.Machine

/-! ## SET_MARGIN (R3) -/

/-- SET_MARGIN (R3). -/
def actSetMargin (margin : BitVec 32) (s : State) : Result :=
  if s.mode ≠ .held then refuse s .notHeld
  else if margin.toNat ≤ Config.maxMargin then ⟨{ s with margin := margin.toNat }, .ok, []⟩
  else ⟨{ s with margin := Config.maxMargin }, .okClamped, []⟩

/-- SET_MARGIN: executed from the head of trunk `t`'s FIFO. -/
def execSetMargin (t : Trunk) (h : Header) (margin : BitVec 32) (s : State) : Out :=
  executeCommand t (.setMargin t h margin) .setMargin h (fun _ => actSetMargin margin) s

/-! ## TIMESET (R4) -/

/-- Every ARMED take removed with CANCELLED, in ascending destination number (R4, stage 5; log 5). -/
def cancelAllArmed (s : State) : State :=
  (List.finRange 128).foldl (fun s d => if isArmed (s.active.get d) then removeArmed d .cancelled s else s) s

/-- The expiry of a cut moved by a step (R4). -/
def Cut.shifted (c : Cut) (step : Time) : Cut :=
  match c with
  | .steady forwarded flag => .steady forwarded flag
  | .draining old tail expiry => .draining old tail (expiry + step)
  | .joining expiry => .joining (expiry + step)

/-- Every stored time moved by the step to `v` (R4, stages 1 to 4): the counter, epochs, captures, and expiries. -/
def shiftTimes (v : Time) (s : State) : State :=
  let step := v - s.houseTime
  { s with
    houseTime := v
    formats := s.formats.map fun x => if x.defined then { x with epoch := x.epoch + step } else x
    sources := s.sources.map fun r =>
      { r with
        lastCapture := r.lastCapture.map (· + step)
        frameWatch := r.frameWatch.map (· + step) }
    switching := s.switching.map fun w => { cut := w.cut.shifted step, fill := w.fill.map (· + step) } }

/-- TIMESET (R4). The cancellations are made at now, the time before the load (log 7). -/
def actTimeset (v : Time) (s : State) : Result :=
  if s.mode ≠ .held then refuse s .notHeld
  else ⟨shiftTimes v (displayVacated s (cancelAllArmed s)), .ok, [countField (s.active.count isArmed)]⟩

/-- TIMESET: executed from the head of trunk `t`'s FIFO. -/
def execTimeset (t : Trunk) (h : Header) (v : Time) (s : State) : Out :=
  executeCommand t (.timeset t h v) .timeset h (fun _ => actTimeset v) s

/-! ## FORMAT_DEFINE (R6–R8) -/

/-- The period, window and cadence source of a define form. -/
structure Cadence where
  pi : BitVec 24
  pn : BitVec 16
  pd : BitVec 16
  wl : BitVec 16
  source : Option SourceNo
  deriving DecidableEq, Repr

/-- An undefined format created (R6): E is now and N_E is 0, FREE_RUNNING, the re-anchor counter 0. -/
def newFormat (now : Time) (c : Cadence) : Format :=
  { defined := true, pi := c.pi, pn := c.pn, pd := c.pd, wl := c.wl, cadence := c.source, epoch := now, epochFrame := 0,
    tracking := false, reanchors := 0 }

/-- A defined format given new values (R7): E, N_E and the re-anchor counter are kept. -/
def Format.redefined (x : Format) (c : Cadence) : Format :=
  { x with pi := c.pi, pn := c.pn, pd := c.pd, wl := c.wl, cadence := c.source }

/-- The offsets of the destinations of format `f` clamped to its Pi (R7, R41). -/
def clampOffsets (f : FormatNo) (s : State) : State :=
  { s with
    dests := s.dests.map fun x => if x.format = some f then { x with offset := clampOffset (s.formats.get f) x.offset } else x }

/-- A redefinition's effects (R7): record, tracking state, offsets, ARMED takes, fill timers. -/
def redefineFormat (f : FormatNo) (c : Cadence) (s : State) : State :=
  let s := s.updFormat f (·.redefined c)
  let s := s.updFormat f fun x => { x with tracking := isTracking s.sources f x }
  let s := clampOffsets f s
  realignFill (hasFormat s f) (recomputeTakes (hasFormat s f) s)

/-- Checks 2 to 4 of R6 fail: Pi, Pd or Pn out of its range. -/
def badPeriod (pi : BitVec 24) (pn pd : BitVec 16) : Bool :=
  decide (pi.toNat < Config.minPeriod) || decide (pd.toNat < 1 ∨ Config.maxDenominator < pd.toNat) || decide (pd.toNat ≤ pn.toNat)

/-- A source or destination record names the format (R8). -/
def formatInUse (s : State) (f : FormatNo) : Bool :=
  s.sources.rows.any (·.format == some f) || s.dests.rows.any (·.format == some f)

/-- The define form accepted (R6, R7): OK_CLAMPED when an offset changed. -/
def defineFormat (f : FormatNo) (c : Cadence) (s : State) : Result :=
  if (s.formats.get f).defined then
    let s' := redefineFormat f c s
    ⟨s', if s'.dests = s.dests then .ok else .okClamped, []⟩
  else ⟨s.updFormat f fun _ => newFormat s.houseTime c, .ok, []⟩

/-- The undefine form (R8). -/
def undefineFormat (f : FormatNo) (s : State) : Result :=
  if (s.formats.get f).defined then
    if formatInUse s f then refuse s .inUse else ⟨s.updFormat f fun _ => Format.undefined, .ok, []⟩
  else ⟨s, .ok, []⟩

/-- FORMAT_DEFINE (R6–R8). -/
def actFormatDefine (format : Byte) (form : FormatForm) (s : State) : Result :=
  if s.mode ≠ .held then refuse s .notHeld
  else
    match formatNumber format with
    | none => refuse s .range
    | some f =>
      match form with
      | .undefine => undefineFormat f s
      | .define pi pn pd wl cadence =>
        if badPeriod pi pn pd then refuse s .operandError
        else
          match sourceOperand cadence with
          | none => refuse s .range
          | some source => defineFormat f { pi, pn, pd, wl, source } s

/-- FORMAT_DEFINE: executed from the head of trunk `t`'s FIFO. -/
def execFormatDefine (t : Trunk) (h : Header) (format : Byte) (form : FormatForm) (s : State) : Out :=
  executeCommand t (.formatDefine t h format form) .formatDefine h (fun _ => actFormatDefine format form) s

end Sys2Proof.Machine
end

