-- ==== Sys2Proof/Machine/ModeCommands.lean ====
section
/-! DEFINITION. The Mode Controller's commands (10_hold_resume_and_warm_reset.md): HOLD, RESUME, RESET_ARM, RESET with the warm reset,
SET_REPORT_MASK; and the Trunk Receivers' commands TRUNK_RELEASE and TRUNK_POLICY (R144, R146). -/

namespace Sys2Proof.Machine

/-! ## HOLD (R175) -/

/-- The mode after a HOLD (R175): HOLDING from RUN, and HELD at once when no cut is in progress. -/
def holdMode (s : State) : State :=
  if s.mode ≠ .run then s
  else if noCutInProgress s then reachHeld { s with mode := .holding }
  else { s with mode := .holding }

/-- HOLD (R175): the reply carries the mode after it and the two counts of cuts in progress. -/
def actHold (s : State) : Result :=
  let s' := holdMode s
  ⟨s', .ok, [.enumeration (modeCode s'.mode), countField (committedCount s), countField (cutCount s)]⟩

/-- HOLD: executed from the head of trunk `t`'s FIFO. -/
def execHold (t : Trunk) (h : Header) (s : State) : Out := executeCommand t (.hold t h) .hold h (fun _ => actHold) s

/-! ## RESUME (R178) -/

/-- RESUME finds the take deferred, or its commit point at or before now (R178). -/
def resumesAlone (s : State) (d : DestNo) : Bool :=
  (s.active.get d).any fun k => k.state == .armed && (k.deferred || (commitPoint s d k).any (isDue s))

/-- RESUME re-targets the ARMED take of a destination: its own condition holds, or that of its SWAP partner, since the two halves are
re-targeted together (R178). -/
def resumes (s : State) (d : DestNo) : Bool :=
  resumesAlone s d || (boundPartner s d).any (resumesAlone s)

/-- Every ARMED take that RESUME finds re-targeted to now, its deferred flag cleared (R178). -/
def retargetAll (s : State) : State :=
  { s with
    active := s.active.mapIdx fun d o =>
      if resumes s d then o.map fun k => retargeted s d { k with deferred := false } else o }

/-- RESUME (R178): the reply carries the previous mode and the number of takes re-targeted. -/
def actResume (s : State) : Result :=
  if s.mode = .run then ⟨s, .ok, [.enumeration (modeCode .run), countField 0]⟩
  else
    ⟨{ retargetAll s with mode := .run }, .ok,
      [.enumeration (modeCode s.mode), countField ((List.finRange 128).countP (resumes s))]⟩

/-- RESUME: executed from the head of trunk `t`'s FIFO. -/
def execResume (t : Trunk) (h : Header) (s : State) : Out := executeCommand t (.resume t h) .resume h (fun _ => actResume) s

/-! ## RESET_ARM (R180) -/

/-- RESET_ARM: executed from the head of trunk `t`'s FIFO; the reset arm is set at the end of the execution (R180). -/
def execResetArm (t : Trunk) (h : Header) (s : State) : Out :=
  executeCommand t (.resetArm t h) .resetArm h (fun _ s => ⟨s.setArm t .reset, .ok, []⟩) s

/-! ## Counters (R173) -/

/-- Every counter of the part set to 0 (R172, R173). -/
def clearCounters (s : State) : State :=
  { s with
    receivers := s.receivers.map fun r => { r with good := 0, errored := 0, undefStream := 0 }
    contexts := s.contexts.map fun x => { x with dropped := 0 }
    returns := s.returns.map fun x => { x with discarded := 0 }
    ports := s.ports.map fun x => { x with sent := 0, refused := 0, coalesced := 0 }
    poolExhausted := 0
    formats := s.formats.map fun x => { x with reanchors := 0 }
    sources := s.sources.map fun r => { r with gaps := 0 } }

/-! ## The warm reset (R181, R182) -/

/-- A source record after a warm reset (R36); its gap counter is set by `clearCounters`. -/
def Source.warm (r : Source) : Source :=
  { r with
    state := match r.state with
      | .undefined => .undefined
      | .absent => .absent
      | .acquiring | .locked | .lost => .acquiring
    lastCapture := none
    frameWatch := none
    lastSeq := none
    inWindow := 0
    outWindow := 0 }

/-- The fill timer of a destination after a warm reset (R102). -/
def warmFill (s : State) (d : DestNo) : Option Time :=
  match (s.dests.get d).format, (s.dests.get d).current with
  | none, _ => none
  | some _, some _ => some (pointFrom s d (addTicks s.houseTime ((formatOf s d).pi.toNat + 1)))
  | some _, none => some (pointFrom s d (s.houseTime + 1))

/-- The switching record of a destination after a warm reset (R102). -/
def warmSwitching (s : State) (d : DestNo) : Switching :=
  { cut := .steady (if (s.dests.get d).format.isSome then (s.dests.get d).current else none) .waiting, fill := warmFill s d }

/-- A port after a warm reset (R103): queues and passed-over count cleared, output sequence numbers kept. -/
def DropPort.warm (x : DropPort) : DropPort := { x with essence := [], service := [], passedOver := 0 }

/-- A receive record after a warm reset (R148): the recovery policy kept. -/
def Receiver.warm (r : Receiver) : Receiver := { Receiver.reset with policy := r.policy }

/-- The mode after a warm reset (R174). -/
def Mode.warm : Mode → Mode
  | .run => .run
  | .holding | .held => .held

/-- Every format's tracking state evaluated (R9). -/
def evaluateAll (s : State) : State :=
  { s with formats := s.formats.mapIdx fun f x => { x with tracking := isTracking s.sources f x } }

/-- Stages 1 to 3 of the warm reset (R181): FIFOs, arms, takes, salvos, sources and tracking. -/
def warmRecords (s : State) : State :=
  evaluateAll { s with
    contexts := s.contexts.map fun x => { x with fifo := [] }
    arms := Tbl.fill 8 .clear
    active := Tbl.fill 128 none
    follow := Tbl.fill 128 none
    salvos := Tbl.fill 32 SalvoSlot.empty
    sources := s.sources.map Source.warm }

/-- Stages 5 to 8 of the warm reset (R181): switching, ports and pool, receivers, mode, return queues and counters. -/
def warmBlocks (s : State) : State :=
  clearCounters { s with
    switching := s.switching.mapIdx fun d _ => warmSwitching s d
    pool := []
    ports := s.ports.map DropPort.warm
    receivers := s.receivers.map Receiver.warm
    mode := s.mode.warm
    returns := Tbl.fill 8 ReturnTx.reset }

/-- The warm reset (R181): its stages in order, and one DISPLAY entry for every defined destination at the end. -/
def warmReset (s : State) : State := requestDisplays (List.finRange 128) (warmBlocks (warmRecords s))

/-- RESET (R181, R182): a warm reset with a reset arm in hand, NO_ARM with any other. -/
def actReset (arm : Arm) (s : State) : Result :=
  if arm = .reset then
    let s' := warmReset s
    ⟨s', .ok, [.enumeration (modeCode s'.mode), .time s.houseTime]⟩
  else refuse s .noArm

/-- RESET: executed from the head of trunk `t`'s FIFO. -/
def execReset (t : Trunk) (h : Header) (s : State) : Out := executeCommand t (.reset t h) .reset h actReset s

/-! ## SET_REPORT_MASK (R165) -/

/-- SET_REPORT_MASK: executed from the head of trunk `t`'s FIFO; the reply carries the previous and the new mask (R165). -/
def execSetReportMask (t : Trunk) (h : Header) (mask : Byte) (s : State) : Out :=
  executeCommand t (.setReportMask t h mask) .setReportMask h
    (fun _ s => ⟨{ s with reportMask := mask }, .ok, [.bits s.reportMask, .bits mask]⟩) s

/-! ## TRUNK_RELEASE and TRUNK_POLICY (R144, R146) -/

/-- TRUNK_RELEASE (R144): the release is kept by a QUARANTINED trunk alone. -/
def actTrunkRelease (t : Trunk) (named : Byte) (s : State) : Result :=
  match trunkOperand named with
  | none => refuse s .range
  | some u =>
    if u = t then refuse s .operandError
    else
      let r := s.receivers.get u
      let kept := r.state == .quarantined
      ⟨if kept then s.updReceiver u fun r => { r with release := true } else s, .ok,
        [.enumeration (trunkStateCode r.state), countField r.runCount, .flag kept]⟩

/-- TRUNK_RELEASE: executed from the head of trunk `t`'s FIFO. -/
def execTrunkRelease (t : Trunk) (h : Header) (named : Byte) (s : State) : Out :=
  executeCommand t (.trunkRelease t h named) .trunkRelease h (fun _ => actTrunkRelease t named) s

/-- TRUNK_POLICY (R146): the reply carries the new policy and, for a QUARANTINED trunk, the policy in force (log 11). -/
def actTrunkPolicy (named policy : Byte) (s : State) : Result :=
  match trunkOperand named with
  | none => refuse s .range
  | some u =>
    match policyOperand policy with
    | none => refuse s .operandError
    | some p =>
      let r := s.receivers.get u
      let inForce := if r.state = .quarantined then r.inForce else none
      ⟨s.updReceiver u fun r => { r with policy := p }, .ok,
        .enumeration (policyCode p) :: optionalField .enumeration 0 (inForce.map policyCode)⟩

/-- TRUNK_POLICY: executed from the head of trunk `t`'s FIFO. -/
def execTrunkPolicy (t : Trunk) (h : Header) (named policy : Byte) (s : State) : Out :=
  executeCommand t (.trunkPolicy t h named policy) .trunkPolicy h (fun _ => actTrunkPolicy named policy) s

end Sys2Proof.Machine
end

