-- ==== Sys2Proof/Machine/Reads.lean ====
section
/-! DEFINITION. The read commands (R166–R172) with the packed summaries of READ_DEST (R169, R188), and the execution of a cell that
fails decoding (R159). -/

namespace Sys2Proof.Machine

/-! ## IDENTIFY (R166) -/

/-- The capacities of the IDENTIFY reply, in the order of R166. -/
def capacities : List Nat := [8, 16, 8, 16, 16, 2048, 512, 32, 8, 16, 16, 32, 16]

/-- The results of IDENTIFY (R166, R188). -/
def identifyFields : List ReplyField :=
  [.word Config.vendorCode, .word Config.partCode, .quantity Config.revision, .serial Config.serialNumber] ++
    capacities.map fun n => .word (BitVec.ofNat 16 n)

/-- IDENTIFY: executed from the head of trunk `t`'s FIFO. -/
def execIdentify (t : Trunk) (h : Header) (s : State) : Out :=
  executeCommand t (.identify t h) .identify h (fun _ s => ⟨s, .ok, identifyFields⟩) s

/-! ## READ_STATUS (R167) -/

/-- The results of READ_STATUS (R167). R167 does not order the eight receive states: T0 first, ascending, is the model's choice (DESIGN CHOICE,
log 19). -/
def statusFields (s : State) : List ReplyField :=
  [.enumeration (modeCode s.mode), .time s.houseTime, .margin s.margin, .bits s.reportMask] ++
    (s.receivers.rows.map fun r => .enumeration (trunkStateCode r.state)) ++
    [.word (BitVec.ofNat 16 (poolFree s)), countField (committedCount s), countField (cutCount s), countField (firedCount s)]

/-- READ_STATUS: executed from the head of trunk `t`'s FIFO. -/
def execReadStatus (t : Trunk) (h : Header) (s : State) : Out :=
  executeCommand t (.readStatus t h) .readStatus h (fun _ s => ⟨s, .ok, statusFields s⟩) s

/-! ## READ_DEST (R168, R169) -/

/-- Destination `i` of the part, counted mod 128; every use below stays under 128. -/
def destAt (i : Nat) : DestNo := ⟨i % 128, Nat.mod_lt _ (by decide)⟩

/-- The destinations of a READ_DEST (R168): in the aligned group of a wrap, or up to destination 127. -/
def readRange (start : DestNo) (count : Nat) (wrap : Option Nat) : List DestNo :=
  match wrap with
  | some g => (List.range count).map fun i => destAt (start.val - start.val % g + (start.val % g + i) % g)
  | none => (List.range (min count (128 - start.val))).map fun i => destAt (start.val + i)

/-- The reply carries the TRUNCATED flag: without wrap, the range would pass destination 127 (R168). -/
def truncates (start : DestNo) (count : Nat) (wrap : Option Nat) : Bool :=
  wrap.isNone && decide (127 < start.val + count - 1)

/-- A yes/no value as the bit `n` of a byte. -/
def bitAt (n : Nat) (b : Bool) : Byte := if b then BitVec.ofNat 8 (2 ^ n) else 0

/-- A code as the bits from `n` up of a byte. -/
def codeAt (n : Nat) (code : Byte) : Byte := code <<< n

/-- The twelve bytes of a compact summary (R169, R188); bits whose field the destination does not hold are zero (log 12), and so are the
bits that R188 lists for no field, bit 7 of bytes 1 and 9 (DESIGN CHOICE, log 17). -/
def compactSummary (s : State) (d : DestNo) : List Byte :=
  let x := s.dests.get d
  let cut := (s.switching.get d).cut
  let active := s.active.get d
  let shown := displayContents s d
  [numByte d,
   (x.format.map fun f => numByte f.val).getD 0 ||| bitAt 4 x.format.isSome ||| codeAt 5 (cutCode cut),
   codeAt 0 (classCode x.cls) ||| bitAt 1 x.recording ||| codeAt 2 (protectionCode x.protection) |||
     codeAt 4 (forwardingCode cut) ||| bitAt 5 (s.follow.get d).isSome ||| bitAt 6 (active.any (·.partner.isSome)) |||
     bitAt 7 (active.any (·.source == .unfixed))] ++
  signedBytes 3 x.offset ++
  [sourceByte x.current, x.owner, forwardedByte cut.forwarded,
   shown.indicators.byte ||| codeAt 5 (positionCode active),
   shown.tally.byte ||| bitAt 4 (active.any (·.late)) ||| bitAt 5 (active.any (·.deferred)) |||
     bitAt 6 (active.any (·.overrideUsed)) ||| bitAt 7 (active.any (·.salvo.isSome)),
   (active.map fun k => takeSourceByte k.source).getD 0]

/-- The switching record's tail copy (R169). -/
def tailCopy : Cut → Bool
  | .draining _ tail _ => tail
  | _ => false

/-- A salvo slot, 255 for none (R188). -/
def slotByte (o : Option SlotNo) : Byte := (o.map fun k => numByte k.val).getD 255

/-- The active take's fields in a detailed summary (R169, R188): 25 bytes, zero for an empty position. -/
def activeSummary (o : Option Take) : List Byte :=
  match o with
  | some k =>
    [guardByteOf k.guardSource, targetModeCode k.mode] ++ toBytes 6 k.target.toNat ++ toBytes 2 k.frames.toNat ++
      placedBytes k.placed ++ [numByte k.trunk] ++ toBytes 2 k.tag.toNat ++
      [slotByte k.salvo, (k.partner.map fun p => numByte p.val).getD 255]
  | none => List.replicate 25 0

/-- The FOLLOW take's fields in a detailed summary (R169, R188): 6 bytes, zero for an empty position. -/
def followSummary (o : Option Take) : List Byte :=
  match o with
  | some k =>
    [takeSourceByte k.source, targetModeCode k.mode, numByte k.trunk] ++ toBytes 2 k.tag.toNat ++ [slotByte k.salvo]
  | none => List.replicate 6 0

/-- A detailed summary: the compact one and what R169 adds to it; bits 7 to 2 of its flag byte, which R188 does not list, are zero (log 17). -/
def detailedSummary (s : State) (d : DestNo) : List Byte :=
  compactSummary s d ++
    [bitAt 0 (tailCopy (s.switching.get d).cut) ||| bitAt 1 (s.switching.get d).fill.isSome] ++
    activeSummary (s.active.get d) ++ followSummary (s.follow.get d)

/-- The packed results of READ_DEST (R169, R188): a detailed summary for one entry, compact ones for more. Bits 6 to 3 of the first byte,
which R188 does not list, are zero (DESIGN CHOICE, log 17). -/
def destSummaries (s : State) (ds : List DestNo) (truncated : Bool) : List Byte :=
  (numByte ds.length ||| bitAt 7 truncated) ::
    (if ds.length = 1 then ds.flatMap (detailedSummary s) else ds.flatMap (compactSummary s))

/-- READ_DEST (R168, R169). -/
def actReadDest (start count wrap : Byte) (s : State) : Result :=
  match destOperand start with
  | none => refuse s .range
  | some d =>
    if count.toNat < 1 ∨ 4 < count.toNat then refuse s .operandError
    else
      match wrapOperand wrap with
      | none => refuse s .operandError
      | some w =>
        ⟨s, .ok, [.packed (destSummaries s (readRange d count.toNat w) (truncates d count.toNat w))]⟩

/-- READ_DEST: executed from the head of trunk `t`'s FIFO. -/
def execReadDest (t : Trunk) (h : Header) (start count wrap : Byte) (s : State) : Out :=
  executeCommand t (.readDest t h start count wrap) .readDest h (fun _ => actReadDest start count wrap) s

/-! ## READ_SOURCE and READ_FORMAT (R170) -/

/-- The results of READ_SOURCE (R170): every field of the record. The unlisted bits 7 to 4 of its tally byte are zero (DESIGN CHOICE, log 17). -/
def sourceFields (r : Source) : List ReplyField :=
  [.quantity (formatByte r.format), .label r.label, .bits r.tally.byte, .enumeration (sourceStateCode r.state)] ++
    optionalField .time 0 r.lastCapture ++ optionalField .time 0 r.frameWatch ++ optionalField .word 0 r.lastSeq ++
    [countField r.inWindow, countField r.outWindow, .counter r.gaps, .signed r.phase, countField r.usage]

/-- READ_SOURCE (R170). -/
def actReadSource (source : Byte) (s : State) : Result :=
  match sourceNumber source with
  | none => refuse s .range
  | some n => ⟨s, .ok, sourceFields (s.sources.get n)⟩

/-- READ_SOURCE: executed from the head of trunk `t`'s FIFO. -/
def execReadSource (t : Trunk) (h : Header) (source : Byte) (s : State) : Out :=
  executeCommand t (.readSource t h source) .readSource h (fun _ => actReadSource source) s

/-- The results of READ_FORMAT (R170): every field of the record. -/
def formatFields (x : Format) : List ReplyField :=
  [.flag x.defined, .period x.pi, .word x.pn, .word x.pd, .word x.wl, .quantity (sourceByte x.cadence), .time x.epoch,
    .frame x.epochFrame, .enumeration (trackingCode x.tracking), .counter x.reanchors]

/-- READ_FORMAT (R170). -/
def actReadFormat (format : Byte) (s : State) : Result :=
  match formatNumber format with
  | none => refuse s .range
  | some f => ⟨s, .ok, formatFields (s.formats.get f)⟩

/-- READ_FORMAT: executed from the head of trunk `t`'s FIFO. -/
def execReadFormat (t : Trunk) (h : Header) (format : Byte) (s : State) : Out :=
  executeCommand t (.readFormat t h format) .readFormat h (fun _ => actReadFormat format) s

/-! ## READ_SALVO (R171) -/

/-- The results of READ_SALVO for the LOW or the HIGH half (R171). -/
def salvoFields (k : SalvoSlot) (low : Bool) : List ReplyField :=
  [.enumeration (salvoStateCode k.state), countField k.count, countField k.outstanding] ++
    (Tallies.list k.tallies).map countField ++
    optionalField .quantity 0 (k.firingTrunk.map fun t => numByte t.val) ++ optionalField .tag 0 k.firingTag ++
    ((if low then k.positions.rows.take 8 else k.positions.rows.drop 8).map fun p => .pair p)

/-- READ_SALVO (R171). -/
def actReadSalvo (slot half : Byte) (s : State) : Result :=
  match slotOperand slot with
  | none => refuse s .range
  | some k =>
    match halfOperand half with
    | none => refuse s .operandError
    | some low => ⟨s, .ok, salvoFields (s.salvos.get k) low⟩

/-- READ_SALVO: executed from the head of trunk `t`'s FIFO. -/
def execReadSalvo (t : Trunk) (h : Header) (slot half : Byte) (s : State) : Out :=
  executeCommand t (.readSalvo t h slot half) .readSalvo h (fun _ => actReadSalvo slot half) s

/-! ## READ_COUNTERS (R172) -/

/-- The values of a trunk's group (R172). -/
def trunkCounters (s : State) (t : Trunk) : List ReplyField :=
  let r := s.receivers.get t
  [.counter r.good, .counter r.errored, .counter r.undefStream, .counter (s.contexts.get t).dropped,
    .counter (s.returns.get t).discarded, .enumeration (trunkStateCode r.state), countField r.errors, countField r.runCount]

/-- The values of a port's group (R172). -/
def portCounters (x : DropPort) : List ReplyField := [.counter x.sent, .counter x.refused, .counter x.coalesced]

/-- The values of a counter group, 0–18 (R172). -/
def groupFields (s : State) (group : Byte) : Option (List ReplyField) :=
  let g := group.toNat
  if h : g < 8 then some (trunkCounters s ⟨g, h⟩)
  else if h : g < 16 then some (portCounters (s.ports.get ⟨g - 8, by omega⟩))
  else if g = 16 then some [.counter s.poolExhausted, .word (BitVec.ofNat 16 (poolFree s))]
  else if g = 17 then some ((s.formats.rows.take 8).map fun x => .counter x.reanchors)
  else if g = 18 then some ((s.formats.rows.drop 8).map fun x => .counter x.reanchors)
  else none

/-- READ_COUNTERS (R172): the group's values are taken before the clear flag zeroes every counter. -/
def actReadCounters (group : Byte) (clear : Bool) (s : State) : Result :=
  match groupFields s group with
  | none => refuse s .range
  | some fields => ⟨if clear then clearCounters s else s, .ok, fields⟩

/-- READ_COUNTERS: executed from the head of trunk `t`'s FIFO. -/
def execReadCounters (t : Trunk) (h : Header) (group : Byte) (clear : Bool) (s : State) : Out :=
  executeCommand t (.readCounters t h group clear) .readCounters h (fun _ => actReadCounters group clear) s

/-! ## A cell that fails decoding (R159) -/

/-- COMMAND_DECODE_FAILURE (R159): no effect but the spending of the arm, and a reply that echoes the code, sub-code and tag as received. -/
def execCommandDecodeFailure (t : Trunk) (code sub : Byte) (tag : Tag) (status : Status) (s : State) : Out :=
  executeHead t (.commandDecodeFailure t code sub tag status) code sub tag (fun _ s => ⟨s, status, []⟩) s

end Sys2Proof.Machine
end

