-- ==== Sys2Proof/Machine/Dispatch.lean ====
section
/-! DEFINITION. The dispatch of commands to their meanings: one arm for each row of spec/opcode_table.json. -/

namespace Sys2Proof.Machine

/-- The effect of a command on everything but the queue of waiting commands. -/
def exec (i : Instr) (s : State) : Host.Outcome State Fault Refusal :=
  match i with
  | .trunkCellArrival t c pick => Sys2Proof.Machine.execTrunkCellArrival t c pick s
  | .lostDelineation t => Sys2Proof.Machine.execLostDelineation t s
  | .dropTransmitOpportunity p => Sys2Proof.Machine.execDropTransmitOpportunity p s
  | .returnTransmitOpportunity t => Sys2Proof.Machine.execReturnTransmitOpportunity t s
  | .resetLineAsserted => Sys2Proof.Machine.execResetLineAsserted s
  | .resetLineReleased => Sys2Proof.Machine.execResetLineReleased s
  | .commitEvent d => Sys2Proof.Machine.execCommitEvent d s
  | .swapCommitEvent d => Sys2Proof.Machine.execSwapCommitEvent d s
  | .switchEvent d => Sys2Proof.Machine.execSwitchEvent d s
  | .frameWatchExpiry n => Sys2Proof.Machine.execFrameWatchExpiry n s
  | .drainExpiry d => Sys2Proof.Machine.execDrainExpiry d s
  | .joinExpiry d => Sys2Proof.Machine.execJoinExpiry d s
  | .fillFramePoint d => Sys2Proof.Machine.execFillFramePoint d s
  | .renormalisation f => Sys2Proof.Machine.execRenormalisation f s
  | .take t h o => Sys2Proof.Machine.execTake t h o s
  | .probe t h o => Sys2Proof.Machine.execProbe t h o s
  | .cancel t h dest => Sys2Proof.Machine.execCancel t h dest s
  | .sweep t h o => Sys2Proof.Machine.execSweep t h o s
  | .swap t h o => Sys2Proof.Machine.execSwap t h o s
  | .salvoLoad t h o => Sys2Proof.Machine.execSalvoLoad t h o s
  | .salvoFire t h o => Sys2Proof.Machine.execSalvoFire t h o s
  | .salvoClear t h slot => Sys2Proof.Machine.execSalvoClear t h slot s
  | .lock t h dest => Sys2Proof.Machine.execLock t h dest s
  | .unlock t h dest => Sys2Proof.Machine.execUnlock t h dest s
  | .protect t h dest => Sys2Proof.Machine.execProtect t h dest s
  | .unprotect t h dest => Sys2Proof.Machine.execUnprotect t h dest s
  | .armOverride t h dest => Sys2Proof.Machine.execArmOverride t h dest s
  | .recordState t h dest code => Sys2Proof.Machine.execRecordState t h dest code s
  | .sourceDefine t h source format label => Sys2Proof.Machine.execSourceDefine t h source format label s
  | .sourceTally t h source bits => Sys2Proof.Machine.execSourceTally t h source bits s
  | .destDefine t h o => Sys2Proof.Machine.execDestDefine t h o s
  | .formatDefine t h format form => Sys2Proof.Machine.execFormatDefine t h format form s
  | .timeset t h v => Sys2Proof.Machine.execTimeset t h v s
  | .setMargin t h margin => Sys2Proof.Machine.execSetMargin t h margin s
  | .setReportMask t h mask => Sys2Proof.Machine.execSetReportMask t h mask s
  | .trunkRelease t h named => Sys2Proof.Machine.execTrunkRelease t h named s
  | .trunkPolicy t h named policy => Sys2Proof.Machine.execTrunkPolicy t h named policy s
  | .hold t h => Sys2Proof.Machine.execHold t h s
  | .resume t h => Sys2Proof.Machine.execResume t h s
  | .resetArm t h => Sys2Proof.Machine.execResetArm t h s
  | .reset t h => Sys2Proof.Machine.execReset t h s
  | .identify t h => Sys2Proof.Machine.execIdentify t h s
  | .readStatus t h => Sys2Proof.Machine.execReadStatus t h s
  | .readDest t h start count wrap => Sys2Proof.Machine.execReadDest t h start count wrap s
  | .readSource t h source => Sys2Proof.Machine.execReadSource t h source s
  | .readFormat t h format => Sys2Proof.Machine.execReadFormat t h format s
  | .readSalvo t h slot half => Sys2Proof.Machine.execReadSalvo t h slot half s
  | .readCounters t h group clear => Sys2Proof.Machine.execReadCounters t h group clear s
  | .commandDecodeFailure t code sub tag status => Sys2Proof.Machine.execCommandDecodeFailure t code sub tag status s
  | .houseTick => Sys2Proof.Machine.execHouseTick s

end Sys2Proof.Machine
end

