-- ==== Sys2Proof/Safety.lean ====
section
/-! DEFINITION. What a sound state of the G364 is, in the terms the claims use: the laws that the spec states of its records, each a
structure over `State`, and their conjunction `Sound`. -/

namespace Sys2Proof.Machine

/-! ## Words for the ends of commands -/

/-- The state in which a command that left the state `s` has its reply queued on its trunk (R163): nothing is queued for tag 0. -/
def answered (t : Trunk) (k : CommandName) (h : Header) (st : Status) (results : List ReplyField) (s : State) : State :=
  queueReply t { code := k.codes.1, sub := k.codes.2, tag := h.tag, status := st, results } s

/-- A destination's protection and owner set, with the DISPLAY entry that a change of the protection state posts (R53). -/
def protectedAs (d : DestNo) (p : Protection) (owner : Byte) (s : State) : State :=
  requestDisplay d (s.updDest d fun x => { x with protection := p, owner })

/-! ## Bounds of queues and registers -/

/-- The bounds of the queues and of the margin: R3, R92, R97, R98, R150, R151, R155. -/
structure QueueBounds (s : State) : Prop where
  margin : s.margin ≤ Config.maxMargin
  fifo : ∀ t, (s.contexts.get t).fifo.length ≤ Config.commandDepth
  replies : ∀ t, (s.returns.get t).replies.length ≤ Config.replyDepth
  reports : ∀ t, (s.returns.get t).reports.length ≤ Config.reportDepth
  essence : ∀ p, (s.ports.get p).essence.length ≤ Config.essenceDepth
  service : ∀ p, (s.ports.get p).service.Nodup
  passedOver : ∀ p, (s.ports.get p).passedOver ≤ Config.passOverLimit

/-! ## The device mode -/

/-- The device mode and the cuts (R174, R176, R167): a destination in a cut holds a COMMITTED take; in HELD no take is COMMITTED and no
destination is in a cut; HOLDING is left as soon as that holds. -/
structure ModeLaw (s : State) : Prop where
  cutHasTake : ∀ d, (s.switching.get d).cut.inProgress = true → isCommitted (s.active.get d) = true
  held : s.mode = .held → noCutInProgress s = true
  holding : s.mode = .holding → noCutInProgress s = false

/-! ## Protection -/

/-- The protection and owner of a destination (R48): FREE with owner 0, LOCKED or PROTECTED with an owner from 1 to 254. -/
def ownerFits (x : Dest) : Bool :=
  match x.protection with
  | .free => x.owner == 0
  | .locked | .guarded => x.owner != 0 && x.owner != 255

/-- Every destination's owner fits its protection (R48). -/
def ProtectionLaw (s : State) : Prop := ∀ d, ownerFits (s.dests.get d) = true

/-! ## Trunk receivers -/

/-- A receive record (8.1, R136, R138, R139, R141): the error count and the recovery fields that each state holds. -/
def receiverFits (r : Receiver) : Bool :=
  match r.state with
  | .clean =>
    decide (r.errors < Config.degradedFrom) && r.runLength == 0 && r.runCount == 0 && r.inForce == none && !r.release
  | .degraded =>
    decide (Config.degradedFrom ≤ r.errors ∧ r.errors ≤ Config.maxErrors) && r.runLength == 0 && r.runCount == 0 &&
      r.inForce == none && !r.release
  | .quarantined =>
    r.errors == Config.maxErrors && decide (r.runLength < Config.runCells) && decide (r.runCount ≤ Config.recoveryRuns) &&
      r.inForce.isSome

/-- Every receive record fits its state. -/
def ReceiverLaw (s : State) : Prop := ∀ t, receiverFits (s.receivers.get t) = true

/-! ## Sources -/

/-- A source record (2.1, 2.3, R28–R31): the captures and counts that each state holds. -/
def sourceFits (r : Source) : Bool :=
  (r.lastCapture.isSome == r.frameWatch.isSome) && (r.format.isSome == (r.state != .undefined)) &&
    match r.state with
    | .undefined | .absent =>
      r.lastCapture == none && r.lastSeq == none && r.inWindow == 0 && r.outWindow == 0
    | .lost => r.lastCapture == none && r.inWindow == 0 && r.outWindow == 0
    | .acquiring => decide (r.inWindow ≤ 2) && r.outWindow == 0
    | .locked => r.lastCapture.isSome && r.inWindow == 3 && decide (r.outWindow ≤ 1)

/-- Every source record fits its state. -/
def SourceLaw (s : State) : Prop := ∀ n, sourceFits (s.sources.get n) = true

/-- The usage count of every source is the number of destinations whose current source it is (R35). -/
def UsageLaw (s : State) : Prop := ∀ n, (s.sources.get n).usage = s.dests.count fun x => x.current == some n

/-! ## Formats -/

/-- A defined format lies within the ranges of R6; an undefined one reads as R5 gives. -/
def formatFits (x : Format) : Bool :=
  if x.defined then
    decide (Config.minPeriod ≤ x.pi.toNat) && decide (1 ≤ x.pd.toNat ∧ x.pd.toNat ≤ Config.maxDenominator) &&
      decide (x.pn.toNat < x.pd.toNat)
  else x == Format.undefined

/-- The format table (R5, R6, R8, R9): records in range, sources and destinations carrying defined formats, and the tracking state
of every format the one R9 gives. -/
structure FormatLaw (s : State) : Prop where
  record : ∀ f, formatFits (s.formats.get f) = true
  ofSource : ∀ n f, (s.sources.get n).format = some f → (s.formats.get f).defined = true
  ofDest : ∀ d f, (s.dests.get d).format = some f → (s.formats.get f).defined = true
  tracking : ∀ f, (s.formats.get f).tracking = isTracking s.sources f (s.formats.get f)

/-! ## Destinations -/

/-- A destination record by itself (3.1, R41): a MONITOR is never recording, an UNDEFINED destination has no offset, and a defined
one's offset stays within ±floor(Pi / 2). -/
def offsetFits (s : State) (x : Dest) : Bool :=
  (x.cls == .recorder || !x.recording) &&
    match x.format with
    | none => x.offset == 0 && !x.recording
    | some f => decide (x.offset.natAbs ≤ (s.formats.get f).pi.toNat / 2)

/-- Every destination record fits its class and format. -/
def OffsetLaw (s : State) : Prop := ∀ d, offsetFits s (s.dests.get d) = true

/-- A switching record that stands STEADY (5.1, R80, R87, R89): it forwards the current source, NONE only in WAITING_FRAME; its fill timer
is inactive while FORWARDING or UNDEFINED and active while a defined destination waits. -/
def steadyFits (x : Dest) (w : Switching) : Bool :=
  match w.cut with
  | .steady forwarded flag =>
    forwarded == x.current && (forwarded.isSome || flag == .waiting) &&
      w.fill.isSome == (x.format.isSome && flag == .waiting)
  | _ => x.format.isSome

/-- The switching records (5.1), and UNDEFINED destinations on NONE and without takes (R37, R39). -/
structure SwitchLaw (s : State) : Prop where
  steady : ∀ d, steadyFits (s.dests.get d) (s.switching.get d) = true
  undefined : ∀ d, (s.dests.get d).format = none →
    (s.dests.get d).current = none ∧ s.active.get d = none ∧ s.follow.get d = none

/-! ## Takes -/

/-- A take in the active position (4.1, R58): ARMED or COMMITTED with a switch point; only an ARMED SWAP half has no source yet; a SWAP
half names no salvo slot. -/
def activeFits (k : Take) : Bool :=
  k.state != .following && k.placed.isSome && (k.source != .unfixed || (k.partner.isSome && k.state == .armed)) &&
    (k.partner == none || k.salvo == none)

/-- A take in the follow position (4.1, R58, R63): FOLLOW, without a switch point, with a source, no SWAP half, never deferred. -/
def followFits (k : Take) : Bool :=
  k.state == .following && k.placed == none && k.source != .unfixed && k.partner == none && !k.deferred

/-- The two take positions of every destination (R58): each take fits its position, a FOLLOW take stands only behind a COMMITTED one,
and every ARMED SWAP half is bound to an ARMED half on a destination of the same format (R119, R120). -/
structure TakeLaw (s : State) : Prop where
  active : ∀ d k, s.active.get d = some k → activeFits k = true
  follow : ∀ d k, s.follow.get d = some k → followFits k = true ∧ isCommitted (s.active.get d) = true
  bound : ∀ d k p, s.active.get d = some k → k.state = .armed → k.partner = some p →
    boundPartner s d = some p ∧ p ≠ d ∧ (s.dests.get p).format = (s.dests.get d).format

/-- A source, if it is one, is defined and carries the format of the destination (R38). -/
def carries (s : State) (d : DestNo) (n : Option SourceNo) : Prop :=
  ∀ m, n = some m → (s.dests.get d).format.isSome = true ∧ (s.sources.get m).format = (s.dests.get d).format

/-- R38 with what keeps it: current sources, and the sources and guards of takes, carry their destination's format. -/
structure CrosspointLaw (s : State) : Prop where
  current : ∀ d, carries s d (s.dests.get d).current
  active : ∀ d k n, s.active.get d = some k → k.source = .fixed n → carries s d n
  activeGuard : ∀ d k n, s.active.get d = some k → k.guardSource = some n → carries s d n
  follow : ∀ d k n, s.follow.get d = some k → k.source = .fixed n → carries s d n
  followGuard : ∀ d k n, s.follow.get d = some k → k.guardSource = some n → carries s d n

/-! ## Salvos -/

/-- The number of takes, active and following, that name salvo slot `k` (R104). -/
def takesNaming (s : State) (k : SlotNo) : Nat :=
  (s.active.count fun o => o.any (·.salvo == some k)) + s.follow.count fun o => o.any (·.salvo == some k)

/-- A salvo slot by itself (6.1, R104, R106, R112): at most 16 pairs, every position at or above the pair count blank, and a FIRED slot
with its firing trunk and tag. -/
def slotFits (x : SalvoSlot) : Bool :=
  decide (x.count ≤ 16) && ((List.finRange 16).all fun i => decide (i.val < x.count) || (x.positions.get i).isNone) &&
    (x.outstanding == 0 || (x.firingTrunk.isSome && x.firingTag.isSome))

/-- The salvo slots (R104): each fits, and its outstanding count is the number of takes naming it. -/
structure SalvoLaw (s : State) : Prop where
  record : ∀ k, slotFits (s.salvos.get k) = true
  outstanding : ∀ k, (s.salvos.get k).outstanding = takesNaming s k

/-! ## The Cell Pool -/

/-- The number of essence-queue entries, over all ports, that name slot `k`. -/
def entriesNaming (s : State) (k : PoolNo) : Nat :=
  ((List.finRange 8).map fun p => (s.ports.get p).essence.countP fun e => e.slot == k).sum

/-- The reference count of slot `k`: 0 for a slot on the free list. -/
def refsOf (pool : List PoolSlot) (k : PoolNo) : Nat := ((pool.find? fun x => x.number == k).map (·.refs)).getD 0

/-- The Cell Pool (R95): in canonical form, every slot's reference count the number of essence entries naming it. -/
structure PoolLaw (s : State) : Prop where
  canonical : poolWf s.pool = true
  references : ∀ k, refsOf s.pool k = entriesNaming s k

/-! ## Soundness -/

/-- Every law of the spec's records holds. -/
structure Sound (s : State) : Prop where
  queues : QueueBounds s
  mode : ModeLaw s
  protection : ProtectionLaw s
  receivers : ReceiverLaw s
  sources : SourceLaw s
  usage : UsageLaw s
  formats : FormatLaw s
  offsets : OffsetLaw s
  switching : SwitchLaw s
  takes : TakeLaw s
  crosspoint : CrosspointLaw s
  salvos : SalvoLaw s
  pool : PoolLaw s

end Sys2Proof.Machine
end

