-- ==== Sys2Proof/Certificates/Slice0/Obligations.lean ====
section
/-! DEFINITION. The statements about the G364 for the provers. Each docstring names the rules of spec/ it rests on. -/

open Sys2Proof Sys2Proof.Machine

/-! ## The machine as a whole -/

/-- A step takes the command at the front of the queue and executes it; on an empty queue the block idles (the model's choice, log 1). -/
def Obligations.StepRunsFrontCommand : Prop :=
  (∀ (s : State) (c : Instr) (rest : List Instr), s.pending = c :: rest → step s = exec c { s with pending := rest }) ∧
    ∀ s : State, s.pending = [] → step s = .next s

/-- Every command completes from every state, and none touches the queue of waiting commands (95_what_each_step_holds: each step is
whole and indivisible; the spec names no condition that stops the part). That queue is the model's own (log 1), and so is what a row
answers whose event is not due or whose command is not at the head of its FIFO: the state unchanged (log 2). -/
def Obligations.EveryCommandCompletes : Prop :=
  ∀ (c : Instr) (s : State), ∃ s', exec c s = .next s' ∧ s'.pending = s.pending

/-- The power-on state is sound, HELD, with every trunk in the report mask, house time 0, margin 20,000, nothing defined, no take, no cut,
every slot, queue and counter empty, and every trunk CLEAN with policy AUTO (R1, R3, R5, R19, R37, R54, R58, R80, R95–R98, R101, R103, R104, R138,
R149, R155, R174, R184). That the links hold IDLE cells before their first opportunity is the model's choice (log 16). -/
def Obligations.PowerOnState : Prop :=
  Sound State.reset ∧ State.reset.mode = .held ∧ State.reset.reportMask = 0xFF ∧ State.reset.houseTime = 0 ∧
    State.reset.margin = 20000 ∧ (∀ f, State.reset.formats.get f = Format.undefined) ∧
    (∀ n, (State.reset.sources.get n).state = .undefined ∧ (State.reset.sources.get n).label = Tbl.fill 16 0x20) ∧
    (∀ d, (State.reset.dests.get d).format = none ∧ (State.reset.dests.get d).current = none) ∧
    (∀ d, State.reset.active.get d = none ∧ State.reset.follow.get d = none) ∧
    (∀ t, State.reset.arms.get t = .clear ∧ (State.reset.contexts.get t).fifo = []) ∧
    (∀ p, State.reset.dropLinks.get p = Cell.idle) ∧ (∀ t, State.reset.returnLinks.get t = Cell.idle) ∧
    (∀ f, State.reset.formats.get f =
      { defined := false, pi := 0, pn := 0, pd := 0, wl := 0, cadence := none, epoch := 0, epochFrame := 0, tracking := false,
        reanchors := 0 }) ∧
    (∀ n, State.reset.sources.get n =
      { format := none, label := Tbl.fill 16 0x20, tally := ⟨false, false, false, false⟩, state := .undefined, lastCapture := none,
        frameWatch := none, inWindow := 0, outWindow := 0, lastSeq := none, gaps := 0, phase := 0, usage := 0 }) ∧
    (∀ d, State.reset.dests.get d =
      { format := none, cls := .monitor, recording := false, offset := 0, current := none, protection := .free, owner := 0 }) ∧
    (∀ d, State.reset.switching.get d = { cut := .steady none .waiting, fill := none }) ∧
    (∀ k, State.reset.salvos.get k =
      { count := 0, positions := Tbl.fill 16 none, outstanding := 0, tallies := ⟨0, 0, 0, 0, 0, 0⟩, firingTrunk := none,
        firingTag := none }) ∧
    State.reset.pool = [] ∧ State.reset.poolExhausted = 0 ∧
    (∀ p, State.reset.ports.get p =
      { essence := [], service := [], passedOver := 0, outSeq := Tbl.fill 16 0, sent := 0, refused := 0, coalesced := 0 }) ∧
    (∀ t, State.reset.receivers.get t =
      { state := .clean, errors := 0, runLength := 0, runCount := 0, policy := .auto, inForce := none, release := false, good := 0,
        errored := 0, undefStream := 0 }) ∧
    (∀ t, (State.reset.contexts.get t).dropped = 0) ∧
    ∀ t, State.reset.returns.get t = { replies := [], reports := [], pointer := .reply, overwrite := false, discarded := 0 }

/-! ## Invariants -/

/-- The bounds of the queues, of the passed-over counts and of the margin are kept by every step (R3, R92, R97, R98, R150, R151, R155). -/
def Obligations.QueueBoundsKept : Prop :=
  ∀ s s' : State, QueueBounds s → step s = .next s' → QueueBounds s'

/-- HELD without a cut, HOLDING only with one, and a COMMITTED take behind every cut are kept by every step (R174, R176, R167). -/
def Obligations.ModeLawKept : Prop :=
  ∀ s s' : State, ModeLaw s → step s = .next s' → ModeLaw s'

/-- The law of protections and owners (R48), and the records of the trunk receivers (R136, R138, R139, R141), are kept by every step. -/
def Obligations.ProtectionAndReceiversKept : Prop :=
  ∀ s s' : State, ProtectionLaw s → ReceiverLaw s → step s = .next s' → ProtectionLaw s' ∧ ReceiverLaw s'

/-- The captures and counts that each source state holds are kept by every step (2.3, R28–R31, R36). -/
def Obligations.SourceLawKept : Prop :=
  ∀ s s' : State, SourceLaw s → step s = .next s' → SourceLaw s'

/-- The format table and the offsets are kept by every step: ranges, defined formats behind every source and destination, tracking states
(R5–R9), offsets within half a period, and recording OFF on a MONITOR (R40, R41, R43). -/
def Obligations.FormatAndOffsetLawKept : Prop :=
  ∀ s s' : State, FormatLaw s → OffsetLaw s → step s = .next s' → FormatLaw s' ∧ OffsetLaw s'

/-- Every step from a state with the law of modes keeps STEADY destinations forwarding their current source, and fill timers running
exactly while a defined STEADY destination waits (5.1, R37, R89). -/
def Obligations.SwitchLawKept : Prop :=
  ∀ s s' : State, ModeLaw s → SwitchLaw s → step s = .next s' → SwitchLaw s'

/-- By every step, every take stays fit for its position, FOLLOW takes stand behind COMMITTED ones, ARMED SWAP halves stay bound (R58, R120, R122), and a
salvo slot's outstanding count stays the number of takes that name it (R104). -/
def Obligations.TakeAndSalvoLawKept : Prop :=
  ∀ s s' : State, TakeLaw s → SalvoLaw s → step s = .next s' → TakeLaw s' ∧ SalvoLaw s'

/-- The crosspoint law of R38 and the usage law of R35 are kept by every step: current sources, and the sources and guards of takes, carry
their destination's format, and a source's usage count is the number of destinations on it. -/
def Obligations.CrosspointAndUsageKept : Prop :=
  ∀ s s' : State, UsageLaw s → TakeLaw s → CrosspointLaw s → step s = .next s' → UsageLaw s' ∧ CrosspointLaw s'

/-- By every step, a pool slot's reference count stays the number of essence entries that name it (R95), and the pool keeps its canonical form. -/
def Obligations.PoolLawKept : Prop :=
  ∀ s s' : State, PoolLaw s → step s = .next s' → PoolLaw s'

/-! ## Encoding and decoding -/

/-- The COMMAND cell that spells a well-formed command is a good cell, and decodes to that command on its trunk (R135, R159, R160, R187). -/
def Obligations.DecodeInvertsEncode : Prop :=
  ∀ (i : Instr) (t : Trunk) (k : CommandName) (h : Header) (ops : List Byte), i.wf = true → spell i = some (t, k, h, ops) →
    decodeCommand t (commandCell k h ops) = i ∧ (commandCell k h ops).good = true ∧
      (commandCell k h ops).kind = Cell.commandKind

/-- A command executed from trunk `t` spends `t`'s arm record: ARM_OVERRIDE and RESET_ARM alone leave `t` an arm. Every other trunk's arm
record stands, whatever it is, unless the command is a RESET with the reset arm in hand, which leaves no arm anywhere (R54, R181). -/
def Obligations.ArmsLastOneCommand : Prop :=
  ∀ (s s' : State) (t : Trunk) (c : Cell), (s.contexts.get t).fifo.head? = some c →
    (s.returns.get t).replies.length < 16 → exec (decodeCommand t c) s = .next s' →
    let resets := (∃ h, decodeCommand t c = .reset t h) ∧ s.arms.get t = .reset
    (resets → ∀ u, s'.arms.get u = .clear) ∧
      (¬resets → ∀ u, u ≠ t → s'.arms.get u = s.arms.get u) ∧
      (s'.arms.get t ≠ .clear →
        (∃ h d, decodeCommand t c = .armOverride t h d ∧ ∃ e, destOperand d = some e ∧ s'.arms.get t = .overriding e h.owner) ∨
          ∃ h, decodeCommand t c = .resetArm t h ∧ s'.arms.get t = .reset)

/-! ## Cadence -/

/-- R10 and R11: frame `k` begins at E + O + k × Pi + floor(k × Pn / Pd) mod 2^48 with number N_E + k mod 2^32; the frame found for a time
`x` is the least whose point is not before `x`; and a take's switch point is that of the frame found for T + M with `n` added. R13 and R14: the
nearest predicted frame of a capture, its deviation, and the test of an interval. A destination's own points are those of its format and
offset. -/
def Obligations.FirstFramePointIsLeast : Prop :=
  (∀ (f : Format) (o : Int) (x : Time) (m n : Nat), 0 < f.pd.toNat → 0 < f.pi.toNat * f.pd.toNat + f.pn.toNat →
    let ahead := fun k : Nat => (k * f.pi.toNat + k * f.pn.toNat / f.pd.toNat : Nat)
    let point := fun k : Nat => f.epoch + BitVec.ofInt 48 (o + ahead k)
    let number := fun k : Nat => f.epochFrame + BitVec.ofNat 32 k
    let least := fun (y : Time) (k : Nat) =>
      (y - (f.epoch + BitVec.ofInt 48 o)).toInt ≤ ahead k ∧ ∀ j < k, (ahead j : Int) < (y - (f.epoch + BitVec.ofInt 48 o)).toInt
    (∀ k, framePoint f o k = point k ∧ frameNumber f k = number k) ∧
      least x (frameFrom f o x) ∧
      (∀ k, least x k → firstPoint f o x = point k) ∧
      (∀ k, least (x + BitVec.ofNat 48 m) k → switchPlace f o m x n = ⟨point (k + n), number (k + n)⟩)) ∧
  (∀ (f : Format) (l c : Time),
    let g : Nat := f.pi.toNat * f.pd.toNat + f.pn.toNat
    let age := (c - f.epoch).toInt
    let j := if age < 0 then 0 else (age.toNat * f.pd.toNat + g / 2) / g
    nearestFrame f c = j ∧
      deviation f c = (c - (f.epoch + BitVec.ofNat 48 (j * f.pi.toNat + j * f.pn.toNat / f.pd.toNat))).toInt ∧
      (intervalInWindow f l c = true ↔ |(f.pd.toNat : Int) * (c - l).toInt - g| ≤ f.pd.toNat * f.wl.toNat)) ∧
  ∀ (s : State) (d : DestNo) (f : FormatNo) (x : Time) (mode : TargetMode) (n : BitVec 16), (s.dests.get d).format = some f →
    formatOf s d = s.formats.get f ∧ pointFrom s d x = firstPoint (s.formats.get f) (s.dests.get d).offset x ∧
      placeFor s d mode x n =
        switchPlace (s.formats.get f) (s.dests.get d).offset s.margin x (if mode = .frames then n.toNat else 0)

/-- RENORMALISATION (R16): E and N_E advance by q × G and q × Pd with q = floor(2^39 / G), every later frame point keeps its house time
and its number, and nothing else changes. -/
def Obligations.RenormalisationKeepsFramePoints : Prop :=
  ∀ (f : FormatNo) (s : State), (s.formats.get f).defined = true → isDue s (addTicks (s.formats.get f).epoch (2 ^ 40)) = true →
    0 < (s.formats.get f).pd.toNat →
    let x := s.formats.get f
    let q := 2 ^ 39 / x.g
    let y := { x with
      epoch := x.epoch + BitVec.ofNat 48 (q * x.g), epochFrame := x.epochFrame + BitVec.ofNat 32 (q * x.pd.toNat) }
    exec (.renormalisation f) s = .next { s with formats := s.formats.set f y } ∧
      ∀ (o : Int) (k : Nat), framePoint y o k = framePoint x o (k + q * x.pd.toNat) ∧
        frameNumber y k = frameNumber x (k + q * x.pd.toNat)

/-- SET_MARGIN (R3): accepted in HELD alone; a margin above 1,000,000 is clamped with OK_CLAMPED; nothing else changes. -/
def Obligations.SetMarginResult : Prop :=
  ∀ (t : Trunk) (h : Header) (m : BitVec 32) (s : State), headReady s t (.setMargin t h m) = true →
    exec (.setMargin t h m) s = .next (
      if s.mode ≠ .held then answered t .setMargin h .notHeld [] (headTaken s t)
      else if m.toNat ≤ 1000000 then answered t .setMargin h .ok [] { headTaken s t with margin := m.toNat }
      else answered t .setMargin h .okClamped [] { headTaken s t with margin := 1000000 })

/-- TIMESET (R4) is refused NOT_HELD outside HELD, and nothing changes. In HELD the counter is loaded, epochs of defined formats, captures,
frame watches, cut expiries and fill frame points move by the step, every ARMED take is removed, counted in the reply and made known as
CANCELLED by its report or to its slot (R65, R66, R114, R115), a DISPLAY entry is requested for each destination vacated, and the other records
stand. The model's choices: the ascending order of removals and requests (log 5), and now in the reports, the time before the load (log 7). -/
def Obligations.TimesetShiftsEveryTime : Prop :=
  ∀ (t : Trunk) (h : Header) (v : Time) (s : State), headReady s t (.timeset t h v) = true →
    (s.mode ≠ .held → exec (.timeset t h v) s = .next (answered t .timeset h .notHeld [] (headTaken s t))) ∧
    (s.mode = .held →
    ∃ s₁, exec (.timeset t h v) s = .next (answered t .timeset h .ok [countField (s.active.count isArmed)] s₁) ∧
      s₁ = { headTaken s t with
        houseTime := v, formats := s₁.formats, sources := s₁.sources, switching := s₁.switching, active := s₁.active,
        salvos := s₁.salvos, returns := s₁.returns, ports := s₁.ports } ∧
      (∀ f, s₁.formats.get f = let x := s.formats.get f
        if x.defined then { x with epoch := x.epoch + (v - s.houseTime) } else x) ∧
      (∀ n, s₁.sources.get n = let r := s.sources.get n
        { r with lastCapture := r.lastCapture.map (· + (v - s.houseTime)),
                 frameWatch := r.frameWatch.map (· + (v - s.houseTime)) }) ∧
      (∀ d, (s₁.switching.get d).fill = (s.switching.get d).fill.map (· + (v - s.houseTime)) ∧
        (s₁.switching.get d).cut = match (s.switching.get d).cut with
          | .steady n flag => .steady n flag
          | .draining old tail expiry => .draining old tail (expiry + (v - s.houseTime))
          | .joining expiry => .joining (expiry + (v - s.houseTime))) ∧
      (∀ d, s₁.active.get d = if isArmed (s.active.get d) then none else s.active.get d) ∧
      let held := fun d => (s.active.get d).toList.map fun k => (d, k)
      let removed := (List.finRange 128).flatMap fun d =>
        if isArmed (s.active.get d) = false then []
        else match boundPartner s d with
          | none => held d
          | some e => if e < d then [] else if e = d then held d else held d ++ held e
      let told := removed.foldl (fun u x => notifyEnd x.1 x.2 .cancelled u) s
      s₁.salvos = told.salvos ∧ s₁.returns = told.returns ∧
        s₁.ports = (requestDisplays ((List.finRange 128).filter fun d => isArmed (s.active.get d)) s).ports)

/-- FORMAT_DEFINE (R6–R8, R18). Outside HELD it is refused NOT_HELD, and in HELD its operands are checked in their order: number, Pi, Pd, Pn, cadence
source; a refusal changes nothing. The define form creates an undefined format with E now, N_E 0, FREE_RUNNING and counter 0. On a defined one
it keeps E, N_E and the counter, evaluates tracking, clamps the offsets of the format's destinations, with OK_CLAMPED when one
changed, recomputes their ARMED takes, re-targeting to now those whose commit point is not after now, and sets their active fill timers to the
first frame point after now; cuts, COMMITTED takes, other destinations and other formats stand. The undefine form is refused IN_USE while a
record names the format and clears the record otherwise. That n becomes 0 on a re-target is the model's choice (log 14). -/
def Obligations.FormatDefineResult : Prop :=
  (∀ (t : Trunk) (h : Header) (fb : Byte) (pi : BitVec 24) (pn pd wl : BitVec 16) (cb : Byte)
    (c : Option SourceNo) (f : FormatNo) (s : State),
    headReady s t (.formatDefine t h fb (.define pi pn pd wl cb)) = true → s.mode = .held → fb.toNat = f.val →
    10000 ≤ pi.toNat → 1 ≤ pd.toNat → pd.toNat ≤ 4095 → pn.toNat < pd.toNat → sourceOperand cb = some c →
    (s.formats.get f).defined = false →
    let x : Format := { defined := true, pi := pi, pn := pn, pd := pd, wl := wl, cadence := c, epoch := s.houseTime,
                        epochFrame := 0, tracking := false, reanchors := 0 }
    exec (.formatDefine t h fb (.define pi pn pd wl cb)) s =
      .next (answered t .formatDefine h .ok [] { headTaken s t with formats := s.formats.set f x })) ∧
  (∀ (t : Trunk) (h : Header) (fb : Byte) (f : FormatNo) (pi : BitVec 24) (pn pd wl : BitVec 16) (cb : Byte)
    (c : Option SourceNo) (s : State),
    headReady s t (.formatDefine t h fb (.define pi pn pd wl cb)) = true → s.mode = .held → fb.toNat = f.val →
    10000 ≤ pi.toNat → 1 ≤ pd.toNat → pd.toNat ≤ 4095 → pn.toNat < pd.toNat → sourceOperand cb = some c →
    (s.formats.get f).defined = true →
    ∃ st s₁, exec (.formatDefine t h fb (.define pi pn pd wl cb)) s = .next (answered t .formatDefine h st [] s₁) ∧
      s₁ = { headTaken s t with
        formats := s₁.formats, dests := s₁.dests, active := s₁.active, switching := s₁.switching } ∧
      (∃ b, s₁.formats =
          s.formats.modify f (fun x => { x with pi := pi, pn := pn, pd := pd, wl := wl, cadence := c, tracking := b }) ∧
        (b = true ↔ ∃ n, c = some n ∧ (s.sources.get n).state = .locked ∧ (s.sources.get n).format = some f)) ∧
      (∀ d, s₁.dests.get d = let x := s.dests.get d
        if x.format = some f then { x with offset := max (-(pi.toNat / 2 : Nat)) (min (pi.toNat / 2 : Nat) x.offset) } else x) ∧
      (st = if s₁.dests = s.dests then .ok else .okClamped) ∧
      (∀ d, isArmed (s.active.get d) = false ∨ (s.dests.get d).format ≠ some f → s₁.active.get d = s.active.get d) ∧
      (∀ d k, (s.dests.get d).format = some f → s.active.get d = some k → k.state = .armed →
        let y := s₁.formats.get f
        let off := (s₁.dests.get d).offset
        let p := switchPlace y off s.margin k.target (if k.mode = .frames then k.frames.toNat else 0)
        let q := switchPlace y off s.margin s.houseTime 0
        s₁.active.get d = some (
          if isDue s (addTicks p.switchPoint (-s.margin)) then
            { k with mode := .next, target := s.houseTime, frames := 0, late := true, placed := some q }
          else { k with placed := some p })) ∧
      ∀ d, (s₁.switching.get d).cut = (s.switching.get d).cut ∧
        (s₁.switching.get d).fill = if (s.dests.get d).format = some f then
            (s.switching.get d).fill.map fun _ => firstPoint (s₁.formats.get f) (s₁.dests.get d).offset (s.houseTime + 1)
          else (s.switching.get d).fill) ∧
  (∀ (t : Trunk) (h : Header) (fb : Byte) (f : FormatNo) (s : State),
    headReady s t (.formatDefine t h fb .undefine) = true → s.mode = .held → fb.toNat = f.val →
    exec (.formatDefine t h fb .undefine) s = .next (
      if (s.formats.get f).defined = false then answered t .formatDefine h .ok [] (headTaken s t)
      else if (∃ n, (s.sources.get n).format = some f) ∨ ∃ d, (s.dests.get d).format = some f then
        answered t .formatDefine h .inUse [] (headTaken s t)
      else answered t .formatDefine h .ok [] { headTaken s t with formats := s.formats.set f Format.undefined })) ∧
  ∀ (t : Trunk) (h : Header) (fb : Byte) (form : FormatForm) (s : State),
    headReady s t (.formatDefine t h fb form) = true →
    let refused := fun st : Status => exec (.formatDefine t h fb form) s = .next (answered t .formatDefine h st [] (headTaken s t))
    (s.mode ≠ .held → refused .notHeld) ∧
      (s.mode = .held → 16 ≤ fb.toNat → refused .range) ∧
      ∀ pi pn pd wl cb, form = .define pi pn pd wl cb → s.mode = .held → fb.toNat < 16 →
        (pi.toNat < 10000 ∨ pd.toNat < 1 ∨ 4095 < pd.toNat ∨ pd.toNat ≤ pn.toNat → refused .operandError) ∧
          (10000 ≤ pi.toNat → 1 ≤ pd.toNat → pd.toNat ≤ 4095 → pn.toNat < pd.toNat → 128 ≤ cb.toNat → cb ≠ 255 → refused .range)

/-! ## Trunk receivers -/

/-- HOUSE_TICK (R1): house time advances by one, wrapping. R2: a time is before another when their difference mod 2^48 is 2^47 or more, and due
when it is now or before it. RESET_LINE_ASSERTED and RESET_LINE_RELEASED (R154, R184): the part takes its
power-on values; while the line is asserted no cell is received and every link sends IDLE. Nothing else changes. The model's choices here: the
queue of waiting commands, which stands (log 1); a release gives the power-on state from every state, also without an assertion (log 15); house
time stands while the line is asserted, and the links hold IDLE cells from the assertion on (log 16). -/
def Obligations.ClockAndResetLine : Prop :=
  (∀ a b : Time, isBefore a b = true ↔ 2 ^ 47 ≤ (a - b).toNat) ∧
  ∀ s : State, (∀ x, isDue s x = true ↔ x = s.houseTime ∨ 2 ^ 47 ≤ (x - s.houseTime).toNat) ∧
    (s.resetLine = false → exec .houseTick s = .next { s with houseTime := s.houseTime + 1 }) ∧
    exec .resetLineAsserted s = .next { State.reset with pending := s.pending, resetLine := true } ∧
    exec .resetLineReleased s = .next { State.reset with pending := s.pending } ∧
    (s.resetLine = true →
      exec .houseTick s = .next s ∧
      (∀ t c pick, exec (.trunkCellArrival t c pick) s = .next s ∧ exec (.lostDelineation t) s = .next s) ∧
      (∀ p, exec (.dropTransmitOpportunity p) s = .next { s with dropLinks := s.dropLinks.set p Cell.idle }) ∧
      ∀ t, exec (.returnTransmitOpportunity t) s = .next { s with returnLinks := s.returnLinks.set t Cell.idle })

/-- An errored cell, or a cell period of lost delineation, of a trunk that is not QUARANTINED and stays under 256 (R135, R136): 8 added,
counted once, DEGRADED from 96 on with its TRUNK_STATE report; nothing else changes. -/
def Obligations.ErroredCellCounted : Prop :=
  ∀ (t : Trunk) (c : Cell) (pick : PoolNo) (s : State), s.resetLine = false → c.good = false →
    (s.receivers.get t).state ≠ .quarantined → (s.receivers.get t).errors + 8 ≤ 255 →
    let r := s.receivers.get t
    let degrades := r.state = .clean ∧ 96 ≤ r.errors + 8
    let r' : Receiver := { r with
      errored := bump r.errored, errors := r.errors + 8, state := if degrades then .degraded else r.state }
    let s₁ : State := { s with receivers := s.receivers.set t r' }
    let s₂ := if degrades then queueMasked (.trunkState t .clean .degraded (r.errors + 8) s.houseTime) s₁ else s₁
    exec (.lostDelineation t) s = .next s₂ ∧ exec (.trunkCellArrival t c pick) s = .next s₂

/-- The errored cell that takes a DEGRADED trunk past 255 quarantines it (R139, R32, R33, R84, R88): the record, the flushed FIFO, the cleared
arm, and the trunk's ACQUIRING and LOCKED sources in LOST. A format whose cadence source leaves LOCKED is FREE_RUNNING, a destination draining a
lost source joins, and one STEADY on it waits with fill from the first frame point after now; other trunks, destinations, takes and salvos
stand. -/
def Obligations.QuarantineEntered : Prop :=
  ∀ (t : Trunk) (c : Cell) (pick : PoolNo) (s : State), s.resetLine = false → c.good = false →
    (s.receivers.get t).state = .degraded → 255 < (s.receivers.get t).errors + 8 →
    ∃ s', exec (.trunkCellArrival t c pick) s = .next s' ∧ exec (.lostDelineation t) s = .next s' ∧
      s' = { s with
        receivers := s'.receivers, contexts := s'.contexts, arms := s.arms.set t .clear, sources := s'.sources,
        formats := s'.formats, returns := s'.returns, ports := s'.ports, switching := s'.switching } ∧
      (s'.receivers = s.receivers.modify t fun r => { r with
        errored := bump r.errored, state := .quarantined, errors := 255, runLength := 0, runCount := 0, release := false,
        inForce := some r.policy }) ∧
      (s'.contexts = s.contexts.modify t fun x => { x with fifo := [] }) ∧
      (∀ n, s'.sources.get n = let r := s.sources.get n
        if n.val / 16 = t.val ∧ (r.state = .acquiring ∨ r.state = .locked) then
          { r with state := .lost, lastCapture := none, frameWatch := none, lastSeq := none, inWindow := 0, outWindow := 0 }
        else r) ∧
      let lost := fun n : SourceNo =>
        n.val / 16 = t.val ∧ ((s.sources.get n).state = .acquiring ∨ (s.sources.get n).state = .locked)
      (∀ f, s'.formats.get f = let x := s.formats.get f
        if ∃ n, x.cadence = some n ∧ lost n ∧ (s.sources.get n).state = .locked then { x with tracking := false } else x) ∧
      ∀ d, s'.switching.get d = let w := s.switching.get d
        match w.cut with
        | .steady (some n) _ =>
          if lost n then
            { cut := .steady (some n) .waiting,
              fill := if (s.dests.get d).format = none then w.fill else some (pointFrom s d (s.houseTime + 1)) }
          else w
        | .draining old _ _ =>
          if lost old then { w with cut := .joining (addTicks s.houseTime ((formatOf s d).pi.toNat + (formatOf s d).wl.toNat)) } else w
        | _ => w

/-- A good cell that is no essence of a defined source, on a trunk that is not QUARANTINED (R135–R137, R155): counted, 1 subtracted, CLEAN
again below 96 with its report; an IDLE cell goes no further, a COMMAND cell joins the FIFO or is dropped and counted at 8, an ESSENCE
cell of an UNDEFINED source is counted; nothing else changes. -/
def Obligations.GoodCellPassedOn : Prop :=
  ∀ (t : Trunk) (c : Cell) (pick : PoolNo) (s : State), s.resetLine = false → c.good = true →
    (s.receivers.get t).state ≠ .quarantined →
    let r := s.receivers.get t
    let cleans := r.state = .degraded ∧ r.errors - 1 < 96
    let r' : Receiver := { r with good := bump r.good, errors := r.errors - 1, state := if cleans then .clean else r.state }
    let s₁ : State := { s with receivers := s.receivers.set t r' }
    let s₂ := if cleans then queueMasked (.trunkState t .degraded .clean (r.errors - 1) s.houseTime) s₁ else s₁
    (c.kind = 0 → exec (.trunkCellArrival t c pick) s = .next s₂) ∧
      (c.kind = 2 → exec (.trunkCellArrival t c pick) s = .next { s₂ with
        contexts := s.contexts.modify t fun x =>
          if x.fifo.length < 8 then { x with fifo := x.fifo ++ [c] } else { x with dropped := bump x.dropped } }) ∧
      (c.kind = 1 → (s.sources.get (sourceOf t c.stream)).state = .undefined →
        exec (.trunkCellArrival t c pick) s = .next { s₂ with
          receivers := s.receivers.set t { r' with undefStream := bump r'.undefStream } })

/-- The arrivals of a QUARANTINED trunk (R140–R143): counted, the run of good cells built or broken, recovery by the policy in force with
its report; no cell goes further and nothing else changes. -/
def Obligations.QuarantinedCellsRecover : Prop :=
  ∀ (t : Trunk) (c : Cell) (pick : PoolNo) (s : State), s.resetLine = false → (s.receivers.get t).state = .quarantined →
    let r := s.receivers.get t
    let runs := min 128 (r.runCount + 1)
    let broken : Receiver := { r with errored := bump r.errored, runLength := 0 }
    let longer : Receiver := { r with good := bump r.good, runLength := r.runLength + 1 }
    let counted : Receiver := { r with good := bump r.good, runLength := 0, runCount := runs }
    let recovered : Receiver := { r with
      good := bump r.good, state := .clean, errors := 0, runLength := 0, runCount := 0, release := false, inForce := none }
    exec (.lostDelineation t) s = .next { s with receivers := s.receivers.set t broken } ∧
      (c.good = false → exec (.trunkCellArrival t c pick) s = .next { s with receivers := s.receivers.set t broken }) ∧
      (c.good = true → exec (.trunkCellArrival t c pick) s = .next (
        if r.runLength + 1 ≠ 16 then { s with receivers := s.receivers.set t longer }
        else if runs = 128 ∧ (r.inForce = some .auto ∨ r.release = true) then
          queueMasked (.trunkState t .quarantined .clean 0 s.houseTime) { s with receivers := s.receivers.set t recovered }
        else { s with receivers := s.receivers.set t counted }))

/-! ## Essence -/

/-- An essence cell in sequence that is no frame start, of a source that is not UNDEFINED or ABSENT, with room at every port of its
receiving set (R91, R92, R34): stored once in a free slot with one entry per receiving destination, appended in ascending number, or
not stored when the set is empty; the sequence number is kept, and no switching record, take or format changes.

Then every essence cell of a defined source, frame start or not, in sequence or not: who receives it (R91); which entries are refused for a full
queue and counted, and that a full pool discards the cell and is counted (R92–R94); and every switching record after it. A sequence break, a
refusal or a full pool sends a FORWARDING destination to WAITING_FRAME with fill a period later (R34, R87, R93, R94); a frame start resumes a
WAITING_FRAME one (R87), ends draining (R82) and joins a JOINING one (R85); tail copy ends when the cell cannot be queued. A take whose destination
joins completes: its FOLLOW take is promoted, and HOLDING is left with the last cut (R72, R73, R176); where one destination joins, its outcome is
DONE, DONE_LATE or NO_SIGNAL by the source's lock and is reported or counted, after the SOURCE_STATE and ANCHOR reports of the capture (R71,
R72). Where the cell re-anchors its format (R17), the active fill timers of its destinations move to the first frame point after now, and fill
started later and promoted takes follow the new epoch. -/
def Obligations.EssenceCellReplicated : Prop :=
  (∀ (t : Trunk) (c : Cell) (pick : PoolNo) (s : State), s.resetLine = false → c.good = true → c.kind = 1 →
    c.frameStart = false → (s.receivers.get t).state ≠ .quarantined →
    let n := sourceOf t c.stream
    let r := s.sources.get n
    let ds := receivingSet s n false
    r.state ≠ .undefined → r.state ≠ .absent → (∀ q, r.lastSeq = some q → c.seq = q + 1) →
    (∀ p, (s.ports.get p).essence.length + ds.countP (fun d => portOf d == p) ≤ 512) → s.pool.length < 2048 →
    (s.pool.map (·.number)).Nodup →
    ∃ s', exec (.trunkCellArrival t c pick) s = .next s' ∧
      s' = { s with
        receivers := s'.receivers, returns := s'.returns, sources := s.sources.set n { r with lastSeq := some c.seq },
        pool := s'.pool, ports := s'.ports } ∧
      (ds = [] → s'.pool = s.pool ∧ s'.ports = s.ports) ∧
      (ds ≠ [] → ∃ k, (∀ x ∈ s.pool, x.number ≠ k) ∧ s'.pool = poolInsert ⟨k, ds.length, c⟩ s.pool ∧
        ∀ p, s'.ports.get p = let x := s.ports.get p
          { x with essence := x.essence ++ ((ds.filter fun d => portOf d == p).map fun d => ⟨k, channelOf d⟩) })) ∧
  ∀ (t : Trunk) (c : Cell) (pick : PoolNo) (s : State), s.resetLine = false → c.good = true → c.kind = 1 →
    (s.receivers.get t).state ≠ .quarantined → (s.pool.map (·.number)).Nodup → SwitchLaw s →
    let n := sourceOf t c.stream
    let r := s.sources.get n
    r.state ≠ .undefined → (∀ f, r.format = some f → (s.formats.get f).cadence = some n → FormatLaw s) →
    let breaks := r.lastSeq.any fun q => c.seq != q + 1
    let receives : DestNo → Bool := fun d => match (s.switching.get d).cut with
      | .steady m flag => m == some n && (c.frameStart || flag == .forwarding && !breaks)
      | .draining old tail _ => old == n && if c.frameStart then (s.dests.get d).current == some n else tail
      | .joining _ => c.frameStart && (s.dests.get d).current == some n
    let ahead := fun d : DestNo => (List.finRange 128).countP fun e => receives e && portOf e == portOf d && decide (e < d)
    let admitted := fun d => receives d && decide ((s.ports.get (portOf d)).essence.length + ahead d < 512)
    let gets := fun d => admitted d && decide (s.pool.length < 2048)
    let joins : DestNo → Bool := fun d => c.frameStart && (s.dests.get d).current == some n && match (s.switching.get d).cut with
      | .steady _ _ => false
      | .draining old _ _ => old == n
      | .joining _ => true
    ∃ s', exec (.trunkCellArrival t c pick) s = .next s' ∧
      s' = { s with
        receivers := s'.receivers, returns := s'.returns, sources := s'.sources, formats := s'.formats, pool := s'.pool,
        poolExhausted := s'.poolExhausted, ports := s'.ports, switching := s'.switching, active := s'.active, follow := s'.follow,
        salvos := s'.salvos, mode := s'.mode } ∧
      ((∀ d, gets d = false) → s'.pool = s.pool ∧ ∀ p, (s'.ports.get p).essence = (s.ports.get p).essence) ∧
      ((∃ d, gets d = true) → ∃ k, (∀ x ∈ s.pool, x.number ≠ k) ∧
        s'.pool = poolInsert ⟨k, (List.finRange 128).countP gets, c⟩ s.pool ∧
        ∀ p, (s'.ports.get p).essence = (s.ports.get p).essence ++
          (((List.finRange 128).filter fun d => gets d && portOf d == p).map fun d => ⟨k, channelOf d⟩)) ∧
      s'.poolExhausted = (if (∃ d, admitted d = true) ∧ 2048 ≤ s.pool.length then bump s.poolExhausted else s.poolExhausted) ∧
      (∀ p, (s'.ports.get p).refused =
        bump^[(List.finRange 128).countP fun d => receives d && !admitted d && portOf d == p] (s.ports.get p).refused) ∧
      let anchors := fun f : FormatNo => c.frameStart = true ∧ r.format = some f ∧ (s.formats.get f).cadence = some n ∧
        (s'.sources.get n).state = .locked ∧ (s.formats.get f).wl.toNat < (deviation (s.formats.get f) s.houseTime).natAbs
      let moved := fun d => ∃ f, (s.dests.get d).format = some f ∧ anchors f
      let soon := fun d => pointFrom s' d (s.houseTime + 1)
      let later := fun d => pointFrom s' d (s.houseTime + BitVec.ofNat 48 ((formatOf s d).pi.toNat + 1))
      let kept := fun d => let w := s.switching.get d
        if moved d then { w with fill := w.fill.map fun _ => soon d } else w
      let resumed : Switching := { cut := .steady (some n) .forwarding, fill := none }
      let waits := fun d => ({ cut := .steady (some n) .waiting, fill := some (later d) } : Switching)
      let broken := fun d =>
        ({ cut := .steady (some n) .waiting, fill := some (if breaks = true ∧ moved d then soon d else later d) } : Switching)
      (∀ d, s'.switching.get d =
        match (s.switching.get d).cut with
        | .steady none _ => kept d
        | .steady (some m) .forwarding => if m ≠ n then kept d else if gets d = true then resumed else broken d
        | .steady (some m) .waiting => if m = n ∧ gets d = true then resumed else kept d
        | .draining old tail x =>
          if old ≠ n then kept d
          else if c.frameStart = true then
            if joins d = true then (if gets d = true then resumed else waits d)
            else { kept d with
              cut := .joining (s.houseTime + BitVec.ofNat 48 ((formatOf s d).pi.toNat + (formatOf s d).wl.toNat)) }
          else if tail = true ∧ gets d = false then { kept d with cut := .draining old false x }
          else kept d
        | .joining _ => if joins d = true then (if gets d = true then resumed else waits d) else kept d) ∧
      (∀ d, joins d = false → s'.follow.get d = s.follow.get d ∧
        (¬(moved d ∧ isArmed (s.active.get d) = true) → s'.active.get d = s.active.get d)) ∧
      (∀ d k, joins d = true → s.active.get d = some k → k.state = .committed →
        s'.follow.get d = none ∧ s'.active.get d = (s.follow.get d).map (fun q =>
          let passed := isBefore q.target s.houseTime
          let goal := if passed then s.houseTime else q.target
          { q with
            state := .armed, target := goal, late := q.late || (q.mode == .atTime && passed),
            placed := some (placeFor s' d q.mode goal q.frames) })) ∧
      (ModeLaw s → s'.mode = if s.mode = .holding ∧ (∃ d, joins d = true) ∧
          (∀ e, joins e = true ∨ (isCommitted (s.active.get e) = false ∧ (s.switching.get e).cut.inProgress = false)) then .held
        else s.mode) ∧
      ∀ d k, joins d = true → (∀ e, joins e = true → e = d) → s.active.get d = some k → k.state = .committed → s.mode = .run →
        (s.receivers.get t).state = .clean →
        let r' := s'.sources.get n
        let out : TakeOutcome := if r'.state ≠ .locked then .noSignal else if k.late then .doneLate else .done
        let told := if r.state = .locked ↔ r'.state = .locked then s
          else queueMasked (.sourceState n r.state r'.state r.format r'.phase s.houseTime) s
        let ended := fun u => notifyEnd d k out u
        (⟨.display, channelOf d⟩ : ServiceEntry) ∈ (s'.ports.get (portOf d)).service ∧ s'.salvos = (ended s).salvos ∧
          ((∀ f, ¬anchors f) → s'.returns = (ended told).returns) ∧
          ∀ f, anchors f →
            let x := s'.formats.get f
            let retargets := fun (e : DestNo) (q : Take) =>
              isDue s (addTicks (placeFor s' e q.mode q.target q.frames).switchPoint (-s.margin))
            let armed := (List.finRange 128).countP fun e => (s.dests.get e).format == some f && isArmed (s.active.get e)
            let retargeted := (List.finRange 128).countP fun e =>
              (s.dests.get e).format == some f && (s.active.get e).any fun q => q.state == .armed && retargets e q
            s'.returns = (ended (queueMasked
              (.anchor f (deviation (s.formats.get f) s.houseTime) x.epoch x.epochFrame armed retargeted) told)).returns

/-- The capture that brings an ACQUIRING source its third in-window interval locks it (R28, R29, R13, R15): state, counts, phase, L, frame
watch and sequence number after the arrival; no other source changes.

Then every essence cell of a source of format `f`, in any state but UNDEFINED: the gap counter on a sequence break (R34); the entry into ACQUIRING
from ABSENT on any cell and from LOST on a frame start (R27); the phase, the lock counting of R29 and the fallback of R30 on a capture; L and the frame watch
(R28, R15). The tracking state follows the lock of the cadence source (R9, R33). A capture of the cadence source that leaves it LOCKED and lies
outside the window re-anchors `f` (R17): E, N_E and the counter, ARMED takes recomputed or re-targeted (R18), active fill timers realigned (R90), and the
ANCHOR report after the SOURCE_STATE report of a lock change; COMMITTED and FOLLOW takes stand, but where
the cell ends their destination's cut, and so does every other source and format. A lock change posts a DISPLAY entry for
every defined destination forwarding the source (R33). That n becomes 0 on a re-target is the model's choice (log 14). -/
def Obligations.SourceFollowsItsCells : Prop :=
  (∀ (t : Trunk) (c : Cell) (pick : PoolNo) (s : State) (l : Time) (f : FormatNo), s.resetLine = false → c.good = true →
    c.kind = 1 → c.frameStart = true → (s.receivers.get t).state ≠ .quarantined →
    let n := sourceOf t c.stream
    let r := s.sources.get n
    let x := s.formats.get f
    r.state = .acquiring → r.inWindow = 2 → r.lastCapture = some l → r.format = some f →
    intervalInWindow x l s.houseTime = true → (∀ q, r.lastSeq = some q → c.seq = q + 1) →
    ∃ s', exec (.trunkCellArrival t c pick) s = .next s' ∧
      s'.sources = s.sources.set n { r with
        state := .locked, inWindow := 3, outWindow := 0, phase := saturate32 (deviation x s.houseTime),
        lastCapture := some s.houseTime, lastSeq := some c.seq,
        frameWatch := some (addTicks s.houseTime (2 * x.pi.toNat + x.wl.toNat)) }) ∧
  ∀ (t : Trunk) (c : Cell) (pick : PoolNo) (s : State) (f : FormatNo), s.resetLine = false → c.good = true → c.kind = 1 →
    (s.receivers.get t).state ≠ .quarantined → FormatLaw s →
    let n := sourceOf t c.stream
    let r := s.sources.get n
    let x := s.formats.get f
    let now := s.houseTime
    r.state ≠ .undefined → r.format = some f →
    let breaks := r.lastSeq.any fun q => c.seq != q + 1
    let base : Source := { r with lastSeq := some c.seq, gaps := if breaks then bump r.gaps else r.gaps }
    let fresh : Source :=
      { base with state := .acquiring, inWindow := 0, outWindow := 0, lastCapture := none, frameWatch := none }
    let g := x.pi.toNat * x.pd.toNat + x.pn.toNat
    let age := (now - x.epoch).toInt
    let j := if age < 0 then 0 else (age.toNat * x.pd.toNat + g / 2) / g
    let dev := (now - (x.epoch + BitVec.ofNat 48 (j * x.pi.toNat + j * x.pn.toNat / x.pd.toNat))).toInt
    let captured := fun y : Source =>
      { y with
        phase := max (-(2 ^ 31)) (min (2 ^ 31 - 1) dev), lastCapture := some now,
        frameWatch := some (now + BitVec.ofNat 48 (2 * x.pi.toNat + x.wl.toNat)) }
    let inside := fun l : Time => |(x.pd.toNat : Int) * (now - l).toInt - g| ≤ x.pd.toNat * x.wl.toNat
    let counted : Source := match r.state, r.lastCapture with
      | .acquiring, some l =>
        if ¬inside l then { base with inWindow := 0 }
        else if r.inWindow + 1 = 3 then { base with state := .locked, inWindow := 3, outWindow := 0 }
        else { base with inWindow := r.inWindow + 1 }
      | .locked, some l =>
        if inside l then { base with outWindow := 0 }
        else if r.outWindow + 1 = 2 then { base with state := .acquiring, inWindow := 0, outWindow := 0 }
        else { base with outWindow := r.outWindow + 1 }
      | _, _ => base
    let r' : Source :=
      if r.state = .absent ∨ (r.state = .lost ∧ c.frameStart = true) then (if c.frameStart = true then captured fresh else fresh)
      else if c.frameStart = true then captured counted
      else base
    let anchors := c.frameStart = true ∧ x.cadence = some n ∧ r'.state = .locked ∧ x.wl.toNat < dev.natAbs
    let x' : Format :=
      if anchors then
        { x with tracking := true, epoch := now, epochFrame := x.epochFrame + BitVec.ofNat 32 j, reanchors := bump x.reanchors }
      else if x.cadence = some n then { x with tracking := r'.state == .locked }
      else x
    let moved := fun d => anchors ∧ (s.dests.get d).format = some f
    let p := fun (d : DestNo) (k : Take) =>
      switchPlace x' (s.dests.get d).offset s.margin k.target (if k.mode = .frames then k.frames.toNat else 0)
    let late := fun (d : DestNo) (k : Take) => isDue s (addTicks (p d k).switchPoint (-s.margin))
    let joins := fun d => c.frameStart = true ∧ (s.dests.get d).current = some n ∧ match (s.switching.get d).cut with
      | .steady _ _ => False
      | .draining old _ _ => old = n
      | .joining _ => True
    ∃ s', exec (.trunkCellArrival t c pick) s = .next s' ∧
      s' = { s with
        sources := s.sources.set n r', formats := s.formats.set f x', receivers := s'.receivers, returns := s'.returns,
        pool := s'.pool, poolExhausted := s'.poolExhausted, ports := s'.ports, switching := s'.switching, active := s'.active,
        follow := s'.follow, salvos := s'.salvos, mode := s'.mode } ∧
      (∀ d, ¬joins d → s'.follow.get d = s.follow.get d ∧
        ∀ k, s.active.get d = some k → k.state ≠ .armed → s'.active.get d = some k) ∧
      (∀ d, s.active.get d = none → s'.active.get d = none) ∧
      (∀ d k, s.active.get d = some k → k.state = .armed → s'.active.get d = some (
        if ¬moved d then k
        else if late d k then
          { k with
            mode := .next, target := now, frames := 0, late := true,
            placed := some (switchPlace x' (s.dests.get d).offset s.margin now 0) }
        else { k with placed := some (p d k) })) ∧
      (∀ d, (match (s.switching.get d).cut with
          | .steady m _ => m ≠ some n
          | .draining old _ _ => old ≠ n
          | .joining _ => (s.dests.get d).current ≠ some n) →
        (s'.switching.get d).cut = (s.switching.get d).cut ∧
          (s'.switching.get d).fill = if moved d then
              (s.switching.get d).fill.map fun _ => firstPoint x' (s.dests.get d).offset (now + 1)
            else (s.switching.get d).fill) ∧
      (¬(r.state = .locked ↔ r'.state = .locked) → ∀ d, (s.dests.get d).format.isSome = true → (s.switching.get d).forwards n = true →
        (⟨.display, channelOf d⟩ : ServiceEntry) ∈ (s'.ports.get (portOf d)).service) ∧
      ((s.receivers.get t).state = .clean →
        (∀ d, (s.dests.get d).current = some n → (s.switching.get d).cut.inProgress = false) →
        let told := if r.state = .locked ↔ r'.state = .locked then s
          else queueMasked (.sourceState n r.state r'.state (some f) r'.phase now) s
        let armed := (List.finRange 128).countP fun d => (s.dests.get d).format == some f && isArmed (s.active.get d)
        let retargeted := (List.finRange 128).countP fun d =>
          (s.dests.get d).format == some f && (s.active.get d).any fun k => k.state == .armed && late d k
        s'.returns = if anchors then (queueMasked (.anchor f dev now x'.epochFrame armed retargeted) told).returns else told.returns)

/-! ## Transmit opportunities -/

/-- A drop port's choice (R98–R101): the service head when the essence queue is empty, its head is a frame start or 64 cells have passed it
over; else the essence head, its slot given up; else IDLE. Output sequence numbers and cells sent count, and nothing else changes. The cells
sent (R99, R100, R124, R125, R185, R189): a DISPLAY carries the forwarded source's number, tally, state and label and the five indicators, a FILL the
number of the frame in progress, each with its channel and output sequence number and no frame-start mark; an essence cell keeps its
frame-start mark and payload under the channel's number. -/
def Obligations.DropPortArbitrates : Prop :=
  (∀ (p : Port) (s : State), s.resetLine = false →
    let x := s.ports.get p
    (∀ e rest, x.service = e :: rest →
      (x.essence = [] ∨ (∃ f more, x.essence = f :: more ∧ (cellIn s.pool f.slot).frameStart = true) ∨ 64 ≤ x.passedOver) →
      exec (.dropTransmitOpportunity p) s = .next { s with
        dropLinks := s.dropLinks.set p (serviceCell s p e)
        ports := s.ports.set p { x with
          service := rest, passedOver := 0, outSeq := x.outSeq.set e.channel (x.outSeq.get e.channel + 1), sent := bump x.sent } }) ∧
    (∀ f more, x.essence = f :: more →
      (x.service = [] ∨ ((cellIn s.pool f.slot).frameStart = false ∧ x.passedOver < 64)) →
      exec (.dropTransmitOpportunity p) s = .next { s with
        dropLinks := s.dropLinks.set p (dropEssenceCell (cellIn s.pool f.slot) f.channel (x.outSeq.get f.channel))
        pool := poolRelease f.slot s.pool
        ports := s.ports.set p { x with
          essence := more, passedOver := if x.service = [] then x.passedOver else x.passedOver + 1,
          outSeq := x.outSeq.set f.channel (x.outSeq.get f.channel + 1), sent := bump x.sent } }) ∧
    (x.service = [] → x.essence = [] →
      exec (.dropTransmitOpportunity p) s = .next { s with dropLinks := s.dropLinks.set p Cell.idle })) ∧
  (∀ (p : Port) (ch : Channel) (s : State),
    let d := destOf p ch
    let x := s.dests.get d
    let w := s.switching.get d
    let heads := fun (kind : Byte) (y : Cell) =>
      y.kind = kind ∧ y.marks = BitVec.ofNat 8 ch.val ∧ y.seq = (s.ports.get p).outSeq.get ch ∧ y.crcMatches = true
    let bit := fun (n : Nat) (b : Bool) => if b then 2 ^ n else 0
    let joining := match w.cut with | .joining _ => true | _ => false
    let shown : Option SourceNo := match w.cut with | .steady m _ => m | .draining old _ _ => some old | .joining _ => none
    let number : Byte := if joining then 254 else match shown with | some n => BitVec.ofNat 8 n.val | none => 255
    let tally : Nat := match shown with
      | some n => let y := (s.sources.get n).tally; bit 0 y.pgm + bit 1 y.pvw + bit 2 y.iso + bit 3 y.aux
      | none => 0
    let noPicture := joining || w.fill.isSome || match shown with | some n => (s.sources.get n).state != .locked | none => true
    let indicators : Nat :=
      bit 0 (x.cls == .recorder && x.recording) + bit 1 (x.protection == .locked) + bit 2 (x.protection == .guarded) +
        bit 3 noPicture + bit 4 (s.active.get d).isSome
    let state : Byte := match shown with
      | some n => (match (s.sources.get n).state with | .undefined => 0 | .absent => 1 | .acquiring => 2 | .locked => 3 | .lost => 4)
      | none => 255
    let label : List Byte := match shown with | some n => (s.sources.get n).label.rows | none => List.replicate 16 0x20
    d.val = 16 * p.val + ch.val ∧
      heads 5 (serviceCell s p ⟨.display, ch⟩) ∧
      (serviceCell s p ⟨.display, ch⟩).payload.rows =
        [number, BitVec.ofNat 8 tally, BitVec.ofNat 8 indicators, state] ++ label ++ List.replicate 36 0 ∧
      heads 6 (serviceCell s p ⟨.fill, ch⟩) ∧
      ∃ m : FrameNo, (serviceCell s p ⟨.fill, ch⟩).payload.rows =
          [m.extractLsb' 24 8, m.extractLsb' 16 8, m.extractLsb' 8 8, m.extractLsb' 0 8] ++ List.replicate 52 0 ∧
        (x.format = none → m = 0) ∧
        ∀ f, x.format = some f →
          let k := frameFrom (s.formats.get f) x.offset (s.houseTime + 1)
          m = if k = 0 then (s.formats.get f).epochFrame else (s.formats.get f).epochFrame + BitVec.ofNat 32 (k - 1)) ∧
  ∀ (c : Cell) (ch : Channel) (seq : BitVec 16),
    let y := dropEssenceCell c ch seq
    y.kind = c.kind ∧ y.payload = c.payload ∧ y.frameStart = c.frameStart ∧ y.stream = ch ∧ y.seq = seq ∧ y.crcMatches = true

/-- A report is queued at the tail of a trunk's report queue, the oldest of 16 discarded and counted with overwrite pending set (R151), and a
report for the mask on each of its trunks (R164). A return direction's choice (R149, R151): strictly in turn while both queues hold entries, else
the queue that holds one, else IDLE; a REPORT cell carries and clears overwrite pending; nothing else changes. -/
def Obligations.ReturnQueuesAlternate : Prop :=
  (∀ (x : ReturnTx) (r : Report), x.push r =
    if x.reports.length < 16 then { x with reports := x.reports ++ [r] }
    else { x with reports := x.reports.tail ++ [r], overwrite := true, discarded := bump x.discarded }) ∧
  (∀ (r : Report) (s : State), ∃ s', queueMasked r s = s' ∧ s' = { s with returns := s'.returns } ∧
    ∀ u : Trunk, s'.returns.get u = if s.reportMask.getLsbD u.val then (s.returns.get u).push r else s.returns.get u) ∧
  ∀ (t : Trunk) (s : State), s.resetLine = false →
    let x := s.returns.get t
    (∀ r rest, x.replies = r :: rest → (x.reports = [] ∨ x.pointer = .reply) →
      exec (.returnTransmitOpportunity t) s = .next { s with
        returnLinks := s.returnLinks.set t (replyCell r)
        returns := s.returns.set t { x with replies := rest, pointer := .report } }) ∧
    (∀ r rest, x.reports = r :: rest → (x.replies = [] ∨ x.pointer = .report) →
      exec (.returnTransmitOpportunity t) s = .next { s with
        returnLinks := s.returnLinks.set t (reportCell r x.overwrite)
        returns := s.returns.set t { x with reports := rest, pointer := .reply, overwrite := false } }) ∧
    (x.replies = [] → x.reports = [] →
      exec (.returnTransmitOpportunity t) s = .next { s with returnLinks := s.returnLinks.set t Cell.idle })

/-! ## Scheduled events -/

/-- COMMIT_EVENT (R67, R68) of an ARMED take outside a SWAP pair at its commit point: deferred outside RUN; in RUN committed when the guard
holds, removed GUARD_FAIL with its report or its salvo tally and its DISPLAY entry when it fails. -/
def Obligations.CommitEventDecides : Prop :=
  ∀ (d : DestNo) (k : Take) (p : Placed) (s : State), s.active.get d = some k → k.state = .armed → k.placed = some p →
    boundPartner s d = none → isDue s (addTicks p.switchPoint (-s.margin)) = true →
    let holds := k.guardSource = none ∨ k.guardSource = some (s.dests.get d).current
    (s.mode ≠ .run → exec (.commitEvent d) s = .next { s with active := s.active.set d (some { k with deferred := true }) }) ∧
    (s.mode = .run → holds →
      exec (.commitEvent d) s = .next { s with active := s.active.set d (some { k with state := .committed }) }) ∧
    (s.mode = .run → ¬holds → ∃ s', exec (.commitEvent d) s = .next s' ∧
      s' = { s with
        active := s.active.set d none, salvos := s'.salvos, returns := s'.returns, ports := (requestDisplay d s).ports } ∧
      (k.salvo = none → s'.salvos = s.salvos ∧ s'.returns = if k.tag = 0 then s.returns else
        s.returns.modify k.trunk (·.push (.takeDone d k.tag .guardFail k.source k.late k.placed s.houseTime))) ∧
      ∀ slot, k.salvo = some slot → s'.salvos = s.salvos.modify slot (·.ended .guardFail) ∧
        s'.returns = (notifyEnd d k .guardFail s).returns)

/-- SWAP_COMMIT_EVENT (R121) of a bound pair at the earlier of its commit points: in RUN both halves commit, each with the other
destination's current source; outside RUN both are deferred; nothing else changes. -/
def Obligations.SwapPairCommitsTogether : Prop :=
  ∀ (d p : DestNo) (k q : Take) (a b : Placed) (s : State), boundPartner s d = some p → p ≠ d →
    s.active.get d = some k → s.active.get p = some q → k.placed = some a → q.placed = some b →
    isDue s (earlier (addTicks a.switchPoint (-s.margin)) (addTicks b.switchPoint (-s.margin))) = true →
    let k' : Take :=
      if s.mode = .run then { k with source := .fixed (s.dests.get p).current, state := .committed } else { k with deferred := true }
    let q' : Take :=
      if s.mode = .run then { q with source := .fixed (s.dests.get d).current, state := .committed } else { q with deferred := true }
    exec (.swapCommitEvent d) s = .next { s with active := (s.active.set d (some k')).set p (some q') }

/-- SWITCH_EVENT (R70, R81, R35) of a COMMITTED take at its switch point, in every mode. To a source: current source and usage counts move,
and the destination joins at once from NONE or a LOST source and drains otherwise. To NONE: it stands STEADY on NONE in WAITING_FRAME, one FILL
entry and then one DISPLAY entry are posted, a defined destination fills from the first frame point after now, and the take completes DONE, or
DONE_LATE when it is late: reported, or counted by its slot, and a FOLLOW take is promoted (R71–R73, R114, R115, R176). -/
def Obligations.SwitchEventCuts : Prop :=
  ∀ (d : DestNo) (k : Take) (p : Placed) (new old : Option SourceNo) (flag : FwdFlag) (s : State),
    s.active.get d = some k → k.state = .committed → k.placed = some p → k.source = .fixed new →
    (s.switching.get d).cut = .steady old flag → isDue s p.switchPoint = true →
    let current := (s.dests.get d).current
    let wait := addTicks s.houseTime ((formatOf s d).pi.toNat + (formatOf s d).wl.toNat)
    ∃ s', exec (.switchEvent d) s = .next s' ∧
      s' = { s with
        dests := s.dests.modify d (fun x => { x with current := new }), sources := s'.sources, switching := s'.switching,
        active := s'.active, follow := s'.follow, salvos := s'.salvos, returns := s'.returns, ports := s'.ports,
        mode := s'.mode } ∧
      (∀ n, s'.sources.get n = let r := s.sources.get n
        { r with usage := (if current = some n then r.usage - 1 else r.usage) + if new = some n then 1 else 0 }) ∧
      (∀ e, e ≠ d → s'.switching.get e = s.switching.get e ∧ s'.active.get e = s.active.get e) ∧
      (∀ m, new = some m →
        let cut : Cut := match old with
          | none => .joining wait
          | some o =>
            if (s.sources.get o).state = .lost then .joining wait
            else .draining o (flag == .forwarding) (addTicks p.switchPoint ((formatOf s d).pi.toNat + (formatOf s d).wl.toNat))
        s' = { s with
          dests := s'.dests, sources := s'.sources, switching := s.switching.modify d (fun w => { w with cut := cut }) }) ∧
      (new = none →
        let out : TakeOutcome := if k.late then .doneLate else .done
        (s'.switching.get d).cut = .steady none .waiting ∧
        ((s.dests.get d).format.isSome = true → (s'.switching.get d).fill = some (pointFrom s d (s.houseTime + 1))) ∧
        s'.ports = (requestDisplay d (postFill d s)).ports ∧
        s'.follow = s.follow.set d none ∧
        s'.active.get d = (s.follow.get d).map (fun q =>
          let passed := isBefore q.target s.houseTime
          let goal := if passed then s.houseTime else q.target
          { q with
            state := .armed, target := goal, late := q.late || (q.mode == .atTime && passed),
            placed := some (placeFor s d q.mode goal q.frames) }) ∧
        (k.salvo = none → s'.salvos = s.salvos ∧ (s.mode = .run → s'.returns = if k.tag = 0 then s.returns else
          s.returns.modify k.trunk (·.push (.takeDone d k.tag out k.source k.late k.placed s.houseTime)))) ∧
        (∀ slot, k.salvo = some slot → s'.salvos = s.salvos.modify slot (·.ended out) ∧
          (s.mode = .run → ∀ a g, (s.salvos.get slot).firingTrunk = some a → (s.salvos.get slot).firingTag = some g →
            s'.returns = if (s.salvos.get slot).outstanding = 1 ∧ g ≠ 0 then
                s.returns.modify a (·.push (.salvoDone slot g (s'.salvos.get slot).tallies s.houseTime))
              else s.returns)) ∧
        s'.mode = if s.mode = .holding ∧ (∀ e, e ≠ d → isCommitted (s.active.get e) = false) ∧
            (∀ e, e ≠ d → (s.switching.get e).cut.inProgress = false) then .held else s.mode)

/-- FRAME_WATCH_EXPIRY (R31, R33, R84, R88): the source enters LOST. A format it steers is FREE_RUNNING when it leaves LOCKED; SOURCE_STATE is
queued on the mask; a DISPLAY entry is requested for every defined destination forwarding it; then destinations draining it join, and each STEADY
one waits, posts one FILL entry and fills from the first frame point after now. Other sources, formats and destinations stand. That the entries of
a port are queued in ascending destination number is the model's choice (log 5). -/
def Obligations.FrameWatchExpiryLoses : Prop :=
  ∀ (n : SourceNo) (x : Time) (s : State), (s.sources.get n).frameWatch = some x → isDue s x = true →
    ((s.sources.get n).state = .acquiring ∨ (s.sources.get n).state = .locked) →
    let r := s.sources.get n
    let post := fun (kind : ServiceKind) (ports : Tbl DropPort 8) (d : DestNo) => ports.modify (portOf d) fun y =>
      if (⟨kind, channelOf d⟩ : ServiceEntry) ∉ y.service then { y with service := y.service ++ [⟨kind, channelOf d⟩] }
      else if kind = .fill then { y with coalesced := bump y.coalesced }
      else y
    let shown : DestNo → Bool := fun d => (s.dests.get d).format.isSome && match (s.switching.get d).cut with
      | .steady m _ => m == some n
      | .draining old _ _ => old == n
      | .joining _ => false
    let fills : DestNo → Bool := fun d => match (s.switching.get d).cut with
      | .steady m _ => m == some n
      | _ => false
    ∃ s', exec (.frameWatchExpiry n) s = .next s' ∧
      s' = { s with
        sources := s.sources.set n { r with
          state := .lost, lastCapture := none, frameWatch := none, lastSeq := none, inWindow := 0, outWindow := 0 }
        formats := s'.formats, returns := s'.returns, ports := s'.ports, switching := s'.switching } ∧
      (∀ f, s'.formats.get f = let y := s.formats.get f
        if r.state = .locked ∧ y.cadence = some n then { y with tracking := false } else y) ∧
      s'.returns = (queueMasked (.sourceState n r.state .lost r.format r.phase s.houseTime) s).returns ∧
      s'.ports = ((List.finRange 128).filter fills).foldl (post .fill) (((List.finRange 128).filter shown).foldl (post .display) s.ports) ∧
      ∀ d, s'.switching.get d = let w := s.switching.get d
        match w.cut with
        | .steady old _ =>
          if old = some n then
            { cut := .steady old .waiting,
              fill := if (s.dests.get d).format = none then w.fill else some (pointFrom s d (s.houseTime + 1)) }
          else w
        | .draining old _ _ =>
          if old = n then { w with cut := .joining (addTicks s.houseTime ((formatOf s d).pi.toNat + (formatOf s d).wl.toNat)) }
          else w
        | .joining _ => w

/-- DRAIN_EXPIRY (R83): the destination enters JOINING with its join expiry at now + Pi + Wl; no FILL entry is posted and nothing else
changes. -/
def Obligations.DrainExpiryJoins : Prop :=
  ∀ (d : DestNo) (old : SourceNo) (tail : Bool) (x : Time) (s : State), (s.switching.get d).cut = .draining old tail x →
    isDue s x = true →
    exec (.drainExpiry d) s = .next { s with switching := s.switching.modify d fun w => { w with
      cut := .joining (addTicks s.houseTime ((formatOf s d).pi.toNat + (formatOf s d).wl.toNat)) } }

/-- JOIN_EXPIRY (R86, R71, R72) of a destination with a COMMITTED take: STEADY and waiting on the current source with fill from the next
frame point, one FILL entry, and the take completed NO_SIGNAL: reported or counted, and a FOLLOW take promoted. -/
def Obligations.JoinExpiryCompletes : Prop :=
  ∀ (d : DestNo) (k : Take) (x : Time) (s : State), (s.switching.get d).cut = .joining x → isDue s x = true →
    s.active.get d = some k → k.state = .committed → (s.dests.get d).format.isSome = true →
    ∃ s', exec (.joinExpiry d) s = .next s' ∧
      s' = { s with
        switching := s.switching.set d
          { cut := .steady (s.dests.get d).current .waiting, fill := some (pointFrom s d (s.houseTime + 1)) }
        active := s'.active, follow := s.follow.set d none, salvos := s'.salvos, returns := s'.returns, ports := s'.ports,
        mode := s'.mode } ∧
      s'.ports = (requestDisplay d (postFill d s)).ports ∧
      (∀ e, e ≠ d → s'.active.get e = s.active.get e) ∧
      (s.follow.get d = none → s'.active.get d = none) ∧
      (∀ q, s.follow.get d = some q → ∃ q', s'.active.get d = some q' ∧ q'.state = .armed ∧ q'.source = q.source ∧
        q'.tag = q.tag ∧ q'.target = if isBefore q.target s.houseTime then s.houseTime else q.target) ∧
      (∀ slot, k.salvo = some slot → s'.salvos = s.salvos.modify slot (·.ended .noSignal) ∧
        (s.mode = .run → s'.returns = (notifyEnd d k .noSignal s).returns)) ∧
      (k.salvo = none → s.mode = .run → s'.salvos = s.salvos ∧ s'.returns = if k.tag = 0 then s.returns else
        s.returns.modify k.trunk (·.push (.takeDone d k.tag .noSignal k.source k.late k.placed s.houseTime))) ∧
      (s'.mode = if s.mode = .holding ∧ (∀ e, e ≠ d → isCommitted (s.active.get e) = false) ∧
          (∀ e, e ≠ d → (s.switching.get e).cut.inProgress = false) then .held else s.mode)

/-- FILL_FRAME_POINT (R89, R97) of a defined destination: one FILL entry, appended or absorbed and counted, and the next fill frame point the
first one after now; nothing else changes. -/
def Obligations.FillFramePointPosts : Prop :=
  ∀ (d : DestNo) (x : Time) (s : State), (s.switching.get d).fill = some x → isDue s x = true →
    (s.dests.get d).format.isSome = true →
    let entry : ServiceEntry := ⟨.fill, channelOf d⟩
    exec (.fillFramePoint d) s = .next { s with
      ports := s.ports.modify (portOf d) fun y =>
        if entry ∈ y.service then { y with coalesced := bump y.coalesced } else { y with service := y.service ++ [entry] }
      switching := s.switching.modify d fun w => { w with fill := some (pointFrom s d (s.houseTime + 1)) } }

/-! ## Takes -/

/-- The target and the checks of a TAKE. R61 and R12: NEXT and FRAMES aim at now; an AT time is past, beyond the horizon or in range. R59 and R60:
a mode byte that names no mode is OPERAND_ERROR, a destination, source or guard byte out of its range is RANGE, and then checks 3 to 9 in
their order, with or without the override flag: the first failure's status. A TAKE or PROBE that fails is answered with the status alone,
and no take, record or event changes (R60, R163). That n is 0 outside FRAMES is the model's choice (log 14). -/
def Obligations.TakeCheckedInOrder : Prop :=
  (∀ (now x : Time) (n : BitVec 16),
    fixTarget now .next n = { mode := .next, time := now, frames := 0, late := false, beyond := false } ∧
      fixTarget now .frames n = { mode := .frames, time := now, frames := n, late := false, beyond := false } ∧
      fixTarget now (.atTime x) n =
        (if 2 ^ 47 ≤ (x - now).toNat then { mode := .atTime, time := now, frames := 0, late := true, beyond := false }
        else { mode := .atTime, time := x, frames := 0, late := false, beyond := decide (2 ^ 32 < (x - now).toNat) })) ∧
  (∀ (h : Header) (o : TakeOperands) (arm : Arm) (s : State),
    ((∃ b, o.mode = .other b) → checkTake h o arm s = .error .operandError) ∧
    ((∀ b, o.mode ≠ .other b) →
      (128 ≤ o.dest.toNat ∨ (128 ≤ o.source.toNat ∧ o.source ≠ 255) ∨
          (128 ≤ o.guardByte.toNat ∧ o.guardByte ≠ 0xFE ∧ o.guardByte ≠ 0xFF) → checkTake h o arm s = .error .range) ∧
      ∀ (d : DestNo) (source : Option SourceNo) (guard : Option (Option SourceNo)), o.dest.toNat = d.val →
        o.source.toNat = (match source with | none => 255 | some n => n.val) →
        o.guardByte.toNat = (match guard with | none => 0xFE | some none => 0xFF | some (some n) => n.val) →
        let r : Request := { dest := d, source, guardSource := guard, target := fixTarget s.houseTime o.mode o.frames }
        checkTake h o arm s =
          match requestFailure s h.owner o.overrideFlag arm r with
          | some st => .error st
          | none => .ok r)) ∧
  (∀ (s : State) (owner : Byte) (override : Bool) (arm : Arm) (r : Request),
    let x := s.dests.get r.dest
    let named := fun n : SourceNo => r.source = some n ∨ r.guardSource = some (some n)
    let place := switchPlace (formatOf s r.dest) x.offset s.margin r.target.time
      (if r.target.mode = .frames then r.target.frames.toNat else 0)
    let beyond := r.target.beyond = true ∨
      (r.target.mode = .frames ∧ 2 ^ 32 < (place.switchPoint - s.houseTime).toNat)
    requestFailure s owner override arm r =
      if x.format = none then some .undefined
      else if ∃ n, named n ∧ (s.sources.get n).state = .undefined then some .undefined
      else if ∃ n, named n ∧ (s.sources.get n).format ≠ x.format then some .formatMismatch
      else if override = true ∧ arm ≠ .overriding r.dest owner then some .noArm
      else if override = false ∧ x.protection = .locked ∧ owner ≠ x.owner then some .lockedOut
      else if override = false ∧ x.protection = .guarded then some .isProtected
      else if override = false ∧ x.cls = .recorder ∧ x.recording = true then some .recording
      else if beyond then some .range
      else none) ∧
  ∀ (t : Trunk) (h : Header) (o : TakeOperands) (s : State) (st : Status),
    checkTake h o (s.arms.get t) (headTaken s t) = .error st →
    (headReady s t (.take t h o) = true → exec (.take t h o) s = .next (answered t .take h st [] (headTaken s t))) ∧
      (headReady s t (.probe t h o) = true → exec (.probe t h o) s = .next (answered t .probe h st [] (headTaken s t)))

/-- The end of a take made known (R65, R66, R114, R115): a TAKE_DONE report on its trunk unless its tag is 0; or, where it names a slot,
the slot's tally of the outcome and its outstanding count, and SALVO_DONE on the firing trunk when the count falls to 0 and the firing tag is
not 0. A TAKE that passes its checks (R61–R64): FOLLOW behind a COMMITTED take, superseding a FOLLOW take; otherwise ARMED with the switch point of
R11, superseding an ARMED take and then its bound partner, each made known as SUPERSEDED; a DISPLAY entry where PENDING appears, and for a partner's
vacated destination; every other record stands. The form of the absent reply fields is the model's (log 11), and so is n = 0 outside FRAMES (log 14). -/
def Obligations.TakePlaced : Prop :=
  (∀ (d : DestNo) (k : Take) (out : TakeOutcome) (s : State),
    (k.salvo = none → notifyEnd d k out s = if k.tag = 0 then s else { s with
      returns := s.returns.modify k.trunk (·.push (.takeDone d k.tag out k.source k.late k.placed s.houseTime)) }) ∧
    ∀ m, k.salvo = some m →
      let x := s.salvos.get m
      let one := fun o : TakeOutcome => if out = o then 1 else 0
      let y : Tallies :=
        { done := x.tallies.done + one .done, late := x.tallies.late + one .doneLate, noSignal := x.tallies.noSignal + one .noSignal,
          superseded := x.tallies.superseded + one .superseded, guardFail := x.tallies.guardFail + one .guardFail,
          cancelled := x.tallies.cancelled + one .cancelled }
      let u : State := { s with salvos := s.salvos.set m { x with tallies := y, outstanding := x.outstanding - 1 } }
      notifyEnd d k out s = match x.firingTrunk, x.firingTag with
        | some a, some g =>
          if x.outstanding = 1 ∧ g ≠ 0 then { u with returns := s.returns.modify a (·.push (.salvoDone m g y s.houseTime)) } else u
        | _, _ => u) ∧
  ∀ (t : Trunk) (h : Header) (o : TakeOperands) (s : State) (r : Request), headReady s t (.take t h o) = true →
    checkTake h o (s.arms.get t) (headTaken s t) = .ok r →
    let k : Take := { source := .fixed r.source, guardSource := r.guardSource, mode := r.target.mode, target := r.target.time,
                      frames := r.target.frames, placed := none, late := r.target.late, deferred := false,
                      overrideUsed := o.overrideFlag, trunk := t, tag := h.tag, salvo := none, partner := none,
                      state := .following }
    let p := placeFor s r.dest r.target.mode r.target.time r.target.frames
    let follows := (s.active.get r.dest).any (fun q => q.state != .armed)
    let fields : List ReplyField :=
      if follows then [.enumeration 3, .flag (s.follow.get r.dest).isSome, .flag r.target.late, .flag false, .time 0, .flag false,
        .frame 0]
      else [.enumeration 1, .flag (s.active.get r.dest).isSome, .flag r.target.late, .flag true, .time p.switchPoint, .flag true,
        .frame p.frame]
    ∃ s₁, exec (.take t h o) s = .next (answered t .take h (if r.target.late then .okLate else .ok) fields s₁) ∧
      s₁ = { headTaken s t with
        active := s₁.active, follow := s₁.follow, salvos := s₁.salvos, returns := s₁.returns, ports := s₁.ports } ∧
      (follows = true → s₁.active = s.active ∧ s₁.follow = s.follow.set r.dest (some k) ∧ s₁.ports = s.ports) ∧
      (follows = false → s₁.follow = s.follow ∧
        s₁.active.get r.dest = some { k with state := .armed, placed := some p } ∧
        (∀ e, e ≠ r.dest → s₁.active.get e = if boundPartner s r.dest = some e then none else s.active.get e) ∧
        (s.active.get r.dest = none → s₁.ports = (requestDisplay r.dest s).ports)) ∧
      (follows = false → s.active.get r.dest ≠ none → s₁.ports = match boundPartner s r.dest with
        | some e => if e = r.dest then s.ports else (requestDisplay e s).ports
        | none => s.ports) ∧
      let held := fun d => (s.active.get d).toList.map fun q => (d, q)
      let removed :=
        if follows then (s.follow.get r.dest).toList.map fun q => (r.dest, q)
        else held r.dest ++ ((boundPartner s r.dest).toList.filter (· ≠ r.dest)).flatMap held
      let told := removed.foldl (fun u x => notifyEnd x.1 x.2 .superseded u) s
      s₁.salvos = told.salvos ∧ s₁.returns = told.returns

/-- PROBE (R78): the reply carries the status a TAKE executed in its place would receive, and nothing but the arm in hand is spent.
The form of the reply's presence and provisional bytes is the model's reading (log 11). -/
def Obligations.ProbeAnswersAsTake : Prop :=
  ∀ (t : Trunk) (h : Header) (o : TakeOperands) (s : State), headReady s t (.probe t h o) = true →
    ∃ st fields, exec (.probe t h o) s = .next (answered t .probe h st fields (headTaken s t)) ∧
      st = (actTake t h o (s.arms.get t) (headTaken s t)).status ∧
      ∀ r, checkTake h o (s.arms.get t) (headTaken s t) = .ok r →
        let p := placeFor s r.dest r.target.mode r.target.time r.target.frames
        let follows := (s.active.get r.dest).any (fun q => q.state != .armed)
        fields = [.enumeration (if follows then 3 else 1),
          .flag (if follows then (s.follow.get r.dest).isSome else (s.active.get r.dest).isSome), .flag r.target.late,
          .time p.switchPoint, .flag follows, .frame p.frame, .flag follows]

/-- CANCEL (R76, R122). A destination out of range is RANGE, one locked by another owner LOCKED_OUT, a protected one PROTECTED, and nothing
changes. On a destination whose protection check passes: its ARMED take with its bound partner, and its FOLLOW take, leave, each made known as
CANCELLED by its report or to its slot (R65, R66, R114, R115), with a DISPLAY entry for each destination vacated, in ascending number (the model's
order, log 5); a COMMITTED take stays; the reply counts them, and every other record stands. -/
def Obligations.CancelRemovesPending : Prop :=
  (∀ (t : Trunk) (h : Header) (b : Byte) (s : State), headReady s t (.cancel t h b) = true →
    let refused := fun st : Status => exec (.cancel t h b) s = .next (answered t .cancel h st [] (headTaken s t))
    (128 ≤ b.toNat → refused .range) ∧
      ∀ d : DestNo, b.toNat = d.val → let x := s.dests.get d
        (x.protection = .locked → h.owner ≠ x.owner → refused .lockedOut) ∧ (x.protection = .guarded → refused .isProtected)) ∧
  ∀ (t : Trunk) (h : Header) (b : Byte) (d : DestNo) (s : State), headReady s t (.cancel t h b) = true →
    destOperand b = some d → protectionFailure (s.dests.get d) h.owner = none →
    let armed := isArmed (s.active.get d)
    let count := (if armed then (if (boundPartner s d).isSome then 2 else 1) else 0) + if (s.follow.get d).isSome then 1 else 0
    ∃ s₁, exec (.cancel t h b) s = .next (answered t .cancel h .ok [.quantity (BitVec.ofNat 8 count)] s₁) ∧
      s₁ = { headTaken s t with
        active := s₁.active, follow := s.follow.set d none, salvos := s₁.salvos, returns := s₁.returns, ports := s₁.ports } ∧
      (s₁.active.get d = if armed then none else s.active.get d) ∧
      (∀ e, e ≠ d → s₁.active.get e = if boundPartner s d = some e then none else s.active.get e) ∧
      let partner := (boundPartner s d).toList.filter (· ≠ d)
      let held := fun e => (s.active.get e).toList.map fun q => (e, q)
      let removed := (if armed then held d ++ partner.flatMap held else []) ++ (s.follow.get d).toList.map fun q => (d, q)
      let told := removed.foldl (fun u x => notifyEnd x.1 x.2 .cancelled u) s
      s₁.salvos = told.salvos ∧ s₁.returns = told.returns ∧
        s₁.ports = (requestDisplays ((List.finRange 128).filter fun e => armed && (e == d || partner.contains e)) s).ports

/-- SWEEP (R117, R118). Refused, with nothing changed: a target mode or direction that is none (OPERAND_ERROR), a first destination or source
byte out of range (RANGE). With operands in range, every destination of the run that passes the checks of R60 receives a take, FOLLOW behind a
COMMITTED take and ARMED otherwise; the takes superseded are made known in run order, each before its bound partner, by their reports or to their
slots (R65, R66, R114, R115); the reply counts taken and skipped and names the first skipped. Other destinations keep their takes, but for a SWAP
partner superseded with its half, and every other record stands. The form of "none skipped" in the reply is the model's (log 9), and so is n = 0
outside FRAMES (log 14). -/
def Obligations.SweepTakesItsRun : Prop :=
  (∀ (t : Trunk) (h : Header) (o : SweepOperands) (s : State), headReady s t (.sweep t h o) = true →
    let refused := fun st : Status => exec (.sweep t h o) s = .next (answered t .sweep h st [] (headTaken s t))
    ((∃ b, o.mode = .other b) → refused .operandError) ∧
    ((∀ b, o.mode ≠ .other b) → 2 ≤ o.direction.toNat → refused .operandError) ∧
    ((∀ b, o.mode ≠ .other b) → o.direction.toNat < 2 →
      128 ≤ o.first.toNat ∨ (128 ≤ o.source.toNat ∧ o.source ≠ 255) → refused .range)) ∧
  ∀ (t : Trunk) (h : Header) (o : SweepOperands) (up : Bool) (first : DestNo) (source : Option SourceNo) (s : State),
    headReady s t (.sweep t h o) = true → namesMode o.mode = true → directionOperand o.direction = some up →
    destOperand o.first = some first → sourceOperand o.source = some source →
    let g := fixTarget s.houseTime o.mode o.frames
    let failure := fun d => requestFailure s h.owner false .clear { dest := d, source := source, guardSource := none, target := g }
    let inRun := fun d : DestNo => if up then first.val ≤ d.val ∧ d.val < first.val + o.count.toNat % 128
      else d.val ≤ first.val ∧ first.val < d.val + o.count.toNat % 128
    let taken := (List.finRange 128).countP fun d => decide (inRun d) && (failure d).isNone
    let skipped := (List.finRange 128).countP fun d => decide (inRun d) && (failure d).isSome
    let run := if up then (List.finRange 128).filter inRun else ((List.finRange 128).filter inRun).reverse
    let rest : List ReplyField := match run.filter fun d => (failure d).isSome with
      | [] => [.quantity 255, .status .ok]
      | d :: _ => [.quantity (BitVec.ofNat 8 d.val), .status ((failure d).getD .ok)]
    ∃ s₁, exec (.sweep t h o) s = .next (answered t .sweep h (if g.late ∧ taken ≠ 0 then .okLate else .ok)
        ([.quantity (BitVec.ofNat 8 taken), .quantity (BitVec.ofNat 8 skipped)] ++ rest) s₁) ∧
      s₁ = { headTaken s t with
        active := s₁.active, follow := s₁.follow, salvos := s₁.salvos, returns := s₁.returns, ports := s₁.ports } ∧
      (let held := fun d => (s.active.get d).toList.map fun q => (d, q)
        let order := run.filter fun d => (failure d).isNone
        let removed := order.flatMap fun d =>
          if (s.active.get d).any (fun q => q.state != .armed) then (s.follow.get d).toList.map fun q => (d, q)
          else match boundPartner s d with
            | none => held d
            | some e => if e ∈ order ∧ (if up then e < d else d < e) then [] else if e = d then held d else held d ++ held e
        let told := removed.foldl (fun u x => notifyEnd x.1 x.2 .superseded u) s
        s₁.salvos = told.salvos ∧ s₁.returns = told.returns) ∧
      (∀ d, ¬(inRun d ∧ failure d = none) → s₁.follow.get d = s.follow.get d ∧
        s₁.active.get d = if (boundPartner s d).any (fun e => decide (inRun e) && (failure e).isNone) then none
          else s.active.get d) ∧
      ∀ d, inRun d → failure d = none →
        if (s.active.get d).any (fun q => q.state != .armed) then s₁.active.get d = s.active.get d ∧
          ∃ k, s₁.follow.get d = some k ∧ k.state = .following ∧ k.source = .fixed source ∧ k.trunk = t ∧ k.tag = h.tag
        else ∃ k, s₁.active.get d = some k ∧ k.state = .armed ∧ k.source = .fixed source ∧ k.trunk = t ∧ k.tag = h.tag ∧
          k.placed = some (placeFor s d g.mode g.time g.frames)

/-- SWAP (R119, R120). Refused, with nothing changed: a mode byte that names no mode, a destination out of range, A equal to B, and then
checks 4 to 9 in their order, each for A and then for B. One that passes: both destinations hold an ARMED half bound to the other, with its own
switch point and no source; the takes superseded on A and then on B, each before its partner, are made known by their reports or to their slots
(R65, R66, R114, R115); the reply carries both and the earlier commit point; every other record stands. The byte that says which destination
failed is the model's form (log 10), and n = 0 outside FRAMES is its choice (log 14). -/
def Obligations.SwapArmsBothHalves : Prop :=
  (∀ (t : Trunk) (h : Header) (o : SwapOperands) (s : State), headReady s t (.swap t h o) = true →
    let refused := fun (st : Status) (which : Byte) =>
      exec (.swap t h o) s = .next (answered t .swap h st [.quantity which] (headTaken s t))
    ((∃ b, o.mode = .other b) → refused .operandError 255) ∧
    ((∀ b, o.mode ≠ .other b) →
      (128 ≤ o.destA.toNat → refused .range o.destA) ∧
      (o.destA.toNat < 128 → 128 ≤ o.destB.toNat → refused .range o.destB) ∧
      ∀ a b : DestNo, o.destA.toNat = a.val → o.destB.toNat = b.val →
        (a = b → refused .operandError 255) ∧
        (a ≠ b → ∀ st which, swapFailure s h.owner a b (fixTarget s.houseTime o.mode o.frames) = some (st, which) →
          refused st which))) ∧
  (∀ (s : State) (owner : Byte) (a b : DestNo) (g : Target),
    let failsAt := fun (st : Status) (d : DestNo) => some (st, BitVec.ofNat 8 d.val)
    let lockedOut := fun d => (s.dests.get d).protection = .locked ∧ owner ≠ (s.dests.get d).owner
    let records := fun d => (s.dests.get d).cls = .recorder ∧ (s.dests.get d).recording = true
    let place := fun d => switchPlace (formatOf s d) (s.dests.get d).offset s.margin g.time (if g.mode = .frames then g.frames.toNat else 0)
    let beyond := fun d => g.beyond = true ∨ (g.mode = .frames ∧ 2 ^ 32 < ((place d).switchPoint - s.houseTime).toNat)
    swapFailure s owner a b g =
      if (s.dests.get a).format = none then failsAt .undefined a
      else if (s.dests.get b).format = none then failsAt .undefined b
      else if (s.dests.get a).format ≠ (s.dests.get b).format then some (.operandError, 255)
      else if isCommitted (s.active.get a) = true then failsAt .busy a
      else if isCommitted (s.active.get b) = true then failsAt .busy b
      else if lockedOut a then failsAt .lockedOut a
      else if (s.dests.get a).protection = .guarded then failsAt .isProtected a
      else if lockedOut b then failsAt .lockedOut b
      else if (s.dests.get b).protection = .guarded then failsAt .isProtected b
      else if records a then failsAt .recording a
      else if records b then failsAt .recording b
      else if beyond a then failsAt .range a
      else if beyond b then failsAt .range b
      else none) ∧
  ∀ (t : Trunk) (h : Header) (o : SwapOperands) (a b : DestNo) (s : State), headReady s t (.swap t h o) = true →
    namesMode o.mode = true → destOperand o.destA = some a → destOperand o.destB = some b → a ≠ b →
    let g := fixTarget s.houseTime o.mode o.frames
    swapFailure s h.owner a b g = none →
    let pa := placeFor s a g.mode g.time g.frames
    let pb := placeFor s b g.mode g.time g.frames
    let half := fun (p : Placed) (partner : DestNo) =>
      ({ source := .unfixed, guardSource := none, mode := g.mode, target := g.time, frames := g.frames, placed := some p,
         late := g.late, deferred := false, overrideUsed := false, trunk := t, tag := h.tag, salvo := none,
         partner := some partner, state := .armed } : Take)
    ∃ s₁, exec (.swap t h o) s = .next (answered t .swap h (if g.late then .okLate else .ok)
        [.time pa.switchPoint, .frame pa.frame, .flag (s.active.get a).isSome,
          .time pb.switchPoint, .frame pb.frame, .flag (s.active.get b).isSome,
          .time (addTicks (earlier pa.switchPoint pb.switchPoint) (-s.margin))] s₁) ∧
      s₁ = { headTaken s t with active := s₁.active, salvos := s₁.salvos, returns := s₁.returns, ports := s₁.ports } ∧
      s₁.active.get a = some (half pa b) ∧ s₁.active.get b = some (half pb a) ∧
      (∀ e, e ≠ a → e ≠ b → s₁.active.get e =
        if boundPartner s a = some e ∨ boundPartner s b = some e then none else s.active.get e) ∧
      let partner := fun d => (boundPartner s d).toList.filter (· ≠ d)
      let held := fun d => (s.active.get d).toList.map fun q => (d, q)
      let removed := held a ++ (partner a).flatMap held ++ if b ∈ partner a then [] else held b ++ (partner b).flatMap held
      let told := removed.foldl (fun u x => notifyEnd x.1 x.2 .superseded u) s
      s₁.salvos = told.salvos ∧ s₁.returns = told.returns

/-! ## Salvos -/

/-- SALVO_LOAD (R105, R106). Refused in the order of R105, with nothing changed: slot or start out of range (RANGE), a pair count that is not
1 to 10 (OPERAND_ERROR), the first pair out of range (RANGE with its ordinal), a FIRED slot (BUSY). Of pairs in range into a slot that is not FIRED:
positions from the start on, counted mod 16, hold the pairs; the pair count and the WRAPPED flag are the ones R106 gives; nothing else changes. -/
def Obligations.SalvoLoadWritesPairs : Prop :=
  (∀ (t : Trunk) (h : Header) (o : LoadOperands) (s : State), headReady s t (.salvoLoad t h o) = true →
    let refused := fun (st : Status) (details : List ReplyField) =>
      exec (.salvoLoad t h o) s = .next (answered t .salvoLoad h st details (headTaken s t))
    let bad := fun p : RawPair => 128 ≤ p.dest.toNat ∨ (128 ≤ p.source.toNat ∧ p.source ≠ 255) ∨
      (128 ≤ p.guardByte.toNat ∧ p.guardByte ≠ 0xFE ∧ p.guardByte ≠ 0xFF)
    (32 ≤ o.slot.toNat → refused .range []) ∧
    (o.slot.toNat < 32 → 16 ≤ o.start.toNat → refused .range []) ∧
    (o.slot.toNat < 32 → o.start.toNat < 16 → o.count.toNat < 1 ∨ 10 < o.count.toNat → refused .operandError []) ∧
    (o.slot.toNat < 32 → o.start.toNat < 16 → 1 ≤ o.count.toNat → o.count.toNat ≤ 10 →
      (∀ (i : Nat) (p : RawPair), o.pairs[i]? = some p → bad p → (∀ j < i, ∀ q, o.pairs[j]? = some q → ¬bad q) →
        refused .range [.quantity (BitVec.ofNat 8 i)]) ∧
      ((∀ p ∈ o.pairs, ¬bad p) → ∀ k : SlotNo, o.slot.toNat = k.val → 0 < (s.salvos.get k).outstanding → refused .busy []))) ∧
  ∀ (t : Trunk) (h : Header) (o : LoadOperands) (k : SlotNo) (s : State), headReady s t (.salvoLoad t h o) = true →
    slotOperand o.slot = some k → o.start.toNat < 16 → 1 ≤ o.count.toNat → o.count.toNat ≤ 10 →
    (∀ p ∈ o.pairs, (pairOperand p).isSome = true) → (s.salvos.get k).outstanding = 0 →
    let n := o.count.toNat
    let start := o.start.toNat
    let x := s.salvos.get k
    ∃ x' : SalvoSlot, exec (.salvoLoad t h o) s = .next (answered t .salvoLoad h .ok
        [.quantity (BitVec.ofNat 8 x'.count), .flag (16 < start + n)] { headTaken s t with salvos := s.salvos.set k x' }) ∧
      x' = { x with count := x'.count, positions := x'.positions } ∧
      x'.count = (if start + n ≤ 16 then max x.count (start + n) else 16) ∧
      (∀ i : Fin 16, ∀ j : Nat, j < n → i.val = (start + j) % 16 → x'.positions.get i = (o.pairs[j]?).bind pairOperand) ∧
      ∀ i : Fin 16, (∀ j : Nat, j < n → i.val ≠ (start + j) % 16) → x'.positions.get i = x.positions.get i

/-- SALVO_CLEAR (R107): a number out of range and a FIRED slot are refused; any other slot takes its power-on values; nothing else changes. -/
def Obligations.SalvoClearEmpties : Prop :=
  ∀ (t : Trunk) (h : Header) (b : Byte) (s : State), headReady s t (.salvoClear t h b) = true →
    (32 ≤ b.toNat → exec (.salvoClear t h b) s = .next (answered t .salvoClear h .range [] (headTaken s t))) ∧
      ∀ k, slotOperand b = some k →
        let x : SalvoSlot := ⟨0, Tbl.fill 16 none, 0, ⟨0, 0, 0, 0, 0, 0⟩, none, none⟩
        exec (.salvoClear t h b) s = .next (
          if 0 < (s.salvos.get k).outstanding then answered t .salvoClear h .busy [] (headTaken s t)
          else answered t .salvoClear h .ok [] { headTaken s t with salvos := s.salvos.set k x })

/-- SALVO_FIRE (R108–R113). Refused before any pair is looked at: a target or fire mode that is none (OPERAND_ERROR), a slot out of range, EMPTY
(EMPTY_SLOT) or FIRED (BUSY). In STRICT mode the first failing pair refuses the fire with its status and position (R110). A refusal changes nothing.
A LOADED slot that no take names, LENIENT or with every pair passing, is fired: at the destination of each accepted pair stands a take filled
by R112 from the last accepted pair for it, ARMED with its own switch point, or FOLLOW behind a COMMITTED take; the reply's counts, first skipped
pair, late flag and status are those of R113; the outstanding count is the number of destinations, every other accepted pair is tallied
SUPERSEDED, the takes superseded of other commands are made known in the order of the pairs, each before its bound partner, by their reports or to
their slots (R65, R66, R114, R115), and trunk and tag are this command's. No definition, source, switching or pool record changes, and other destinations keep their takes but
for a SWAP partner superseded with its half. The model's choices: the form of "none skipped" in the reply (log 9), n = 0
outside FRAMES (log 14), and the late flag of a reply whose every pair was skipped (log 18). -/
def Obligations.SalvoFireCreatesTakes : Prop :=
  (∀ (t : Trunk) (h : Header) (o : FireOperands) (s : State), headReady s t (.salvoFire t h o) = true →
    let refused := fun (st : Status) (details : List ReplyField) =>
      exec (.salvoFire t h o) s = .next (answered t .salvoFire h st details (headTaken s t))
    ((∃ b, o.mode = .other b) → refused .operandError []) ∧
    ((∀ b, o.mode ≠ .other b) → 2 ≤ o.fireMode.toNat → refused .operandError []) ∧
    ((∀ b, o.mode ≠ .other b) → o.fireMode.toNat < 2 → 32 ≤ o.slot.toNat → refused .range []) ∧
    ((∀ b, o.mode ≠ .other b) → o.fireMode.toNat < 2 → ∀ k : SlotNo, o.slot.toNat = k.val →
      let x := s.salvos.get k
      let failure := fun p : Pair => requestFailure s h.owner false .clear
        { dest := p.dest, source := p.source, guardSource := p.guardSource, target := fixTarget s.houseTime o.mode o.frames }
      (x.outstanding = 0 → x.count = 0 → refused .emptySlot []) ∧
        (0 < x.outstanding → refused .busy []) ∧
        (o.fireMode = 0 → x.outstanding = 0 → 0 < x.count → ∀ (i : Fin 16) (p : Pair) (st : Status), i.val < x.count →
          x.positions.get i = some p → failure p = some st → (∀ j < i, ∀ q, x.positions.get j = some q → failure q = none) →
          refused st [.quantity (BitVec.ofNat 8 i.val)]))) ∧
  ∀ (t : Trunk) (h : Header) (o : FireOperands) (k : SlotNo) (s : State),
    headReady s t (.salvoFire t h o) = true → (∀ b, o.mode ≠ .other b) → o.fireMode.toNat < 2 →
    o.slot.toNat = k.val → 0 < (s.salvos.get k).count → (s.salvos.get k).outstanding = 0 → SalvoLaw s → TakeLaw s →
    let g := fixTarget s.houseTime o.mode o.frames
    let x := s.salvos.get k
    let failure := fun p : Pair => requestFailure s h.owner false .clear
      { dest := p.dest, source := p.source, guardSource := p.guardSource, target := g }
    let held := (List.finRange 16).filter fun i => decide (i.val < x.count) && (x.positions.get i).isSome
    let skipped := held.filter fun i => ((x.positions.get i).bind failure).isSome
    let accepted := held.filter fun i => ((x.positions.get i).bind failure).isNone
    let goes := fun d : DestNo => ∃ i ∈ accepted, ∃ p, x.positions.get i = some p ∧ p.dest = d
    let busy := fun d : DestNo => (s.active.get d).any fun q => q.state != .armed
    let first : List ReplyField := match skipped with
      | [] => [.quantity 255, .status .ok]
      | i :: _ => [.quantity (BitVec.ofNat 8 i.val), .status (((x.positions.get i).bind failure).getD .ok)]
    (o.fireMode = 0 → skipped = []) →
    ∃ s₁, let y := s₁.salvos.get k
      exec (.salvoFire t h o) s = .next (answered t .salvoFire h (if g.late = true ∧ accepted ≠ [] then .okLate else .ok)
        ([.quantity (BitVec.ofNat 8 accepted.length), .quantity (BitVec.ofNat 8 skipped.length)] ++ first ++
          [.quantity (BitVec.ofNat 8 y.outstanding),
            .quantity (BitVec.ofNat 8 (accepted.countP fun i => (x.positions.get i).any fun p => busy p.dest)), .flag g.late]) s₁) ∧
      s₁ = { headTaken s t with
        active := s₁.active, follow := s₁.follow, salvos := s₁.salvos, returns := s₁.returns, ports := s₁.ports } ∧
      (∀ i ∈ accepted, ∀ p, x.positions.get i = some p →
        (∀ j ∈ accepted, i < j → ∀ q, x.positions.get j = some q → q.dest ≠ p.dest) →
        let q : Take :=
          { source := .fixed p.source, guardSource := p.guardSource, mode := g.mode, target := g.time, frames := g.frames, placed := none,
            late := g.late, deferred := false, overrideUsed := false, trunk := t, tag := h.tag, salvo := some k, partner := none,
            state := .following }
        if busy p.dest then s₁.active.get p.dest = s.active.get p.dest ∧ s₁.follow.get p.dest = some q
        else s₁.follow.get p.dest = s.follow.get p.dest ∧
          s₁.active.get p.dest = some { q with
            state := .armed, placed := some (placeFor s p.dest g.mode g.time g.frames) } ∧
          (s.active.get p.dest = none → (⟨.display, channelOf p.dest⟩ : ServiceEntry) ∈ (s₁.ports.get (portOf p.dest)).service)) ∧
      (∀ d, ¬goes d → s₁.follow.get d = s.follow.get d ∧
        ((∃ e, boundPartner s d = some e ∧ goes e) → s₁.active.get d = none) ∧
        ((∀ e, boundPartner s d = some e → ¬goes e) → s₁.active.get d = s.active.get d)) ∧
      (let held := fun d => (s.active.get d).toList.map fun q => (d, q)
        let before := fun (d : DestNo) (i : Fin 16) => accepted.any fun j => decide (j < i) && (x.positions.get j).any fun q => q.dest == d
        let removed := accepted.flatMap fun i => (x.positions.get i).toList.flatMap fun p =>
          if before p.dest i then []
          else if busy p.dest then (s.follow.get p.dest).toList.map fun q => (p.dest, q)
          else match boundPartner s p.dest with
            | none => held p.dest
            | some e => if before e i then [] else if e = p.dest then held e else held p.dest ++ held e
        let told := removed.foldl (fun u x => notifyEnd x.1 x.2 .superseded u) s
        s₁.returns = told.returns ∧ ∀ m, m ≠ k → s₁.salvos.get m = told.salvos.get m) ∧
      y.firingTrunk = some t ∧ y.firingTag = some h.tag ∧ y.count = x.count ∧ y.positions = x.positions ∧
        ∀ ds : List DestNo, ds.Nodup → (∀ d, d ∈ ds ↔ goes d) → y.outstanding = ds.length ∧
          y.tallies = { done := 0, late := 0, noSignal := 0, superseded := accepted.length - ds.length, guardFail := 0, cancelled := 0 }

/-! ## The crosspoint table -/

/-- LOCK, UNLOCK, PROTECT and UNPROTECT in every mode (R49–R52): RANGE, then OPERAND_ERROR for owner 0 or 255 of LOCK and PROTECT, then
each row of the tables; a refusal and a row marked unchanged leave every record, and a change posts a DISPLAY entry (R53). -/
def Obligations.ProtectionTables : Prop :=
  ∀ (t : Trunk) (h : Header) (b : Byte) (s : State),
    let u := headTaken s t
    let x := fun d => s.dests.get d
    (headReady s t (.lock t h b) = true →
      (128 ≤ b.toNat → exec (.lock t h b) s = .next (answered t .lock h .range [] u)) ∧
      ∀ d, destOperand b = some d → exec (.lock t h b) s = .next (
        if h.owner = 0 ∨ h.owner = 255 then answered t .lock h .operandError [] u
        else match (x d).protection with
          | .free => answered t .lock h .ok [] (protectedAs d .locked h.owner u)
          | .locked => if h.owner = (x d).owner then answered t .lock h .ok [] u else answered t .lock h .lockedOut [] u
          | .guarded =>
            if h.owner = (x d).owner then answered t .lock h .ok [] (protectedAs d .locked h.owner u)
            else answered t .lock h .isProtected [] u)) ∧
    (headReady s t (.unlock t h b) = true →
      (128 ≤ b.toNat → exec (.unlock t h b) s = .next (answered t .unlock h .range [] u)) ∧
      ∀ d, destOperand b = some d → exec (.unlock t h b) s = .next (
        match (x d).protection with
          | .free => answered t .unlock h .ok [] u
          | .locked =>
            if h.owner = (x d).owner ∨ h.owner = 255 then answered t .unlock h .ok [] (protectedAs d .free 0 u)
            else answered t .unlock h .lockedOut [] u
          | .guarded => answered t .unlock h .isProtected [] u)) ∧
    (headReady s t (.protect t h b) = true →
      (128 ≤ b.toNat → exec (.protect t h b) s = .next (answered t .protect h .range [] u)) ∧
      ∀ d, destOperand b = some d → exec (.protect t h b) s = .next (
        if h.owner = 0 ∨ h.owner = 255 then answered t .protect h .operandError [] u
        else match (x d).protection with
          | .free => answered t .protect h .ok [] (protectedAs d .guarded h.owner u)
          | .locked =>
            if h.owner = (x d).owner then answered t .protect h .ok [] (protectedAs d .guarded h.owner u)
            else answered t .protect h .lockedOut [] u
          | .guarded =>
            if h.owner = (x d).owner then answered t .protect h .ok [] u else answered t .protect h .isProtected [] u)) ∧
    (headReady s t (.unprotect t h b) = true →
      (128 ≤ b.toNat → exec (.unprotect t h b) s = .next (answered t .unprotect h .range [] u)) ∧
      ∀ d, destOperand b = some d → exec (.unprotect t h b) s = .next (
        match (x d).protection with
          | .free => answered t .unprotect h .ok [] u
          | .locked => answered t .unprotect h .lockedOut [] u
          | .guarded =>
            if h.owner = (x d).owner ∨ h.owner = 255 then answered t .unprotect h .ok [] (protectedAs d .free 0 u)
            else answered t .unprotect h .isProtected [] u))

/-- ARM_OVERRIDE (R55) and RESET_ARM (R180): the trunk's arm record set at the end, in every mode and for every owner; a destination out of
range leaves no arm; nothing else changes. -/
def Obligations.ArmCommandsSetTheArm : Prop :=
  ∀ (t : Trunk) (h : Header) (b : Byte) (s : State),
    (headReady s t (.armOverride t h b) = true →
      (128 ≤ b.toNat → exec (.armOverride t h b) s = .next (answered t .armOverride h .range [] (headTaken s t))) ∧
      ∀ d, destOperand b = some d → exec (.armOverride t h b) s =
        .next (answered t .armOverride h .ok [] { headTaken s t with arms := s.arms.set t (.overriding d h.owner) })) ∧
    (headReady s t (.resetArm t h) = true →
      exec (.resetArm t h) s = .next (answered t .resetArm h .ok [] { headTaken s t with arms := s.arms.set t .reset }))

/-- RECORD_STATE (R45, R46). Refused, with nothing changed: a destination out of range (RANGE) or UNDEFINED, and then a state operand that is
none or a MONITOR (OPERAND_ERROR). Of a defined RECORDER: ON removes the ARMED take with its partner and the FOLLOW take where they lack
override-used and counts them, each made known as CANCELLED by its report or to its slot (R65, R66, R114, R115); OFF removes nothing; a change
that removes no take posts one DISPLAY entry; other records stand. -/
def Obligations.RecordStateSetsRecording : Prop :=
  (∀ (t : Trunk) (h : Header) (b code : Byte) (s : State), headReady s t (.recordState t h b code) = true →
    let refused := fun st : Status => exec (.recordState t h b code) s = .next (answered t .recordState h st [] (headTaken s t))
    (128 ≤ b.toNat → refused .range) ∧
      ∀ d : DestNo, b.toNat = d.val → let x := s.dests.get d
        (x.format = none → refused .undefined) ∧
        (x.format ≠ none → 2 ≤ code.toNat ∨ x.cls ≠ .recorder → refused .operandError)) ∧
  ∀ (t : Trunk) (h : Header) (b code : Byte) (d : DestNo) (on : Bool) (s : State),
    headReady s t (.recordState t h b code) = true → destOperand b = some d → onOffOperand code = some on →
    (s.dests.get d).format.isSome = true → (s.dests.get d).cls = .recorder →
    let armed := on && (s.active.get d).any fun k => k.state == .armed && !k.overrideUsed
    let following := on && (s.follow.get d).any fun k => !k.overrideUsed
    let count := (if armed then (if (boundPartner s d).isSome then 2 else 1) else 0) + if following then 1 else 0
    ∃ s₁, exec (.recordState t h b code) s = .next (answered t .recordState h .ok [.quantity (BitVec.ofNat 8 count)] s₁) ∧
      s₁ = { headTaken s t with
        dests := s.dests.modify d (fun x => { x with recording := on }), active := s₁.active, follow := s₁.follow,
        salvos := s₁.salvos, returns := s₁.returns, ports := s₁.ports } ∧
      (s₁.active.get d = if armed then none else s.active.get d) ∧
      (∀ e, e ≠ d → s₁.active.get e = if armed = true ∧ boundPartner s d = some e then none else s.active.get e) ∧
      s₁.follow = (if following then s.follow.set d none else s.follow) ∧
      (let partner := (boundPartner s d).toList.filter (· ≠ d)
        let held := fun e => (s.active.get e).toList.map fun q => (e, q)
        let removed := (if armed then held d ++ partner.flatMap held else []) ++
          if following then (s.follow.get d).toList.map fun q => (d, q) else []
        let told := removed.foldl (fun u x => notifyEnd x.1 x.2 .cancelled u) s
        s₁.salvos = told.salvos ∧ s₁.returns = told.returns) ∧
      (count = 0 → s₁.ports = if (s.dests.get d).recording = on then s.ports else (requestDisplay d s).ports)

/-- DEST_DEFINE in HELD of a defined destination that keeps its format (R40–R43): class and clamped offset stored; a changed offset
recomputes the destination's ARMED take and realigns its active fill timer, an unchanged one moves neither; other destinations and
every other record stand. Outside HELD every DEST_DEFINE is refused NOT_HELD, and in HELD its operands are checked in the order of R39:
destination, format operand, defined format, class; a refusal changes nothing. That n becomes 0 on a re-target is the model's choice (log 14). -/
def Obligations.DestDefineMovesOffset : Prop :=
  (∀ (t : Trunk) (h : Header) (o : DestOperands) (d : DestNo) (f : FormatNo) (c : DestClass) (s : State),
    headReady s t (.destDefine t h o) = true → s.mode = .held → destOperand o.dest = some d →
    formatOperand o.format = some (some f) → classOperand o.cls = some c → (s.formats.get f).defined = true →
    (s.dests.get d).format = some f →
    let x := s.dests.get d
    let half : Int := ((s.formats.get f).pi.toNat / 2 : Nat)
    let off := max (-half) (min half o.offset.toInt)
    ∃ s₁, exec (.destDefine t h o) s =
        .next (answered t .destDefine h (if off = o.offset.toInt then .ok else .okClamped) [] s₁) ∧
      s₁ = { headTaken s t with
        dests := s₁.dests, switching := s₁.switching, active := s₁.active, ports := s₁.ports } ∧
      s₁.dests = s.dests.set d { x with
        cls := c, recording := (x.recording && x.cls == .recorder && c == .recorder), offset := off } ∧
      (∀ e, e ≠ d → s₁.active.get e = s.active.get e ∧ s₁.switching.get e = s.switching.get e) ∧
      (off = x.offset → s₁.active = s.active ∧ s₁.switching = s.switching) ∧
      (off ≠ x.offset → (s₁.switching.get d).cut = (s.switching.get d).cut ∧
        (s₁.switching.get d).fill = (s.switching.get d).fill.map (fun _ => firstPoint (s.formats.get f) off (s.houseTime + 1)) ∧
        ∀ k, s.active.get d = some k →
          let p := switchPlace (s.formats.get f) off s.margin k.target (if k.mode = .frames then k.frames.toNat else 0)
          let q := switchPlace (s.formats.get f) off s.margin s.houseTime 0
          s₁.active.get d = some (
            if k.state ≠ .armed then k
            else if isDue s (addTicks p.switchPoint (-s.margin)) then
              { k with mode := .next, target := s.houseTime, frames := 0, late := true, placed := some q }
            else { k with placed := some p })) ∧
      (c = .recorder ∨ x.recording = false → s₁.ports = s.ports)) ∧
  ∀ (t : Trunk) (h : Header) (o : DestOperands) (s : State), headReady s t (.destDefine t h o) = true →
    let refused := fun st : Status => exec (.destDefine t h o) s = .next (answered t .destDefine h st [] (headTaken s t))
    let badFormat := 16 ≤ o.format.toNat ∧ o.format ≠ 255
    let undefined := ∃ f : FormatNo, o.format.toNat = f.val ∧ (s.formats.get f).defined = false
    (s.mode ≠ .held → refused .notHeld) ∧
      (s.mode = .held → 128 ≤ o.dest.toNat ∨ badFormat → refused .range) ∧
      (s.mode = .held → o.dest.toNat < 128 → undefined → refused .undefined) ∧
      (s.mode = .held → o.dest.toNat < 128 → ¬badFormat → ¬undefined → 2 ≤ o.cls.toNat → refused .operandError)

/-- DEST_DEFINE in HELD that gives a destination in no use another format, or none (R39–R41, R43). An UNDEFINED one is defined: format, class
and clamped offset stored, its fill timer started at the first frame point after now, and a DISPLAY entry posted. A defined one takes
the new format with the clamped offset and its active fill timer realigned, or UNDEFINED with offset, recording and fill timer cleared.
UNDEFINED named for an UNDEFINED one stores the class alone. A defined one
is refused IN_USE, with nothing changed, when it is on a source or holds a take. Every other record stands. The refusals before that,
NOT_HELD and those of the operands, are in DestDefineMovesOffset. -/
def Obligations.DestDefineChangesFormat : Prop :=
  (∀ (t : Trunk) (h : Header) (o : DestOperands) (d : DestNo) (c : DestClass) (s : State),
    headReady s t (.destDefine t h o) = true → s.mode = .held → destOperand o.dest = some d → o.format = 255 →
    classOperand o.cls = some c → (s.dests.get d).format = none → (s.dests.get d).recording = false →
    exec (.destDefine t h o) s = .next (answered t .destDefine h .ok []
      { headTaken s t with dests := s.dests.modify d fun x => { x with cls := c } })) ∧
  (∀ (t : Trunk) (h : Header) (o : DestOperands) (d : DestNo) (f : FormatNo) (c : DestClass) (s : State),
    headReady s t (.destDefine t h o) = true → s.mode = .held → destOperand o.dest = some d →
    formatOperand o.format = some (some f) → classOperand o.cls = some c → (s.formats.get f).defined = true →
    (s.dests.get d).format = none → (s.dests.get d).recording = false → (s.dests.get d).current = none →
    s.active.get d = none → s.follow.get d = none →
    let half : Int := ((s.formats.get f).pi.toNat / 2 : Nat)
    let off := max (-half) (min half o.offset.toInt)
    ∃ s₁, exec (.destDefine t h o) s =
        .next (answered t .destDefine h (if off = o.offset.toInt then .ok else .okClamped) [] s₁) ∧
      s₁ = { headTaken s t with
        dests := s.dests.modify d (fun x => { x with format := some f, cls := c, offset := off })
        switching := s.switching.modify d (fun w => { w with fill := some (firstPoint (s.formats.get f) off (s.houseTime + 1)) })
        ports := s.ports.modify (portOf d) (fun y => y.post .display (channelOf d)) }) ∧
  ∀ (t : Trunk) (h : Header) (o : DestOperands) (d : DestNo) (g : Option FormatNo) (f : FormatNo) (c : DestClass) (s : State),
    headReady s t (.destDefine t h o) = true → s.mode = .held → destOperand o.dest = some d → formatOperand o.format = some g →
    classOperand o.cls = some c → (∀ e, g = some e → (s.formats.get e).defined = true) → (s.dests.get d).format = some f →
    g ≠ some f →
    let x := s.dests.get d
    let used := x.current ≠ none ∨ s.active.get d ≠ none ∨ s.follow.get d ≠ none
    (used → exec (.destDefine t h o) s = .next (answered t .destDefine h .inUse [] (headTaken s t))) ∧
    (¬used → g = none → ∃ s₁, exec (.destDefine t h o) s = .next (answered t .destDefine h .ok [] s₁) ∧
      s₁ = { headTaken s t with
        dests := s.dests.set d { x with format := none, cls := c, recording := false, offset := 0 }
        switching := s.switching.modify d (fun w => { w with fill := none })
        ports := s₁.ports }) ∧
    (¬used → ∀ e, g = some e →
      let half : Int := ((s.formats.get e).pi.toNat / 2 : Nat)
      let off := max (-half) (min half o.offset.toInt)
      ∃ s₁, exec (.destDefine t h o) s =
          .next (answered t .destDefine h (if off = o.offset.toInt then .ok else .okClamped) [] s₁) ∧
        s₁ = { headTaken s t with
          dests := s.dests.set d { x with
            format := some e, cls := c, recording := (x.recording && x.cls == .recorder && c == .recorder), offset := off }
          switching := s.switching.modify d (fun w =>
            { w with fill := w.fill.map fun _ => firstPoint (s.formats.get e) off (s.houseTime + 1) })
          ports := s₁.ports })

/-! ## Sources -/

/-- SOURCE_DEFINE (R20–R24). Refused, with nothing changed: a source number or format operand out of range (RANGE), an undefined format
(UNDEFINED), another format for a source in use (IN_USE). With operands in range, of a source that is not in use or keeps its format: define, format change and undefine
clear captures, counts and phase and keep tally, gap counter and usage; a relabel keeps everything else; every label byte outside 0x20–0x7E
is stored as '?'. No other source, destination or take changes. -/
def Obligations.SourceDefineStores : Prop :=
  (∀ (t : Trunk) (h : Header) (sb fb : Byte) (label : Tbl Byte 16) (s : State),
    headReady s t (.sourceDefine t h sb fb label) = true →
    let refused := fun st : Status =>
      exec (.sourceDefine t h sb fb label) s = .next (answered t .sourceDefine h st [] (headTaken s t))
    (128 ≤ sb.toNat ∨ (16 ≤ fb.toNat ∧ fb ≠ 255) → refused .range) ∧
      (sb.toNat < 128 → ∀ f : FormatNo, fb.toNat = f.val → (s.formats.get f).defined = false → refused .undefined)) ∧
  ∀ (t : Trunk) (h : Header) (sb fb : Byte) (label : Tbl Byte 16) (n : SourceNo) (g : Option FormatNo) (s : State),
    headReady s t (.sourceDefine t h sb fb label) = true → sourceNumber sb = some n → formatOperand fb = some g →
    (∀ f, g = some f → (s.formats.get f).defined = true) →
    let r := s.sources.get n
    let shown : Tbl Byte 16 := label.map fun b => if 0x20 ≤ b.toNat ∧ b.toNat ≤ 0x7E then b else 0x3F
    (g = r.format ∨ sourceInUse s n = false →
      ∃ s₁, exec (.sourceDefine t h sb fb label) s = .next (answered t .sourceDefine h .ok [] s₁) ∧
        s₁ = { headTaken s t with
          sources := s₁.sources, formats := s₁.formats, returns := s₁.returns, ports := s₁.ports,
          switching := s₁.switching } ∧
        s₁.sources = s.sources.set n (if g = r.format then { r with label := shown } else { r with
          format := g, label := shown, state := if g = none then .undefined else .absent, lastCapture := none,
          frameWatch := none, lastSeq := none, inWindow := 0, outWindow := 0, phase := 0 }) ∧
        s₁.switching = s.switching ∧
        (g = r.format → s₁.formats = s.formats ∧ s₁.returns = s.returns) ∧
        (shown = r.label → g = r.format → s₁.ports = s.ports)) ∧
    (g ≠ r.format → sourceInUse s n = true →
      exec (.sourceDefine t h sb fb label) s = .next (answered t .sourceDefine h .inUse [] (headTaken s t)))

/-- SOURCE_TALLY (R25): RANGE, UNDEFINED, or all four bits replaced and a DISPLAY entry requested for every destination whose forwarded
source it is; nothing else changes. That several entries of one port are queued in ascending destination number is the model's choice
(log 5): R25 gives no order. -/
def Obligations.SourceTallyReplacesBits : Prop :=
  ∀ (t : Trunk) (h : Header) (b : Byte) (bits : Tally) (s : State), headReady s t (.sourceTally t h b bits) = true →
    (128 ≤ b.toNat → exec (.sourceTally t h b bits) s = .next (answered t .sourceTally h .range [] (headTaken s t))) ∧
      ∀ n, sourceNumber b = some n → exec (.sourceTally t h b bits) s = .next (
        if (s.sources.get n).state = .undefined then answered t .sourceTally h .undefined [] (headTaken s t)
        else answered t .sourceTally h .ok [] { headTaken s t with
          sources := s.sources.modify n (fun r => { r with tally := bits })
          ports := (requestDisplays (destsForwarding s n) s).ports })

/-! ## Trunk and mode commands -/

/-- SET_REPORT_MASK (R165) in every mode: the mask replaced, the previous and the new one replied; nothing else changes. -/
def Obligations.ReportMaskReplaced : Prop :=
  ∀ (t : Trunk) (h : Header) (m : Byte) (s : State), headReady s t (.setReportMask t h m) = true →
    exec (.setReportMask t h m) s = .next (answered t .setReportMask h .ok [.bits s.reportMask, .bits m]
      { headTaken s t with reportMask := m })

/-- TRUNK_RELEASE (R144) and TRUNK_POLICY (R146) in every mode: RANGE and OPERAND_ERROR in their order; a release kept by a QUARANTINED trunk
alone; a policy stored for the next quarantine, the one in force kept and replied; nothing else changes.
The presence byte of the policy in force is the model's reading (log 11). -/
def Obligations.TrunkCommandsAct : Prop :=
  ∀ (t : Trunk) (h : Header) (b pb : Byte) (s : State),
    (headReady s t (.trunkRelease t h b) = true →
      (8 ≤ b.toNat → exec (.trunkRelease t h b) s = .next (answered t .trunkRelease h .range [] (headTaken s t))) ∧
      ∀ u, trunkOperand b = some u → exec (.trunkRelease t h b) s = .next (
        if u = t then answered t .trunkRelease h .operandError [] (headTaken s t)
        else if (s.receivers.get u).state = .quarantined then
          answered t .trunkRelease h .ok [.enumeration 2, .quantity (BitVec.ofNat 8 (s.receivers.get u).runCount), .flag true]
            { headTaken s t with receivers := s.receivers.modify u fun r => { r with release := true } }
        else answered t .trunkRelease h .ok
          [.enumeration (if (s.receivers.get u).state = .clean then 0 else 1),
            .quantity (BitVec.ofNat 8 (s.receivers.get u).runCount), .flag false] (headTaken s t))) ∧
    (headReady s t (.trunkPolicy t h b pb) = true →
      (8 ≤ b.toNat → exec (.trunkPolicy t h b pb) s = .next (answered t .trunkPolicy h .range [] (headTaken s t))) ∧
      ∀ u, trunkOperand b = some u →
        (2 ≤ pb.toNat → exec (.trunkPolicy t h b pb) s = .next (answered t .trunkPolicy h .operandError [] (headTaken s t))) ∧
        ∀ p, policyOperand pb = some p → ∃ rest,
          exec (.trunkPolicy t h b pb) s = .next (answered t .trunkPolicy h .ok (.enumeration pb :: rest)
            { headTaken s t with receivers := s.receivers.modify u fun r => { r with policy := p } }) ∧
          ((s.receivers.get u).state ≠ .quarantined → rest = [.flag false, .enumeration 0]) ∧
          ∀ q, (s.receivers.get u).state = .quarantined → (s.receivers.get u).inForce = some q →
            rest = [.flag true, .enumeration (if q = .auto then 0 else 1)])

/-- HOLD (R175, R176) in every mode: RUN becomes HOLDING while a take is COMMITTED or a cut is in progress, and HELD at once otherwise with a
HELD report on the mask; HOLDING and HELD stay; the reply carries the mode after it and the counts; nothing else changes. -/
def Obligations.HoldEntersHolding : Prop :=
  ∀ (t : Trunk) (h : Header) (s : State), headReady s t (.hold t h) = true →
    let committed := (List.finRange 128).countP fun d => isCommitted (s.active.get d)
    let cutting := (List.finRange 128).countP fun d => (s.switching.get d).cut.inProgress
    let counts : List ReplyField := [.quantity (BitVec.ofNat 8 committed), .quantity (BitVec.ofNat 8 cutting)]
    let armed := (List.finRange 128).countP fun d => isArmed (s.active.get d)
    let deferred := (List.finRange 128).countP fun d => isDeferred (s.active.get d)
    let u := headTaken s t
    exec (.hold t h) s = .next (match s.mode with
      | .run =>
        if committed = 0 ∧ cutting = 0 then
          answered t .hold h .ok (.enumeration 2 :: counts)
            (queueMasked (.held s.houseTime armed deferred) { u with mode := .held })
        else answered t .hold h .ok (.enumeration 1 :: counts) { u with mode := .holding }
      | .holding => answered t .hold h .ok (.enumeration 1 :: counts) u
      | .held => answered t .hold h .ok (.enumeration 2 :: counts) u)

/-- RESUME (R178, R18): in RUN nothing changes; in HOLDING and HELD the mode becomes RUN, every ARMED take that is deferred or at its commit
point, and its SWAP partner, is re-targeted to now, late, in mode NEXT and not deferred; other takes and every other record stand.
That n becomes 0 is the model's choice (log 14). -/
def Obligations.ResumeRetargets : Prop :=
  ∀ (t : Trunk) (h : Header) (s : State), headReady s t (.resume t h) = true →
    (s.mode = .run → exec (.resume t h) s = .next (answered t .resume h .ok [.enumeration 0, .quantity 0] (headTaken s t))) ∧
    (s.mode ≠ .run →
      let waits := fun d : DestNo =>
        (s.active.get d).any fun k => k.state == .armed && (k.deferred || (commitPoint s d k).any (isDue s))
      let chosen := fun d : DestNo => waits d || (boundPartner s d).any waits
      ∃ s₁, exec (.resume t h) s = .next (answered t .resume h .ok
          [.enumeration (if s.mode = .holding then 1 else 2),
            .quantity (BitVec.ofNat 8 ((List.finRange 128).countP chosen))] s₁) ∧
        s₁ = { headTaken s t with mode := .run, active := s₁.active } ∧
        (∀ d, chosen d = false → s₁.active.get d = s.active.get d) ∧
        ∀ d k, s.active.get d = some k → chosen d = true → s₁.active.get d = some { k with
          state := .armed, mode := .next, target := s.houseTime, frames := 0, late := true, deferred := false,
          placed := some (switchPlace (formatOf s d) (s.dests.get d).offset s.margin s.houseTime 0) })

/-- RESET (R181, R182, R36, R57, R101–R103, R148, R152, R174): NO_ARM without a reset arm in hand, nothing changed; with one, the warm reset:
what each block keeps and what it clears, the fill timers set, the mode, and the reply alone in the return queues. That the DISPLAY entries of a
port are queued in ascending channel order is the model's choice (log 5): R103, R134 and R181 give no order. -/
def Obligations.WarmResetKeepsAndClears : Prop :=
  ∀ (t : Trunk) (h : Header) (s : State), headReady s t (.reset t h) = true →
    (s.arms.get t ≠ .reset → exec (.reset t h) s = .next (answered t .reset h .noArm [] (headTaken s t))) ∧
    (s.arms.get t = .reset → ∃ s₁,
      exec (.reset t h) s = .next (answered t .reset h .ok
        [.enumeration (if s.mode = .run then 0 else 2), .time s.houseTime] s₁) ∧
      s₁ = { s with
        arms := Tbl.fill 8 .clear, active := Tbl.fill 128 none, follow := Tbl.fill 128 none,
        salvos := Tbl.fill 32 SalvoSlot.empty, pool := [], poolExhausted := 0, contexts := Tbl.fill 8 ⟨[], 0⟩,
        returns := Tbl.fill 8 ReturnTx.reset, mode := if s.mode = .run then .run else .held,
        formats := s₁.formats, sources := s₁.sources, switching := s₁.switching, ports := s₁.ports,
        receivers := s₁.receivers } ∧
      (∀ n, s₁.sources.get n = let r := s.sources.get n
        { r with
          state := if r.state = .locked ∨ r.state = .lost then .acquiring else r.state
          lastCapture := none, frameWatch := none, lastSeq := none, inWindow := 0, outWindow := 0, gaps := 0 }) ∧
      (∀ f, s₁.formats.get f = { s.formats.get f with tracking := false, reanchors := 0 }) ∧
      (∀ d, (s₁.switching.get d).cut = .steady (if (s.dests.get d).format = none then none else (s.dests.get d).current) .waiting ∧
        ((s₁.switching.get d).fill.isSome = (s.dests.get d).format.isSome) ∧
        (s₁.switching.get d).fill = if (s.dests.get d).format = none then none
          else if (s.dests.get d).current = none then some (pointFrom s d (s.houseTime + 1))
          else some (pointFrom s d (s.houseTime + BitVec.ofNat 48 ((formatOf s d).pi.toNat + 1)))) ∧
      (∀ p, s₁.ports.get p = { s.ports.get p with
        essence := [], passedOver := 0, sent := 0, refused := 0, coalesced := 0,
        service := ((List.finRange 16).filter fun ch => (s.dests.get (destOf p ch)).format.isSome).map fun ch =>
          ⟨.display, ch⟩ }) ∧
      ∀ u, s₁.receivers.get u = { Receiver.reset with policy := (s.receivers.get u).policy })

/-! ## Reads -/

/-- IDENTIFY, READ_STATUS, READ_SOURCE, READ_FORMAT and READ_SALVO (R166, R167, R170, R171) in every mode: the values standing at the
execution, or the refusal, and no state changed but the spent arm. The model's choices: the presence bytes (log 11), the receive states of READ_STATUS from T0 to T7 (log 19), and zeros
in bits 7 to 4 of the tally byte of READ_SOURCE (log 17). -/
def Obligations.ReadsReturnRecords : Prop :=
  ∀ (t : Trunk) (h : Header) (b hb : Byte) (s : State),
    let u := headTaken s t
    let byte := fun n : Nat => ReplyField.quantity (BitVec.ofNat 8 n)
    (headReady s t (.identify t h) = true → exec (.identify t h) s = .next (answered t .identify h .ok
      ([.word 0x0A31, .word 364, .quantity 1, .serial Config.serialNumber] ++
        ([8, 16, 8, 16, 16, 2048, 512, 32, 8, 16, 16, 32, 16].map fun n : Nat => .word (BitVec.ofNat 16 n))) u)) ∧
    (headReady s t (.readStatus t h) = true → exec (.readStatus t h) s = .next (answered t .readStatus h .ok
      ([.enumeration (modeCode s.mode), .time s.houseTime, .margin s.margin, .bits s.reportMask] ++
        ((List.finRange 8).map fun v => .enumeration (trunkStateCode (s.receivers.get v).state)) ++
        [.word (BitVec.ofNat 16 (2048 - s.pool.length)),
          byte ((List.finRange 128).countP fun d => isCommitted (s.active.get d)),
          byte ((List.finRange 128).countP fun d => (s.switching.get d).cut.inProgress),
          byte ((List.finRange 32).countP fun k => decide (0 < (s.salvos.get k).outstanding))]) u)) ∧
    (headReady s t (.readSource t h b) = true →
      (128 ≤ b.toNat → exec (.readSource t h b) s = .next (answered t .readSource h .range [] u)) ∧
      ∀ n, sourceNumber b = some n →
        let r := s.sources.get n
        exec (.readSource t h b) s = .next (answered t .readSource h .ok
          [.quantity (formatByte r.format), .label r.label, .bits r.tally.byte, .enumeration (sourceStateCode r.state),
            .flag r.lastCapture.isSome, .time (r.lastCapture.getD 0), .flag r.frameWatch.isSome, .time (r.frameWatch.getD 0),
            .flag r.lastSeq.isSome, .word (r.lastSeq.getD 0), byte r.inWindow, byte r.outWindow, .counter r.gaps,
            .signed r.phase, byte r.usage] u)) ∧
    (headReady s t (.readFormat t h b) = true →
      (16 ≤ b.toNat → exec (.readFormat t h b) s = .next (answered t .readFormat h .range [] u)) ∧
      ∀ f, formatNumber b = some f →
        let x := s.formats.get f
        exec (.readFormat t h b) s = .next (answered t .readFormat h .ok
          [.flag x.defined, .period x.pi, .word x.pn, .word x.pd, .word x.wl, .quantity (sourceByte x.cadence), .time x.epoch,
            .frame x.epochFrame, .enumeration (if x.tracking then 1 else 0), .counter x.reanchors] u)) ∧
    (headReady s t (.readSalvo t h b hb) = true →
      (32 ≤ b.toNat → exec (.readSalvo t h b hb) s = .next (answered t .readSalvo h .range [] u)) ∧
      ∀ k, slotOperand b = some k →
        (2 ≤ hb.toNat → exec (.readSalvo t h b hb) s = .next (answered t .readSalvo h .operandError [] u)) ∧
        ∀ low, halfOperand hb = some low →
          let x := s.salvos.get k
          let y := x.tallies
          exec (.readSalvo t h b hb) s = .next (answered t .readSalvo h .ok
            ([.enumeration (if 0 < x.outstanding then 2 else if x.count = 0 then 0 else 1), byte x.count, byte x.outstanding,
              byte y.done, byte y.late, byte y.noSignal, byte y.superseded, byte y.guardFail, byte y.cancelled,
              .flag x.firingTrunk.isSome, .quantity ((x.firingTrunk.map fun v => BitVec.ofNat 8 v.val).getD 0),
              .flag x.firingTag.isSome, .tag (x.firingTag.getD 0)] ++
              (List.finRange 8).map fun i : Fin 8 =>
                .pair (x.positions.get (if low then i.castLE (by decide) else i.natAdd 8))) u))

/-- READ_DEST (R168, R169) in every mode: RANGE and OPERAND_ERROR in their order; otherwise one summary for each destination of the range,
in the aligned group of a wrap or cut at 127 with TRUNCATED, detailed when there is one; no state changed but the spent arm. The bytes of
both summaries are those of R188, with a fixed value where the model chose one: zero in bits of a field that is not held and 255 for a SWAP source not
yet fixed (log 12), and zero in unlisted bits (log 17). -/
def Obligations.ReadDestReturnsRange : Prop :=
  (∀ (t : Trunk) (h : Header) (b n w : Byte) (s : State), headReady s t (.readDest t h b n w) = true →
    let u := headTaken s t
    (128 ≤ b.toNat → exec (.readDest t h b n w) s = .next (answered t .readDest h .range [] u)) ∧
    ∀ d, destOperand b = some d →
      ((n.toNat < 1 ∨ 4 < n.toNat ∨ 5 ≤ w.toNat) →
        exec (.readDest t h b n w) s = .next (answered t .readDest h .operandError [] u)) ∧
      (1 ≤ n.toNat → n.toNat ≤ 4 → w.toNat < 5 → ∃ ds : List DestNo, ∃ truncated : Bool,
        exec (.readDest t h b n w) s = .next (answered t .readDest h .ok
          [.packed ((BitVec.ofNat 8 ds.length ||| if truncated then 0x80 else 0) ::
            ds.flatMap fun e => if ds.length = 1 then detailedSummary s e else compactSummary s e)] u) ∧
        (w = 0 → (∀ i, ds[i]?.map (·.val) = if i < n.toNat ∧ d.val + i < 128 then some (d.val + i) else none) ∧
          truncated = decide (128 < d.val + n.toNat)) ∧
        (w ≠ 0 → let g := 2 ^ (w.toNat + 2)
          truncated = false ∧
            ∀ i, ds[i]?.map (·.val) = if i < n.toNat then some (d.val / g * g + (d.val % g + i) % g) else none))) ∧
  ∀ (s : State) (d : DestNo),
    let x := s.dests.get d
    let w := s.switching.get d
    let active := s.active.get d
    let follow := s.follow.get d
    let byte := fun n : Nat => BitVec.ofNat 8 n
    let bytes := fun (count v : Nat) => (List.range count).map fun i => byte (v / 256 ^ (count - 1 - i))
    let bit := fun (n : Nat) (b : Bool) => if b then 2 ^ n else 0
    let known := fun n : Option SourceNo => match n with | some m => byte m.val | none => 255
    let goes := fun k : Take => match k.source with | .fixed n => known n | .unfixed => 255
    let moded := fun k : Take => match k.mode with | .next => byte 0 | .frames => 1 | .atTime => 2
    let slot := fun k : Take => match k.salvo with | some m => byte m.val | none => 255
    let joining := match w.cut with | .joining _ => true | _ => false
    let shown : Option SourceNo := match w.cut with | .steady m _ => m | .draining old _ _ => some old | .joining _ => none
    let noPicture := joining || w.fill.isSome || match shown with | some n => (s.sources.get n).state != .locked | none => true
    let tally : Nat := match shown with
      | some n => let y := (s.sources.get n).tally; bit 0 y.pgm + bit 1 y.pvw + bit 2 y.iso + bit 3 y.aux
      | none => 0
    let offset := BitVec.ofInt 24 x.offset
    let compact : List Byte :=
      [byte d.val,
        byte ((match x.format with | some f => f.val + 16 | none => 0) +
          match w.cut with | .steady _ _ => 0 | .draining _ _ _ => 32 | .joining _ => 64),
        byte (bit 0 (x.cls == .recorder) + bit 1 x.recording + (match x.protection with | .free => 0 | .locked => 4 | .guarded => 8) +
          bit 4 (match w.cut with | .steady _ .waiting => true | _ => false) + bit 5 follow.isSome +
          bit 6 (active.any fun k => k.partner.isSome) + bit 7 (active.any fun k => k.source == .unfixed)),
        offset.extractLsb' 16 8, offset.extractLsb' 8 8, offset.extractLsb' 0 8,
        known x.current, x.owner, if joining then 254 else known shown,
        byte (bit 0 (x.cls == .recorder && x.recording) + bit 1 (x.protection == .locked) + bit 2 (x.protection == .guarded) +
          bit 3 noPicture + bit 4 active.isSome +
          match active with
          | none => 0
          | some k => (match k.state with | .armed => 32 | .committed => 64 | .following => 96)),
        byte (tally + bit 4 (active.any fun k => k.late) + bit 5 (active.any fun k => k.deferred) +
          bit 6 (active.any fun k => k.overrideUsed) + bit 7 (active.any fun k => k.salvo.isSome)),
        match active with | some k => goes k | none => 0]
    compactSummary s d = compact ∧
      detailedSummary s d = compact ++
        [byte (bit 0 (match w.cut with | .draining _ tail _ => tail | _ => false) + bit 1 w.fill.isSome)] ++
        (match active with
          | none => List.replicate 25 0
          | some k =>
            [match k.guardSource with | none => 0xFE | some n => known n, moded k] ++ bytes 6 k.target.toNat ++ bytes 2 k.frames.toNat ++
              (match k.placed with
                | some p => bytes 6 p.switchPoint.toNat ++ bytes 4 p.frame.toNat
                | none => List.replicate 10 0) ++
              [byte k.trunk.val] ++ bytes 2 k.tag.toNat ++ [slot k, match k.partner with | some e => byte e.val | none => 255]) ++
        (match follow with
          | none => List.replicate 6 0
          | some q => [goes q, moded q, byte q.trunk.val] ++ bytes 2 q.tag.toNat ++ [slot q])

/-- READ_COUNTERS (R172, R173) in every mode: RANGE past group 18; otherwise the group's values before any clear, and with the clear flag
every counter of the part at 0; receive states, error and run counts, captures and every other record stand. -/
def Obligations.ReadCountersClears : Prop :=
  ∀ (t : Trunk) (h : Header) (b : Byte) (clear : Bool) (s : State), headReady s t (.readCounters t h b clear) = true →
    let u := headTaken s t
    (18 < b.toNat → exec (.readCounters t h b clear) s = .next (answered t .readCounters h .range [] u)) ∧
    (b.toNat ≤ 18 → ∃ fields s₁, exec (.readCounters t h b clear) s = .next (answered t .readCounters h .ok fields s₁) ∧
      (clear = false → s₁ = u) ∧
      (∀ v : Trunk, b.toNat = v.val → let r := s.receivers.get v
        fields = [.counter r.good, .counter r.errored, .counter r.undefStream, .counter (s.contexts.get v).dropped,
          .counter (s.returns.get v).discarded, .enumeration (trunkStateCode r.state), .quantity (BitVec.ofNat 8 r.errors),
          .quantity (BitVec.ofNat 8 r.runCount)]) ∧
      (∀ p : Port, b.toNat = 8 + p.val → let x := s.ports.get p
        fields = [.counter x.sent, .counter x.refused, .counter x.coalesced]) ∧
      (b.toNat = 16 → fields = [.counter s.poolExhausted, .word (BitVec.ofNat 16 (2048 - s.pool.length))]) ∧
      (17 ≤ b.toNat → fields = (List.finRange 8).map fun i : Fin 8 =>
        .counter (s.formats.get (if b.toNat = 17 then i.castLE (by decide) else i.natAdd 8)).reanchors) ∧
      (clear = true → s₁ = { u with
        receivers := s.receivers.map fun r => { r with good := 0, errored := 0, undefStream := 0 }
        contexts := u.contexts.map fun x => { x with dropped := 0 }
        returns := s.returns.map fun x => { x with discarded := 0 }
        ports := s.ports.map fun x => { x with sent := 0, refused := 0, coalesced := 0 }
        formats := s.formats.map fun x => { x with reanchors := 0 }
        sources := s.sources.map fun r => { r with gaps := 0 }
        poolExhausted := 0 }))

/-- COMMAND_DECODE_FAILURE (R159): a cell whose decoding fails spends its trunk's arm, is answered with its code, sub-code and tag as received
and the status, and changes nothing else. -/
def Obligations.DecodeFailureOnlyAnswers : Prop :=
  ∀ (t : Trunk) (c : Cell) (code sub : Byte) (tag : Tag) (st : Status) (s : State),
    (s.contexts.get t).fifo.head? = some c → decodeCommand t c = .commandDecodeFailure t code sub tag st →
    (s.returns.get t).replies.length < 16 →
    exec (.commandDecodeFailure t code sub tag st) s =
        .next (queueReply t { code := code, sub := sub, tag := tag, status := st, results := [] } (headTaken s t)) ∧
      code = (headerOf c).code ∧ sub = (headerOf c).sub ∧ tag = (headerOf c).tag ∧ (st = .lengthError ∨ st = .codeError)
end

