-- ==== Sys2Proof/Laws/Codec.lean ====
section
/-! SUPPORT. Bytes and numbers (R185): spelling a number and reading it back, and a cell made with its CRC. -/

namespace Sys2Proof

@[simp] theorem toBytes_length (n x : Nat) : (toBytes n x).length = n := by
  induction n with
  | zero => rfl
  | succ n ih => simp [toBytes, ih]

@[simp] theorem fromBytes_nil : fromBytes [] = 0 := rfl

/-- Bytes read after an accumulated number. -/
theorem foldl_fromBytes (bytes : List Byte) (acc : Nat) :
    bytes.foldl (fun acc b => acc * 256 + b.toNat) acc = acc * 256 ^ bytes.length + fromBytes bytes := by
  induction bytes generalizing acc with
  | nil => simp
  | cons b rest ih =>
    have h0 := ih (0 * 256 + b.toNat)
    rw [List.foldl_cons, ih]
    unfold fromBytes at *
    rw [List.foldl_cons, h0, List.length_cons, pow_succ]
    ring

theorem fromBytes_cons (b : Byte) (rest : List Byte) :
    fromBytes (b :: rest) = b.toNat * 256 ^ rest.length + fromBytes rest := by
  have := foldl_fromBytes rest (0 * 256 + b.toNat)
  simpa [fromBytes] using this

theorem fromBytes_append (a b : List Byte) : fromBytes (a ++ b) = fromBytes a * 256 ^ b.length + fromBytes b := by
  simp only [fromBytes, List.foldl_append]
  exact foldl_fromBytes b _

/-- A number spelled in `n` bytes reads back as itself, mod 256^n. -/
theorem fromBytes_toBytes (n x : Nat) : fromBytes (toBytes n x) = x % 256 ^ n := by
  induction n with
  | zero => simp [toBytes, Nat.mod_one]
  | succ n ih =>
    rw [toBytes, fromBytes_cons, ih, toBytes_length]
    have h : (BitVec.ofNat 8 (x / 256 ^ n)).toNat = x / 256 ^ n % 256 := by simp
    rw [h, pow_succ, Nat.mod_mul]
    ring

/-- A `w`-bit number spelled in enough bytes reads back as itself. -/
theorem fromBytes_toBytes_bitVec {w : Nat} (n : Nat) (x : BitVec w) (h : 2 ^ w ≤ 256 ^ n) :
    fromBytes (toBytes n x.toNat) = x.toNat := by
  rw [fromBytes_toBytes]
  exact Nat.mod_eq_of_lt (lt_of_lt_of_le x.isLt h)

/-- A cell made with its CRC carries a matching one (R186). -/
theorem Cell.make_crcMatches (kind marks : Byte) (seq : BitVec 16) (payload : List Byte) :
    (Cell.make kind marks seq payload).crcMatches = true := by
  simp [Cell.make, Cell.crcMatches, Cell.withCrc, Cell.crcOf, Cell.body]

end Sys2Proof
end

