-- ==== Sys2Proof/Laws/Tbl.lean ====
section
/-! SUPPORT. Laws of the tables of records: reading after `set`, `modify`, `map`, `mapIdx` and `fill`, and equality of tables. -/

namespace Sys2Proof

variable {α β : Type} {n : Nat}

/-- Two tables with the same records are equal. -/
theorem Tbl.ext_get {t u : Tbl α n} (h : ∀ i, t.get i = u.get i) : t = u := by
  obtain ⟨r, hr⟩ := t
  obtain ⟨q, hq⟩ := u
  have hrq : r = q := by
    apply List.ext_getElem (hr.trans hq.symm)
    intro i h₁ h₂
    simpa [Tbl.get] using h ⟨i, hr ▸ h₁⟩
  subst hrq
  rfl

@[simp] theorem Tbl.get_fill (a : α) (i : Fin n) : (Tbl.fill n a).get i = a := by simp [Tbl.get, Tbl.fill]

theorem Tbl.get_set (t : Tbl α n) (i j : Fin n) (a : α) : (t.set i a).get j = if i = j then a else t.get j := by
  simp [Tbl.get, Tbl.set, List.getElem_set, Fin.ext_iff]
  rfl

@[simp] theorem Tbl.get_set_self (t : Tbl α n) (i : Fin n) (a : α) : (t.set i a).get i = a := by simp [Tbl.get_set]

theorem Tbl.get_set_ne (t : Tbl α n) {i j : Fin n} (a : α) (h : i ≠ j) : (t.set i a).get j = t.get j := by
  simp [Tbl.get_set, h]

theorem Tbl.get_modify (t : Tbl α n) (i j : Fin n) (f : α → α) :
    (t.modify i f).get j = if i = j then f (t.get j) else t.get j := by
  simp only [Tbl.modify, Tbl.get_set]
  split <;> simp_all

@[simp] theorem Tbl.get_modify_self (t : Tbl α n) (i : Fin n) (f : α → α) : (t.modify i f).get i = f (t.get i) := by
  simp [Tbl.get_modify]

theorem Tbl.get_modify_ne (t : Tbl α n) {i j : Fin n} (f : α → α) (h : i ≠ j) : (t.modify i f).get j = t.get j := by
  simp [Tbl.get_modify, h]

@[simp] theorem Tbl.get_map (t : Tbl α n) (f : α → β) (i : Fin n) : (t.map f).get i = f (t.get i) := by
  simp [Tbl.get, Tbl.map]
  rfl

@[simp] theorem Tbl.get_mapIdx (t : Tbl α n) (f : Fin n → α → β) (i : Fin n) : (t.mapIdx f).get i = f i (t.get i) := by
  simp [Tbl.mapIdx, Tbl.get]
  rfl

@[simp] theorem Tbl.set_get (t : Tbl α n) (i : Fin n) : t.set i (t.get i) = t := by
  apply Tbl.ext_get
  intro j
  rw [Tbl.get_set]
  split <;> simp_all

/-- A table's rows are its records in ascending number. -/
theorem Tbl.rows_eq (t : Tbl α n) : t.rows = (List.finRange n).map t.get := by
  apply List.ext_getElem
  · simp [t.size]
  · intro i h₁ h₂
    simp [Tbl.get]

/-- Some row satisfies `p` exactly when some record does. -/
theorem Tbl.any_rows (t : Tbl α n) (p : α → Bool) : t.rows.any p = true ↔ ∃ i, p (t.get i) = true := by
  simp [Tbl.rows_eq]

/-- The count of the records that satisfy `p`. -/
theorem Tbl.count_eq (t : Tbl α n) (p : α → Bool) : t.count p = (List.finRange n).countP fun i => p (t.get i) := by
  simp only [Tbl.count, Tbl.rows_eq, List.countP_map]
  rfl

/-- No record satisfies `p` exactly when the count is 0. -/
theorem Tbl.count_eq_zero (t : Tbl α n) (p : α → Bool) : t.count p = 0 ↔ ∀ i, p (t.get i) = false := by
  simp [Tbl.count_eq, List.countP_eq_zero]

@[simp] theorem Tbl.length_rows (t : Tbl α n) : t.rows.length = n := t.size

end Sys2Proof
end

