-- ==== Sys2Proof/Laws/State.lean ====
section
/-! SUPPORT. What each record update of the state does, one lemma per field per update, so that no proof unfolds an update. -/

namespace Sys2Proof.Machine

/-! ## updFormat -/

@[simp] theorem State.updFormat_pending (s : State) (f : FormatNo) (g : Format → Format) : (s.updFormat f g).pending = s.pending := rfl
@[simp] theorem State.updFormat_resetLine (s : State) (f : FormatNo) (g : Format → Format) : (s.updFormat f g).resetLine = s.resetLine := rfl
@[simp] theorem State.updFormat_houseTime (s : State) (f : FormatNo) (g : Format → Format) : (s.updFormat f g).houseTime = s.houseTime := rfl
@[simp] theorem State.updFormat_margin (s : State) (f : FormatNo) (g : Format → Format) : (s.updFormat f g).margin = s.margin := rfl
@[simp] theorem State.updFormat_formats (s : State) (f : FormatNo) (g : Format → Format) : (s.updFormat f g).formats = s.formats.modify f g := rfl
@[simp] theorem State.updFormat_sources (s : State) (f : FormatNo) (g : Format → Format) : (s.updFormat f g).sources = s.sources := rfl
@[simp] theorem State.updFormat_dests (s : State) (f : FormatNo) (g : Format → Format) : (s.updFormat f g).dests = s.dests := rfl
@[simp] theorem State.updFormat_arms (s : State) (f : FormatNo) (g : Format → Format) : (s.updFormat f g).arms = s.arms := rfl
@[simp] theorem State.updFormat_active (s : State) (f : FormatNo) (g : Format → Format) : (s.updFormat f g).active = s.active := rfl
@[simp] theorem State.updFormat_follow (s : State) (f : FormatNo) (g : Format → Format) : (s.updFormat f g).follow = s.follow := rfl
@[simp] theorem State.updFormat_switching (s : State) (f : FormatNo) (g : Format → Format) : (s.updFormat f g).switching = s.switching := rfl
@[simp] theorem State.updFormat_salvos (s : State) (f : FormatNo) (g : Format → Format) : (s.updFormat f g).salvos = s.salvos := rfl
@[simp] theorem State.updFormat_pool (s : State) (f : FormatNo) (g : Format → Format) : (s.updFormat f g).pool = s.pool := rfl
@[simp] theorem State.updFormat_poolExhausted (s : State) (f : FormatNo) (g : Format → Format) : (s.updFormat f g).poolExhausted = s.poolExhausted := rfl
@[simp] theorem State.updFormat_ports (s : State) (f : FormatNo) (g : Format → Format) : (s.updFormat f g).ports = s.ports := rfl
@[simp] theorem State.updFormat_receivers (s : State) (f : FormatNo) (g : Format → Format) : (s.updFormat f g).receivers = s.receivers := rfl
@[simp] theorem State.updFormat_contexts (s : State) (f : FormatNo) (g : Format → Format) : (s.updFormat f g).contexts = s.contexts := rfl
@[simp] theorem State.updFormat_returns (s : State) (f : FormatNo) (g : Format → Format) : (s.updFormat f g).returns = s.returns := rfl
@[simp] theorem State.updFormat_mode (s : State) (f : FormatNo) (g : Format → Format) : (s.updFormat f g).mode = s.mode := rfl
@[simp] theorem State.updFormat_reportMask (s : State) (f : FormatNo) (g : Format → Format) : (s.updFormat f g).reportMask = s.reportMask := rfl
@[simp] theorem State.updFormat_dropLinks (s : State) (f : FormatNo) (g : Format → Format) : (s.updFormat f g).dropLinks = s.dropLinks := rfl
@[simp] theorem State.updFormat_returnLinks (s : State) (f : FormatNo) (g : Format → Format) : (s.updFormat f g).returnLinks = s.returnLinks := rfl

/-! ## updSource -/

@[simp] theorem State.updSource_pending (s : State) (n : SourceNo) (g : Source → Source) : (s.updSource n g).pending = s.pending := rfl
@[simp] theorem State.updSource_resetLine (s : State) (n : SourceNo) (g : Source → Source) : (s.updSource n g).resetLine = s.resetLine := rfl
@[simp] theorem State.updSource_houseTime (s : State) (n : SourceNo) (g : Source → Source) : (s.updSource n g).houseTime = s.houseTime := rfl
@[simp] theorem State.updSource_margin (s : State) (n : SourceNo) (g : Source → Source) : (s.updSource n g).margin = s.margin := rfl
@[simp] theorem State.updSource_formats (s : State) (n : SourceNo) (g : Source → Source) : (s.updSource n g).formats = s.formats := rfl
@[simp] theorem State.updSource_sources (s : State) (n : SourceNo) (g : Source → Source) : (s.updSource n g).sources = s.sources.modify n g := rfl
@[simp] theorem State.updSource_dests (s : State) (n : SourceNo) (g : Source → Source) : (s.updSource n g).dests = s.dests := rfl
@[simp] theorem State.updSource_arms (s : State) (n : SourceNo) (g : Source → Source) : (s.updSource n g).arms = s.arms := rfl
@[simp] theorem State.updSource_active (s : State) (n : SourceNo) (g : Source → Source) : (s.updSource n g).active = s.active := rfl
@[simp] theorem State.updSource_follow (s : State) (n : SourceNo) (g : Source → Source) : (s.updSource n g).follow = s.follow := rfl
@[simp] theorem State.updSource_switching (s : State) (n : SourceNo) (g : Source → Source) : (s.updSource n g).switching = s.switching := rfl
@[simp] theorem State.updSource_salvos (s : State) (n : SourceNo) (g : Source → Source) : (s.updSource n g).salvos = s.salvos := rfl
@[simp] theorem State.updSource_pool (s : State) (n : SourceNo) (g : Source → Source) : (s.updSource n g).pool = s.pool := rfl
@[simp] theorem State.updSource_poolExhausted (s : State) (n : SourceNo) (g : Source → Source) : (s.updSource n g).poolExhausted = s.poolExhausted := rfl
@[simp] theorem State.updSource_ports (s : State) (n : SourceNo) (g : Source → Source) : (s.updSource n g).ports = s.ports := rfl
@[simp] theorem State.updSource_receivers (s : State) (n : SourceNo) (g : Source → Source) : (s.updSource n g).receivers = s.receivers := rfl
@[simp] theorem State.updSource_contexts (s : State) (n : SourceNo) (g : Source → Source) : (s.updSource n g).contexts = s.contexts := rfl
@[simp] theorem State.updSource_returns (s : State) (n : SourceNo) (g : Source → Source) : (s.updSource n g).returns = s.returns := rfl
@[simp] theorem State.updSource_mode (s : State) (n : SourceNo) (g : Source → Source) : (s.updSource n g).mode = s.mode := rfl
@[simp] theorem State.updSource_reportMask (s : State) (n : SourceNo) (g : Source → Source) : (s.updSource n g).reportMask = s.reportMask := rfl
@[simp] theorem State.updSource_dropLinks (s : State) (n : SourceNo) (g : Source → Source) : (s.updSource n g).dropLinks = s.dropLinks := rfl
@[simp] theorem State.updSource_returnLinks (s : State) (n : SourceNo) (g : Source → Source) : (s.updSource n g).returnLinks = s.returnLinks := rfl

/-! ## updDest -/

@[simp] theorem State.updDest_pending (s : State) (d : DestNo) (g : Dest → Dest) : (s.updDest d g).pending = s.pending := rfl
@[simp] theorem State.updDest_resetLine (s : State) (d : DestNo) (g : Dest → Dest) : (s.updDest d g).resetLine = s.resetLine := rfl
@[simp] theorem State.updDest_houseTime (s : State) (d : DestNo) (g : Dest → Dest) : (s.updDest d g).houseTime = s.houseTime := rfl
@[simp] theorem State.updDest_margin (s : State) (d : DestNo) (g : Dest → Dest) : (s.updDest d g).margin = s.margin := rfl
@[simp] theorem State.updDest_formats (s : State) (d : DestNo) (g : Dest → Dest) : (s.updDest d g).formats = s.formats := rfl
@[simp] theorem State.updDest_sources (s : State) (d : DestNo) (g : Dest → Dest) : (s.updDest d g).sources = s.sources := rfl
@[simp] theorem State.updDest_dests (s : State) (d : DestNo) (g : Dest → Dest) : (s.updDest d g).dests = s.dests.modify d g := rfl
@[simp] theorem State.updDest_arms (s : State) (d : DestNo) (g : Dest → Dest) : (s.updDest d g).arms = s.arms := rfl
@[simp] theorem State.updDest_active (s : State) (d : DestNo) (g : Dest → Dest) : (s.updDest d g).active = s.active := rfl
@[simp] theorem State.updDest_follow (s : State) (d : DestNo) (g : Dest → Dest) : (s.updDest d g).follow = s.follow := rfl
@[simp] theorem State.updDest_switching (s : State) (d : DestNo) (g : Dest → Dest) : (s.updDest d g).switching = s.switching := rfl
@[simp] theorem State.updDest_salvos (s : State) (d : DestNo) (g : Dest → Dest) : (s.updDest d g).salvos = s.salvos := rfl
@[simp] theorem State.updDest_pool (s : State) (d : DestNo) (g : Dest → Dest) : (s.updDest d g).pool = s.pool := rfl
@[simp] theorem State.updDest_poolExhausted (s : State) (d : DestNo) (g : Dest → Dest) : (s.updDest d g).poolExhausted = s.poolExhausted := rfl
@[simp] theorem State.updDest_ports (s : State) (d : DestNo) (g : Dest → Dest) : (s.updDest d g).ports = s.ports := rfl
@[simp] theorem State.updDest_receivers (s : State) (d : DestNo) (g : Dest → Dest) : (s.updDest d g).receivers = s.receivers := rfl
@[simp] theorem State.updDest_contexts (s : State) (d : DestNo) (g : Dest → Dest) : (s.updDest d g).contexts = s.contexts := rfl
@[simp] theorem State.updDest_returns (s : State) (d : DestNo) (g : Dest → Dest) : (s.updDest d g).returns = s.returns := rfl
@[simp] theorem State.updDest_mode (s : State) (d : DestNo) (g : Dest → Dest) : (s.updDest d g).mode = s.mode := rfl
@[simp] theorem State.updDest_reportMask (s : State) (d : DestNo) (g : Dest → Dest) : (s.updDest d g).reportMask = s.reportMask := rfl
@[simp] theorem State.updDest_dropLinks (s : State) (d : DestNo) (g : Dest → Dest) : (s.updDest d g).dropLinks = s.dropLinks := rfl
@[simp] theorem State.updDest_returnLinks (s : State) (d : DestNo) (g : Dest → Dest) : (s.updDest d g).returnLinks = s.returnLinks := rfl

/-! ## setArm -/

@[simp] theorem State.setArm_pending (s : State) (t : Trunk) (a : Arm) : (s.setArm t a).pending = s.pending := rfl
@[simp] theorem State.setArm_resetLine (s : State) (t : Trunk) (a : Arm) : (s.setArm t a).resetLine = s.resetLine := rfl
@[simp] theorem State.setArm_houseTime (s : State) (t : Trunk) (a : Arm) : (s.setArm t a).houseTime = s.houseTime := rfl
@[simp] theorem State.setArm_margin (s : State) (t : Trunk) (a : Arm) : (s.setArm t a).margin = s.margin := rfl
@[simp] theorem State.setArm_formats (s : State) (t : Trunk) (a : Arm) : (s.setArm t a).formats = s.formats := rfl
@[simp] theorem State.setArm_sources (s : State) (t : Trunk) (a : Arm) : (s.setArm t a).sources = s.sources := rfl
@[simp] theorem State.setArm_dests (s : State) (t : Trunk) (a : Arm) : (s.setArm t a).dests = s.dests := rfl
@[simp] theorem State.setArm_arms (s : State) (t : Trunk) (a : Arm) : (s.setArm t a).arms = s.arms.set t a := rfl
@[simp] theorem State.setArm_active (s : State) (t : Trunk) (a : Arm) : (s.setArm t a).active = s.active := rfl
@[simp] theorem State.setArm_follow (s : State) (t : Trunk) (a : Arm) : (s.setArm t a).follow = s.follow := rfl
@[simp] theorem State.setArm_switching (s : State) (t : Trunk) (a : Arm) : (s.setArm t a).switching = s.switching := rfl
@[simp] theorem State.setArm_salvos (s : State) (t : Trunk) (a : Arm) : (s.setArm t a).salvos = s.salvos := rfl
@[simp] theorem State.setArm_pool (s : State) (t : Trunk) (a : Arm) : (s.setArm t a).pool = s.pool := rfl
@[simp] theorem State.setArm_poolExhausted (s : State) (t : Trunk) (a : Arm) : (s.setArm t a).poolExhausted = s.poolExhausted := rfl
@[simp] theorem State.setArm_ports (s : State) (t : Trunk) (a : Arm) : (s.setArm t a).ports = s.ports := rfl
@[simp] theorem State.setArm_receivers (s : State) (t : Trunk) (a : Arm) : (s.setArm t a).receivers = s.receivers := rfl
@[simp] theorem State.setArm_contexts (s : State) (t : Trunk) (a : Arm) : (s.setArm t a).contexts = s.contexts := rfl
@[simp] theorem State.setArm_returns (s : State) (t : Trunk) (a : Arm) : (s.setArm t a).returns = s.returns := rfl
@[simp] theorem State.setArm_mode (s : State) (t : Trunk) (a : Arm) : (s.setArm t a).mode = s.mode := rfl
@[simp] theorem State.setArm_reportMask (s : State) (t : Trunk) (a : Arm) : (s.setArm t a).reportMask = s.reportMask := rfl
@[simp] theorem State.setArm_dropLinks (s : State) (t : Trunk) (a : Arm) : (s.setArm t a).dropLinks = s.dropLinks := rfl
@[simp] theorem State.setArm_returnLinks (s : State) (t : Trunk) (a : Arm) : (s.setArm t a).returnLinks = s.returnLinks := rfl

/-! ## setActive -/

@[simp] theorem State.setActive_pending (s : State) (d : DestNo) (o : Option Take) : (s.setActive d o).pending = s.pending := rfl
@[simp] theorem State.setActive_resetLine (s : State) (d : DestNo) (o : Option Take) : (s.setActive d o).resetLine = s.resetLine := rfl
@[simp] theorem State.setActive_houseTime (s : State) (d : DestNo) (o : Option Take) : (s.setActive d o).houseTime = s.houseTime := rfl
@[simp] theorem State.setActive_margin (s : State) (d : DestNo) (o : Option Take) : (s.setActive d o).margin = s.margin := rfl
@[simp] theorem State.setActive_formats (s : State) (d : DestNo) (o : Option Take) : (s.setActive d o).formats = s.formats := rfl
@[simp] theorem State.setActive_sources (s : State) (d : DestNo) (o : Option Take) : (s.setActive d o).sources = s.sources := rfl
@[simp] theorem State.setActive_dests (s : State) (d : DestNo) (o : Option Take) : (s.setActive d o).dests = s.dests := rfl
@[simp] theorem State.setActive_arms (s : State) (d : DestNo) (o : Option Take) : (s.setActive d o).arms = s.arms := rfl
@[simp] theorem State.setActive_active (s : State) (d : DestNo) (o : Option Take) : (s.setActive d o).active = s.active.set d o := rfl
@[simp] theorem State.setActive_follow (s : State) (d : DestNo) (o : Option Take) : (s.setActive d o).follow = s.follow := rfl
@[simp] theorem State.setActive_switching (s : State) (d : DestNo) (o : Option Take) : (s.setActive d o).switching = s.switching := rfl
@[simp] theorem State.setActive_salvos (s : State) (d : DestNo) (o : Option Take) : (s.setActive d o).salvos = s.salvos := rfl
@[simp] theorem State.setActive_pool (s : State) (d : DestNo) (o : Option Take) : (s.setActive d o).pool = s.pool := rfl
@[simp] theorem State.setActive_poolExhausted (s : State) (d : DestNo) (o : Option Take) : (s.setActive d o).poolExhausted = s.poolExhausted := rfl
@[simp] theorem State.setActive_ports (s : State) (d : DestNo) (o : Option Take) : (s.setActive d o).ports = s.ports := rfl
@[simp] theorem State.setActive_receivers (s : State) (d : DestNo) (o : Option Take) : (s.setActive d o).receivers = s.receivers := rfl
@[simp] theorem State.setActive_contexts (s : State) (d : DestNo) (o : Option Take) : (s.setActive d o).contexts = s.contexts := rfl
@[simp] theorem State.setActive_returns (s : State) (d : DestNo) (o : Option Take) : (s.setActive d o).returns = s.returns := rfl
@[simp] theorem State.setActive_mode (s : State) (d : DestNo) (o : Option Take) : (s.setActive d o).mode = s.mode := rfl
@[simp] theorem State.setActive_reportMask (s : State) (d : DestNo) (o : Option Take) : (s.setActive d o).reportMask = s.reportMask := rfl
@[simp] theorem State.setActive_dropLinks (s : State) (d : DestNo) (o : Option Take) : (s.setActive d o).dropLinks = s.dropLinks := rfl
@[simp] theorem State.setActive_returnLinks (s : State) (d : DestNo) (o : Option Take) : (s.setActive d o).returnLinks = s.returnLinks := rfl

/-! ## setFollow -/

@[simp] theorem State.setFollow_pending (s : State) (d : DestNo) (o : Option Take) : (s.setFollow d o).pending = s.pending := rfl
@[simp] theorem State.setFollow_resetLine (s : State) (d : DestNo) (o : Option Take) : (s.setFollow d o).resetLine = s.resetLine := rfl
@[simp] theorem State.setFollow_houseTime (s : State) (d : DestNo) (o : Option Take) : (s.setFollow d o).houseTime = s.houseTime := rfl
@[simp] theorem State.setFollow_margin (s : State) (d : DestNo) (o : Option Take) : (s.setFollow d o).margin = s.margin := rfl
@[simp] theorem State.setFollow_formats (s : State) (d : DestNo) (o : Option Take) : (s.setFollow d o).formats = s.formats := rfl
@[simp] theorem State.setFollow_sources (s : State) (d : DestNo) (o : Option Take) : (s.setFollow d o).sources = s.sources := rfl
@[simp] theorem State.setFollow_dests (s : State) (d : DestNo) (o : Option Take) : (s.setFollow d o).dests = s.dests := rfl
@[simp] theorem State.setFollow_arms (s : State) (d : DestNo) (o : Option Take) : (s.setFollow d o).arms = s.arms := rfl
@[simp] theorem State.setFollow_active (s : State) (d : DestNo) (o : Option Take) : (s.setFollow d o).active = s.active := rfl
@[simp] theorem State.setFollow_follow (s : State) (d : DestNo) (o : Option Take) : (s.setFollow d o).follow = s.follow.set d o := rfl
@[simp] theorem State.setFollow_switching (s : State) (d : DestNo) (o : Option Take) : (s.setFollow d o).switching = s.switching := rfl
@[simp] theorem State.setFollow_salvos (s : State) (d : DestNo) (o : Option Take) : (s.setFollow d o).salvos = s.salvos := rfl
@[simp] theorem State.setFollow_pool (s : State) (d : DestNo) (o : Option Take) : (s.setFollow d o).pool = s.pool := rfl
@[simp] theorem State.setFollow_poolExhausted (s : State) (d : DestNo) (o : Option Take) : (s.setFollow d o).poolExhausted = s.poolExhausted := rfl
@[simp] theorem State.setFollow_ports (s : State) (d : DestNo) (o : Option Take) : (s.setFollow d o).ports = s.ports := rfl
@[simp] theorem State.setFollow_receivers (s : State) (d : DestNo) (o : Option Take) : (s.setFollow d o).receivers = s.receivers := rfl
@[simp] theorem State.setFollow_contexts (s : State) (d : DestNo) (o : Option Take) : (s.setFollow d o).contexts = s.contexts := rfl
@[simp] theorem State.setFollow_returns (s : State) (d : DestNo) (o : Option Take) : (s.setFollow d o).returns = s.returns := rfl
@[simp] theorem State.setFollow_mode (s : State) (d : DestNo) (o : Option Take) : (s.setFollow d o).mode = s.mode := rfl
@[simp] theorem State.setFollow_reportMask (s : State) (d : DestNo) (o : Option Take) : (s.setFollow d o).reportMask = s.reportMask := rfl
@[simp] theorem State.setFollow_dropLinks (s : State) (d : DestNo) (o : Option Take) : (s.setFollow d o).dropLinks = s.dropLinks := rfl
@[simp] theorem State.setFollow_returnLinks (s : State) (d : DestNo) (o : Option Take) : (s.setFollow d o).returnLinks = s.returnLinks := rfl

/-! ## updSwitching -/

@[simp] theorem State.updSwitching_pending (s : State) (d : DestNo) (g : Switching → Switching) : (s.updSwitching d g).pending = s.pending := rfl
@[simp] theorem State.updSwitching_resetLine (s : State) (d : DestNo) (g : Switching → Switching) : (s.updSwitching d g).resetLine = s.resetLine := rfl
@[simp] theorem State.updSwitching_houseTime (s : State) (d : DestNo) (g : Switching → Switching) : (s.updSwitching d g).houseTime = s.houseTime := rfl
@[simp] theorem State.updSwitching_margin (s : State) (d : DestNo) (g : Switching → Switching) : (s.updSwitching d g).margin = s.margin := rfl
@[simp] theorem State.updSwitching_formats (s : State) (d : DestNo) (g : Switching → Switching) : (s.updSwitching d g).formats = s.formats := rfl
@[simp] theorem State.updSwitching_sources (s : State) (d : DestNo) (g : Switching → Switching) : (s.updSwitching d g).sources = s.sources := rfl
@[simp] theorem State.updSwitching_dests (s : State) (d : DestNo) (g : Switching → Switching) : (s.updSwitching d g).dests = s.dests := rfl
@[simp] theorem State.updSwitching_arms (s : State) (d : DestNo) (g : Switching → Switching) : (s.updSwitching d g).arms = s.arms := rfl
@[simp] theorem State.updSwitching_active (s : State) (d : DestNo) (g : Switching → Switching) : (s.updSwitching d g).active = s.active := rfl
@[simp] theorem State.updSwitching_follow (s : State) (d : DestNo) (g : Switching → Switching) : (s.updSwitching d g).follow = s.follow := rfl
@[simp] theorem State.updSwitching_switching (s : State) (d : DestNo) (g : Switching → Switching) : (s.updSwitching d g).switching = s.switching.modify d g := rfl
@[simp] theorem State.updSwitching_salvos (s : State) (d : DestNo) (g : Switching → Switching) : (s.updSwitching d g).salvos = s.salvos := rfl
@[simp] theorem State.updSwitching_pool (s : State) (d : DestNo) (g : Switching → Switching) : (s.updSwitching d g).pool = s.pool := rfl
@[simp] theorem State.updSwitching_poolExhausted (s : State) (d : DestNo) (g : Switching → Switching) : (s.updSwitching d g).poolExhausted = s.poolExhausted := rfl
@[simp] theorem State.updSwitching_ports (s : State) (d : DestNo) (g : Switching → Switching) : (s.updSwitching d g).ports = s.ports := rfl
@[simp] theorem State.updSwitching_receivers (s : State) (d : DestNo) (g : Switching → Switching) : (s.updSwitching d g).receivers = s.receivers := rfl
@[simp] theorem State.updSwitching_contexts (s : State) (d : DestNo) (g : Switching → Switching) : (s.updSwitching d g).contexts = s.contexts := rfl
@[simp] theorem State.updSwitching_returns (s : State) (d : DestNo) (g : Switching → Switching) : (s.updSwitching d g).returns = s.returns := rfl
@[simp] theorem State.updSwitching_mode (s : State) (d : DestNo) (g : Switching → Switching) : (s.updSwitching d g).mode = s.mode := rfl
@[simp] theorem State.updSwitching_reportMask (s : State) (d : DestNo) (g : Switching → Switching) : (s.updSwitching d g).reportMask = s.reportMask := rfl
@[simp] theorem State.updSwitching_dropLinks (s : State) (d : DestNo) (g : Switching → Switching) : (s.updSwitching d g).dropLinks = s.dropLinks := rfl
@[simp] theorem State.updSwitching_returnLinks (s : State) (d : DestNo) (g : Switching → Switching) : (s.updSwitching d g).returnLinks = s.returnLinks := rfl

/-! ## updSalvo -/

@[simp] theorem State.updSalvo_pending (s : State) (k : SlotNo) (g : SalvoSlot → SalvoSlot) : (s.updSalvo k g).pending = s.pending := rfl
@[simp] theorem State.updSalvo_resetLine (s : State) (k : SlotNo) (g : SalvoSlot → SalvoSlot) : (s.updSalvo k g).resetLine = s.resetLine := rfl
@[simp] theorem State.updSalvo_houseTime (s : State) (k : SlotNo) (g : SalvoSlot → SalvoSlot) : (s.updSalvo k g).houseTime = s.houseTime := rfl
@[simp] theorem State.updSalvo_margin (s : State) (k : SlotNo) (g : SalvoSlot → SalvoSlot) : (s.updSalvo k g).margin = s.margin := rfl
@[simp] theorem State.updSalvo_formats (s : State) (k : SlotNo) (g : SalvoSlot → SalvoSlot) : (s.updSalvo k g).formats = s.formats := rfl
@[simp] theorem State.updSalvo_sources (s : State) (k : SlotNo) (g : SalvoSlot → SalvoSlot) : (s.updSalvo k g).sources = s.sources := rfl
@[simp] theorem State.updSalvo_dests (s : State) (k : SlotNo) (g : SalvoSlot → SalvoSlot) : (s.updSalvo k g).dests = s.dests := rfl
@[simp] theorem State.updSalvo_arms (s : State) (k : SlotNo) (g : SalvoSlot → SalvoSlot) : (s.updSalvo k g).arms = s.arms := rfl
@[simp] theorem State.updSalvo_active (s : State) (k : SlotNo) (g : SalvoSlot → SalvoSlot) : (s.updSalvo k g).active = s.active := rfl
@[simp] theorem State.updSalvo_follow (s : State) (k : SlotNo) (g : SalvoSlot → SalvoSlot) : (s.updSalvo k g).follow = s.follow := rfl
@[simp] theorem State.updSalvo_switching (s : State) (k : SlotNo) (g : SalvoSlot → SalvoSlot) : (s.updSalvo k g).switching = s.switching := rfl
@[simp] theorem State.updSalvo_salvos (s : State) (k : SlotNo) (g : SalvoSlot → SalvoSlot) : (s.updSalvo k g).salvos = s.salvos.modify k g := rfl
@[simp] theorem State.updSalvo_pool (s : State) (k : SlotNo) (g : SalvoSlot → SalvoSlot) : (s.updSalvo k g).pool = s.pool := rfl
@[simp] theorem State.updSalvo_poolExhausted (s : State) (k : SlotNo) (g : SalvoSlot → SalvoSlot) : (s.updSalvo k g).poolExhausted = s.poolExhausted := rfl
@[simp] theorem State.updSalvo_ports (s : State) (k : SlotNo) (g : SalvoSlot → SalvoSlot) : (s.updSalvo k g).ports = s.ports := rfl
@[simp] theorem State.updSalvo_receivers (s : State) (k : SlotNo) (g : SalvoSlot → SalvoSlot) : (s.updSalvo k g).receivers = s.receivers := rfl
@[simp] theorem State.updSalvo_contexts (s : State) (k : SlotNo) (g : SalvoSlot → SalvoSlot) : (s.updSalvo k g).contexts = s.contexts := rfl
@[simp] theorem State.updSalvo_returns (s : State) (k : SlotNo) (g : SalvoSlot → SalvoSlot) : (s.updSalvo k g).returns = s.returns := rfl
@[simp] theorem State.updSalvo_mode (s : State) (k : SlotNo) (g : SalvoSlot → SalvoSlot) : (s.updSalvo k g).mode = s.mode := rfl
@[simp] theorem State.updSalvo_reportMask (s : State) (k : SlotNo) (g : SalvoSlot → SalvoSlot) : (s.updSalvo k g).reportMask = s.reportMask := rfl
@[simp] theorem State.updSalvo_dropLinks (s : State) (k : SlotNo) (g : SalvoSlot → SalvoSlot) : (s.updSalvo k g).dropLinks = s.dropLinks := rfl
@[simp] theorem State.updSalvo_returnLinks (s : State) (k : SlotNo) (g : SalvoSlot → SalvoSlot) : (s.updSalvo k g).returnLinks = s.returnLinks := rfl

/-! ## updPort -/

@[simp] theorem State.updPort_pending (s : State) (p : Port) (g : DropPort → DropPort) : (s.updPort p g).pending = s.pending := rfl
@[simp] theorem State.updPort_resetLine (s : State) (p : Port) (g : DropPort → DropPort) : (s.updPort p g).resetLine = s.resetLine := rfl
@[simp] theorem State.updPort_houseTime (s : State) (p : Port) (g : DropPort → DropPort) : (s.updPort p g).houseTime = s.houseTime := rfl
@[simp] theorem State.updPort_margin (s : State) (p : Port) (g : DropPort → DropPort) : (s.updPort p g).margin = s.margin := rfl
@[simp] theorem State.updPort_formats (s : State) (p : Port) (g : DropPort → DropPort) : (s.updPort p g).formats = s.formats := rfl
@[simp] theorem State.updPort_sources (s : State) (p : Port) (g : DropPort → DropPort) : (s.updPort p g).sources = s.sources := rfl
@[simp] theorem State.updPort_dests (s : State) (p : Port) (g : DropPort → DropPort) : (s.updPort p g).dests = s.dests := rfl
@[simp] theorem State.updPort_arms (s : State) (p : Port) (g : DropPort → DropPort) : (s.updPort p g).arms = s.arms := rfl
@[simp] theorem State.updPort_active (s : State) (p : Port) (g : DropPort → DropPort) : (s.updPort p g).active = s.active := rfl
@[simp] theorem State.updPort_follow (s : State) (p : Port) (g : DropPort → DropPort) : (s.updPort p g).follow = s.follow := rfl
@[simp] theorem State.updPort_switching (s : State) (p : Port) (g : DropPort → DropPort) : (s.updPort p g).switching = s.switching := rfl
@[simp] theorem State.updPort_salvos (s : State) (p : Port) (g : DropPort → DropPort) : (s.updPort p g).salvos = s.salvos := rfl
@[simp] theorem State.updPort_pool (s : State) (p : Port) (g : DropPort → DropPort) : (s.updPort p g).pool = s.pool := rfl
@[simp] theorem State.updPort_poolExhausted (s : State) (p : Port) (g : DropPort → DropPort) : (s.updPort p g).poolExhausted = s.poolExhausted := rfl
@[simp] theorem State.updPort_ports (s : State) (p : Port) (g : DropPort → DropPort) : (s.updPort p g).ports = s.ports.modify p g := rfl
@[simp] theorem State.updPort_receivers (s : State) (p : Port) (g : DropPort → DropPort) : (s.updPort p g).receivers = s.receivers := rfl
@[simp] theorem State.updPort_contexts (s : State) (p : Port) (g : DropPort → DropPort) : (s.updPort p g).contexts = s.contexts := rfl
@[simp] theorem State.updPort_returns (s : State) (p : Port) (g : DropPort → DropPort) : (s.updPort p g).returns = s.returns := rfl
@[simp] theorem State.updPort_mode (s : State) (p : Port) (g : DropPort → DropPort) : (s.updPort p g).mode = s.mode := rfl
@[simp] theorem State.updPort_reportMask (s : State) (p : Port) (g : DropPort → DropPort) : (s.updPort p g).reportMask = s.reportMask := rfl
@[simp] theorem State.updPort_dropLinks (s : State) (p : Port) (g : DropPort → DropPort) : (s.updPort p g).dropLinks = s.dropLinks := rfl
@[simp] theorem State.updPort_returnLinks (s : State) (p : Port) (g : DropPort → DropPort) : (s.updPort p g).returnLinks = s.returnLinks := rfl

/-! ## updReceiver -/

@[simp] theorem State.updReceiver_pending (s : State) (t : Trunk) (g : Receiver → Receiver) : (s.updReceiver t g).pending = s.pending := rfl
@[simp] theorem State.updReceiver_resetLine (s : State) (t : Trunk) (g : Receiver → Receiver) : (s.updReceiver t g).resetLine = s.resetLine := rfl
@[simp] theorem State.updReceiver_houseTime (s : State) (t : Trunk) (g : Receiver → Receiver) : (s.updReceiver t g).houseTime = s.houseTime := rfl
@[simp] theorem State.updReceiver_margin (s : State) (t : Trunk) (g : Receiver → Receiver) : (s.updReceiver t g).margin = s.margin := rfl
@[simp] theorem State.updReceiver_formats (s : State) (t : Trunk) (g : Receiver → Receiver) : (s.updReceiver t g).formats = s.formats := rfl
@[simp] theorem State.updReceiver_sources (s : State) (t : Trunk) (g : Receiver → Receiver) : (s.updReceiver t g).sources = s.sources := rfl
@[simp] theorem State.updReceiver_dests (s : State) (t : Trunk) (g : Receiver → Receiver) : (s.updReceiver t g).dests = s.dests := rfl
@[simp] theorem State.updReceiver_arms (s : State) (t : Trunk) (g : Receiver → Receiver) : (s.updReceiver t g).arms = s.arms := rfl
@[simp] theorem State.updReceiver_active (s : State) (t : Trunk) (g : Receiver → Receiver) : (s.updReceiver t g).active = s.active := rfl
@[simp] theorem State.updReceiver_follow (s : State) (t : Trunk) (g : Receiver → Receiver) : (s.updReceiver t g).follow = s.follow := rfl
@[simp] theorem State.updReceiver_switching (s : State) (t : Trunk) (g : Receiver → Receiver) : (s.updReceiver t g).switching = s.switching := rfl
@[simp] theorem State.updReceiver_salvos (s : State) (t : Trunk) (g : Receiver → Receiver) : (s.updReceiver t g).salvos = s.salvos := rfl
@[simp] theorem State.updReceiver_pool (s : State) (t : Trunk) (g : Receiver → Receiver) : (s.updReceiver t g).pool = s.pool := rfl
@[simp] theorem State.updReceiver_poolExhausted (s : State) (t : Trunk) (g : Receiver → Receiver) : (s.updReceiver t g).poolExhausted = s.poolExhausted := rfl
@[simp] theorem State.updReceiver_ports (s : State) (t : Trunk) (g : Receiver → Receiver) : (s.updReceiver t g).ports = s.ports := rfl
@[simp] theorem State.updReceiver_receivers (s : State) (t : Trunk) (g : Receiver → Receiver) : (s.updReceiver t g).receivers = s.receivers.modify t g := rfl
@[simp] theorem State.updReceiver_contexts (s : State) (t : Trunk) (g : Receiver → Receiver) : (s.updReceiver t g).contexts = s.contexts := rfl
@[simp] theorem State.updReceiver_returns (s : State) (t : Trunk) (g : Receiver → Receiver) : (s.updReceiver t g).returns = s.returns := rfl
@[simp] theorem State.updReceiver_mode (s : State) (t : Trunk) (g : Receiver → Receiver) : (s.updReceiver t g).mode = s.mode := rfl
@[simp] theorem State.updReceiver_reportMask (s : State) (t : Trunk) (g : Receiver → Receiver) : (s.updReceiver t g).reportMask = s.reportMask := rfl
@[simp] theorem State.updReceiver_dropLinks (s : State) (t : Trunk) (g : Receiver → Receiver) : (s.updReceiver t g).dropLinks = s.dropLinks := rfl
@[simp] theorem State.updReceiver_returnLinks (s : State) (t : Trunk) (g : Receiver → Receiver) : (s.updReceiver t g).returnLinks = s.returnLinks := rfl

/-! ## updContext -/

@[simp] theorem State.updContext_pending (s : State) (t : Trunk) (g : CommandContext → CommandContext) : (s.updContext t g).pending = s.pending := rfl
@[simp] theorem State.updContext_resetLine (s : State) (t : Trunk) (g : CommandContext → CommandContext) : (s.updContext t g).resetLine = s.resetLine := rfl
@[simp] theorem State.updContext_houseTime (s : State) (t : Trunk) (g : CommandContext → CommandContext) : (s.updContext t g).houseTime = s.houseTime := rfl
@[simp] theorem State.updContext_margin (s : State) (t : Trunk) (g : CommandContext → CommandContext) : (s.updContext t g).margin = s.margin := rfl
@[simp] theorem State.updContext_formats (s : State) (t : Trunk) (g : CommandContext → CommandContext) : (s.updContext t g).formats = s.formats := rfl
@[simp] theorem State.updContext_sources (s : State) (t : Trunk) (g : CommandContext → CommandContext) : (s.updContext t g).sources = s.sources := rfl
@[simp] theorem State.updContext_dests (s : State) (t : Trunk) (g : CommandContext → CommandContext) : (s.updContext t g).dests = s.dests := rfl
@[simp] theorem State.updContext_arms (s : State) (t : Trunk) (g : CommandContext → CommandContext) : (s.updContext t g).arms = s.arms := rfl
@[simp] theorem State.updContext_active (s : State) (t : Trunk) (g : CommandContext → CommandContext) : (s.updContext t g).active = s.active := rfl
@[simp] theorem State.updContext_follow (s : State) (t : Trunk) (g : CommandContext → CommandContext) : (s.updContext t g).follow = s.follow := rfl
@[simp] theorem State.updContext_switching (s : State) (t : Trunk) (g : CommandContext → CommandContext) : (s.updContext t g).switching = s.switching := rfl
@[simp] theorem State.updContext_salvos (s : State) (t : Trunk) (g : CommandContext → CommandContext) : (s.updContext t g).salvos = s.salvos := rfl
@[simp] theorem State.updContext_pool (s : State) (t : Trunk) (g : CommandContext → CommandContext) : (s.updContext t g).pool = s.pool := rfl
@[simp] theorem State.updContext_poolExhausted (s : State) (t : Trunk) (g : CommandContext → CommandContext) : (s.updContext t g).poolExhausted = s.poolExhausted := rfl
@[simp] theorem State.updContext_ports (s : State) (t : Trunk) (g : CommandContext → CommandContext) : (s.updContext t g).ports = s.ports := rfl
@[simp] theorem State.updContext_receivers (s : State) (t : Trunk) (g : CommandContext → CommandContext) : (s.updContext t g).receivers = s.receivers := rfl
@[simp] theorem State.updContext_contexts (s : State) (t : Trunk) (g : CommandContext → CommandContext) : (s.updContext t g).contexts = s.contexts.modify t g := rfl
@[simp] theorem State.updContext_returns (s : State) (t : Trunk) (g : CommandContext → CommandContext) : (s.updContext t g).returns = s.returns := rfl
@[simp] theorem State.updContext_mode (s : State) (t : Trunk) (g : CommandContext → CommandContext) : (s.updContext t g).mode = s.mode := rfl
@[simp] theorem State.updContext_reportMask (s : State) (t : Trunk) (g : CommandContext → CommandContext) : (s.updContext t g).reportMask = s.reportMask := rfl
@[simp] theorem State.updContext_dropLinks (s : State) (t : Trunk) (g : CommandContext → CommandContext) : (s.updContext t g).dropLinks = s.dropLinks := rfl
@[simp] theorem State.updContext_returnLinks (s : State) (t : Trunk) (g : CommandContext → CommandContext) : (s.updContext t g).returnLinks = s.returnLinks := rfl

/-! ## updReturn -/

@[simp] theorem State.updReturn_pending (s : State) (t : Trunk) (g : ReturnTx → ReturnTx) : (s.updReturn t g).pending = s.pending := rfl
@[simp] theorem State.updReturn_resetLine (s : State) (t : Trunk) (g : ReturnTx → ReturnTx) : (s.updReturn t g).resetLine = s.resetLine := rfl
@[simp] theorem State.updReturn_houseTime (s : State) (t : Trunk) (g : ReturnTx → ReturnTx) : (s.updReturn t g).houseTime = s.houseTime := rfl
@[simp] theorem State.updReturn_margin (s : State) (t : Trunk) (g : ReturnTx → ReturnTx) : (s.updReturn t g).margin = s.margin := rfl
@[simp] theorem State.updReturn_formats (s : State) (t : Trunk) (g : ReturnTx → ReturnTx) : (s.updReturn t g).formats = s.formats := rfl
@[simp] theorem State.updReturn_sources (s : State) (t : Trunk) (g : ReturnTx → ReturnTx) : (s.updReturn t g).sources = s.sources := rfl
@[simp] theorem State.updReturn_dests (s : State) (t : Trunk) (g : ReturnTx → ReturnTx) : (s.updReturn t g).dests = s.dests := rfl
@[simp] theorem State.updReturn_arms (s : State) (t : Trunk) (g : ReturnTx → ReturnTx) : (s.updReturn t g).arms = s.arms := rfl
@[simp] theorem State.updReturn_active (s : State) (t : Trunk) (g : ReturnTx → ReturnTx) : (s.updReturn t g).active = s.active := rfl
@[simp] theorem State.updReturn_follow (s : State) (t : Trunk) (g : ReturnTx → ReturnTx) : (s.updReturn t g).follow = s.follow := rfl
@[simp] theorem State.updReturn_switching (s : State) (t : Trunk) (g : ReturnTx → ReturnTx) : (s.updReturn t g).switching = s.switching := rfl
@[simp] theorem State.updReturn_salvos (s : State) (t : Trunk) (g : ReturnTx → ReturnTx) : (s.updReturn t g).salvos = s.salvos := rfl
@[simp] theorem State.updReturn_pool (s : State) (t : Trunk) (g : ReturnTx → ReturnTx) : (s.updReturn t g).pool = s.pool := rfl
@[simp] theorem State.updReturn_poolExhausted (s : State) (t : Trunk) (g : ReturnTx → ReturnTx) : (s.updReturn t g).poolExhausted = s.poolExhausted := rfl
@[simp] theorem State.updReturn_ports (s : State) (t : Trunk) (g : ReturnTx → ReturnTx) : (s.updReturn t g).ports = s.ports := rfl
@[simp] theorem State.updReturn_receivers (s : State) (t : Trunk) (g : ReturnTx → ReturnTx) : (s.updReturn t g).receivers = s.receivers := rfl
@[simp] theorem State.updReturn_contexts (s : State) (t : Trunk) (g : ReturnTx → ReturnTx) : (s.updReturn t g).contexts = s.contexts := rfl
@[simp] theorem State.updReturn_returns (s : State) (t : Trunk) (g : ReturnTx → ReturnTx) : (s.updReturn t g).returns = s.returns.modify t g := rfl
@[simp] theorem State.updReturn_mode (s : State) (t : Trunk) (g : ReturnTx → ReturnTx) : (s.updReturn t g).mode = s.mode := rfl
@[simp] theorem State.updReturn_reportMask (s : State) (t : Trunk) (g : ReturnTx → ReturnTx) : (s.updReturn t g).reportMask = s.reportMask := rfl
@[simp] theorem State.updReturn_dropLinks (s : State) (t : Trunk) (g : ReturnTx → ReturnTx) : (s.updReturn t g).dropLinks = s.dropLinks := rfl
@[simp] theorem State.updReturn_returnLinks (s : State) (t : Trunk) (g : ReturnTx → ReturnTx) : (s.updReturn t g).returnLinks = s.returnLinks := rfl

end Sys2Proof.Machine
end

