-- ==== Sys2Proof/Laws/Frames.lean ====
section
/-! SUPPORT. What each shared operation leaves unchanged, field by field: the frames of the operations of Machine/Ops.lean. -/

namespace Sys2Proof.Machine

/-- A fold whose every step keeps `P` keeps it. -/
theorem foldl_keeps {σ α γ : Type} (f : σ → α → σ) (P : σ → γ) (h : ∀ s a, P (f s a) = P s) (l : List α) (s : σ) :
    P (l.foldl f s) = P s := by
  induction l generalizing s with
  | nil => rfl
  | cons a l ih => rw [List.foldl_cons, ih, h]

/-! ## Return queues -/

@[simp] theorem queueReport_frame (t : Trunk) (r : Report) (s : State) :
    (queueReport t r s).pending = s.pending ∧ (queueReport t r s).resetLine = s.resetLine ∧ (queueReport t r s).houseTime
    = s.houseTime ∧ (queueReport t r s).margin = s.margin ∧ (queueReport t r s).formats = s.formats ∧ (queueReport t r
    s).sources = s.sources ∧ (queueReport t r s).dests = s.dests ∧ (queueReport t r s).arms = s.arms ∧ (queueReport t r
    s).active = s.active ∧ (queueReport t r s).follow = s.follow ∧ (queueReport t r s).switching = s.switching ∧
    (queueReport t r s).salvos = s.salvos ∧ (queueReport t r s).pool = s.pool ∧ (queueReport t r s).poolExhausted =
    s.poolExhausted ∧ (queueReport t r s).ports = s.ports ∧ (queueReport t r s).receivers = s.receivers ∧ (queueReport t r
    s).contexts = s.contexts ∧ (queueReport t r s).mode = s.mode ∧ (queueReport t r s).reportMask = s.reportMask ∧
    (queueReport t r s).dropLinks = s.dropLinks ∧ (queueReport t r s).returnLinks = s.returnLinks := by
  simp [queueReport]

@[simp] theorem queueMasked_frame (r : Report) (s : State) :
    (queueMasked r s).pending = s.pending ∧ (queueMasked r s).resetLine = s.resetLine ∧ (queueMasked r s).houseTime =
    s.houseTime ∧ (queueMasked r s).margin = s.margin ∧ (queueMasked r s).formats = s.formats ∧ (queueMasked r s).sources
    = s.sources ∧ (queueMasked r s).dests = s.dests ∧ (queueMasked r s).arms = s.arms ∧ (queueMasked r s).active =
    s.active ∧ (queueMasked r s).follow = s.follow ∧ (queueMasked r s).switching = s.switching ∧ (queueMasked r s).salvos
    = s.salvos ∧ (queueMasked r s).pool = s.pool ∧ (queueMasked r s).poolExhausted = s.poolExhausted ∧ (queueMasked r
    s).ports = s.ports ∧ (queueMasked r s).receivers = s.receivers ∧ (queueMasked r s).contexts = s.contexts ∧
    (queueMasked r s).mode = s.mode ∧ (queueMasked r s).reportMask = s.reportMask ∧ (queueMasked r s).dropLinks =
    s.dropLinks ∧ (queueMasked r s).returnLinks = s.returnLinks := by
  simp [queueMasked]

@[simp] theorem queueReply_frame (t : Trunk) (r : Reply) (s : State) :
    (queueReply t r s).pending = s.pending ∧ (queueReply t r s).resetLine = s.resetLine ∧ (queueReply t r s).houseTime =
    s.houseTime ∧ (queueReply t r s).margin = s.margin ∧ (queueReply t r s).formats = s.formats ∧ (queueReply t r
    s).sources = s.sources ∧ (queueReply t r s).dests = s.dests ∧ (queueReply t r s).arms = s.arms ∧ (queueReply t r
    s).active = s.active ∧ (queueReply t r s).follow = s.follow ∧ (queueReply t r s).switching = s.switching ∧ (queueReply
    t r s).salvos = s.salvos ∧ (queueReply t r s).pool = s.pool ∧ (queueReply t r s).poolExhausted = s.poolExhausted ∧
    (queueReply t r s).ports = s.ports ∧ (queueReply t r s).receivers = s.receivers ∧ (queueReply t r s).contexts =
    s.contexts ∧ (queueReply t r s).mode = s.mode ∧ (queueReply t r s).reportMask = s.reportMask ∧ (queueReply t r
    s).dropLinks = s.dropLinks ∧ (queueReply t r s).returnLinks = s.returnLinks := by
  simp only [queueReply]
  (repeat' split) <;> simp

/-! ## Service postings and fill timers -/

@[simp] theorem requestDisplay_frame (d : DestNo) (s : State) :
    (requestDisplay d s).pending = s.pending ∧ (requestDisplay d s).resetLine = s.resetLine ∧ (requestDisplay d
    s).houseTime = s.houseTime ∧ (requestDisplay d s).margin = s.margin ∧ (requestDisplay d s).formats = s.formats ∧
    (requestDisplay d s).sources = s.sources ∧ (requestDisplay d s).dests = s.dests ∧ (requestDisplay d s).arms = s.arms ∧
    (requestDisplay d s).active = s.active ∧ (requestDisplay d s).follow = s.follow ∧ (requestDisplay d s).switching =
    s.switching ∧ (requestDisplay d s).salvos = s.salvos ∧ (requestDisplay d s).pool = s.pool ∧ (requestDisplay d
    s).poolExhausted = s.poolExhausted ∧ (requestDisplay d s).receivers = s.receivers ∧ (requestDisplay d s).contexts =
    s.contexts ∧ (requestDisplay d s).returns = s.returns ∧ (requestDisplay d s).mode = s.mode ∧ (requestDisplay d
    s).reportMask = s.reportMask ∧ (requestDisplay d s).dropLinks = s.dropLinks ∧ (requestDisplay d s).returnLinks =
    s.returnLinks := by
  simp only [requestDisplay]
  (repeat' split) <;> simp

@[simp] theorem requestDisplays_frame (ds : List DestNo) (s : State) :
    (requestDisplays ds s).pending = s.pending ∧ (requestDisplays ds s).resetLine = s.resetLine ∧ (requestDisplays ds
    s).houseTime = s.houseTime ∧ (requestDisplays ds s).margin = s.margin ∧ (requestDisplays ds s).formats = s.formats ∧
    (requestDisplays ds s).sources = s.sources ∧ (requestDisplays ds s).dests = s.dests ∧ (requestDisplays ds s).arms =
    s.arms ∧ (requestDisplays ds s).active = s.active ∧ (requestDisplays ds s).follow = s.follow ∧ (requestDisplays ds
    s).switching = s.switching ∧ (requestDisplays ds s).salvos = s.salvos ∧ (requestDisplays ds s).pool = s.pool ∧
    (requestDisplays ds s).poolExhausted = s.poolExhausted ∧ (requestDisplays ds s).receivers = s.receivers ∧
    (requestDisplays ds s).contexts = s.contexts ∧ (requestDisplays ds s).returns = s.returns ∧ (requestDisplays ds
    s).mode = s.mode ∧ (requestDisplays ds s).reportMask = s.reportMask ∧ (requestDisplays ds s).dropLinks = s.dropLinks ∧
    (requestDisplays ds s).returnLinks = s.returnLinks := by
  unfold requestDisplays
  exact ⟨foldl_keeps _ State.pending (fun s a => by simp) _ s,
    foldl_keeps _ State.resetLine (fun s a => by simp) _ s,
    foldl_keeps _ State.houseTime (fun s a => by simp) _ s,
    foldl_keeps _ State.margin (fun s a => by simp) _ s,
    foldl_keeps _ State.formats (fun s a => by simp) _ s,
    foldl_keeps _ State.sources (fun s a => by simp) _ s,
    foldl_keeps _ State.dests (fun s a => by simp) _ s,
    foldl_keeps _ State.arms (fun s a => by simp) _ s,
    foldl_keeps _ State.active (fun s a => by simp) _ s,
    foldl_keeps _ State.follow (fun s a => by simp) _ s,
    foldl_keeps _ State.switching (fun s a => by simp) _ s,
    foldl_keeps _ State.salvos (fun s a => by simp) _ s,
    foldl_keeps _ State.pool (fun s a => by simp) _ s,
    foldl_keeps _ State.poolExhausted (fun s a => by simp) _ s,
    foldl_keeps _ State.receivers (fun s a => by simp) _ s,
    foldl_keeps _ State.contexts (fun s a => by simp) _ s,
    foldl_keeps _ State.returns (fun s a => by simp) _ s,
    foldl_keeps _ State.mode (fun s a => by simp) _ s,
    foldl_keeps _ State.reportMask (fun s a => by simp) _ s,
    foldl_keeps _ State.dropLinks (fun s a => by simp) _ s,
    foldl_keeps _ State.returnLinks (fun s a => by simp) _ s⟩

@[simp] theorem displayVacated_frame (b : State) (s : State) :
    (displayVacated b s).pending = s.pending ∧ (displayVacated b s).resetLine = s.resetLine ∧ (displayVacated b
    s).houseTime = s.houseTime ∧ (displayVacated b s).margin = s.margin ∧ (displayVacated b s).formats = s.formats ∧
    (displayVacated b s).sources = s.sources ∧ (displayVacated b s).dests = s.dests ∧ (displayVacated b s).arms = s.arms ∧
    (displayVacated b s).active = s.active ∧ (displayVacated b s).follow = s.follow ∧ (displayVacated b s).switching =
    s.switching ∧ (displayVacated b s).salvos = s.salvos ∧ (displayVacated b s).pool = s.pool ∧ (displayVacated b
    s).poolExhausted = s.poolExhausted ∧ (displayVacated b s).receivers = s.receivers ∧ (displayVacated b s).contexts =
    s.contexts ∧ (displayVacated b s).returns = s.returns ∧ (displayVacated b s).mode = s.mode ∧ (displayVacated b
    s).reportMask = s.reportMask ∧ (displayVacated b s).dropLinks = s.dropLinks ∧ (displayVacated b s).returnLinks =
    s.returnLinks := by
  simp [displayVacated]

@[simp] theorem postFill_frame (d : DestNo) (s : State) :
    (postFill d s).pending = s.pending ∧ (postFill d s).resetLine = s.resetLine ∧ (postFill d s).houseTime = s.houseTime ∧
    (postFill d s).margin = s.margin ∧ (postFill d s).formats = s.formats ∧ (postFill d s).sources = s.sources ∧ (postFill
    d s).dests = s.dests ∧ (postFill d s).arms = s.arms ∧ (postFill d s).active = s.active ∧ (postFill d s).follow =
    s.follow ∧ (postFill d s).switching = s.switching ∧ (postFill d s).salvos = s.salvos ∧ (postFill d s).pool = s.pool ∧
    (postFill d s).poolExhausted = s.poolExhausted ∧ (postFill d s).receivers = s.receivers ∧ (postFill d s).contexts =
    s.contexts ∧ (postFill d s).returns = s.returns ∧ (postFill d s).mode = s.mode ∧ (postFill d s).reportMask =
    s.reportMask ∧ (postFill d s).dropLinks = s.dropLinks ∧ (postFill d s).returnLinks = s.returnLinks := by
  simp [postFill]

@[simp] theorem armFill_frame (d : DestNo) (x : Time) (s : State) :
    (armFill d x s).pending = s.pending ∧ (armFill d x s).resetLine = s.resetLine ∧ (armFill d x s).houseTime =
    s.houseTime ∧ (armFill d x s).margin = s.margin ∧ (armFill d x s).formats = s.formats ∧ (armFill d x s).sources =
    s.sources ∧ (armFill d x s).dests = s.dests ∧ (armFill d x s).arms = s.arms ∧ (armFill d x s).active = s.active ∧
    (armFill d x s).follow = s.follow ∧ (armFill d x s).salvos = s.salvos ∧ (armFill d x s).pool = s.pool ∧ (armFill d x
    s).poolExhausted = s.poolExhausted ∧ (armFill d x s).ports = s.ports ∧ (armFill d x s).receivers = s.receivers ∧
    (armFill d x s).contexts = s.contexts ∧ (armFill d x s).returns = s.returns ∧ (armFill d x s).mode = s.mode ∧ (armFill
    d x s).reportMask = s.reportMask ∧ (armFill d x s).dropLinks = s.dropLinks ∧ (armFill d x s).returnLinks =
    s.returnLinks := by
  simp only [armFill]
  (repeat' split) <;> simp

@[simp] theorem armFillNext_frame (d : DestNo) (s : State) :
    (armFillNext d s).pending = s.pending ∧ (armFillNext d s).resetLine = s.resetLine ∧ (armFillNext d s).houseTime =
    s.houseTime ∧ (armFillNext d s).margin = s.margin ∧ (armFillNext d s).formats = s.formats ∧ (armFillNext d s).sources
    = s.sources ∧ (armFillNext d s).dests = s.dests ∧ (armFillNext d s).arms = s.arms ∧ (armFillNext d s).active =
    s.active ∧ (armFillNext d s).follow = s.follow ∧ (armFillNext d s).salvos = s.salvos ∧ (armFillNext d s).pool = s.pool
    ∧ (armFillNext d s).poolExhausted = s.poolExhausted ∧ (armFillNext d s).ports = s.ports ∧ (armFillNext d s).receivers
    = s.receivers ∧ (armFillNext d s).contexts = s.contexts ∧ (armFillNext d s).returns = s.returns ∧ (armFillNext d
    s).mode = s.mode ∧ (armFillNext d s).reportMask = s.reportMask ∧ (armFillNext d s).dropLinks = s.dropLinks ∧
    (armFillNext d s).returnLinks = s.returnLinks := by
  simp [armFillNext]

@[simp] theorem armFillLater_frame (d : DestNo) (s : State) :
    (armFillLater d s).pending = s.pending ∧ (armFillLater d s).resetLine = s.resetLine ∧ (armFillLater d s).houseTime =
    s.houseTime ∧ (armFillLater d s).margin = s.margin ∧ (armFillLater d s).formats = s.formats ∧ (armFillLater d
    s).sources = s.sources ∧ (armFillLater d s).dests = s.dests ∧ (armFillLater d s).arms = s.arms ∧ (armFillLater d
    s).active = s.active ∧ (armFillLater d s).follow = s.follow ∧ (armFillLater d s).salvos = s.salvos ∧ (armFillLater d
    s).pool = s.pool ∧ (armFillLater d s).poolExhausted = s.poolExhausted ∧ (armFillLater d s).ports = s.ports ∧
    (armFillLater d s).receivers = s.receivers ∧ (armFillLater d s).contexts = s.contexts ∧ (armFillLater d s).returns =
    s.returns ∧ (armFillLater d s).mode = s.mode ∧ (armFillLater d s).reportMask = s.reportMask ∧ (armFillLater d
    s).dropLinks = s.dropLinks ∧ (armFillLater d s).returnLinks = s.returnLinks := by
  simp [armFillLater]

@[simp] theorem realignFill_frame (p : DestNo → Bool) (s : State) :
    (realignFill p s).pending = s.pending ∧ (realignFill p s).resetLine = s.resetLine ∧ (realignFill p s).houseTime =
    s.houseTime ∧ (realignFill p s).margin = s.margin ∧ (realignFill p s).formats = s.formats ∧ (realignFill p s).sources
    = s.sources ∧ (realignFill p s).dests = s.dests ∧ (realignFill p s).arms = s.arms ∧ (realignFill p s).active =
    s.active ∧ (realignFill p s).follow = s.follow ∧ (realignFill p s).salvos = s.salvos ∧ (realignFill p s).pool = s.pool
    ∧ (realignFill p s).poolExhausted = s.poolExhausted ∧ (realignFill p s).ports = s.ports ∧ (realignFill p s).receivers
    = s.receivers ∧ (realignFill p s).contexts = s.contexts ∧ (realignFill p s).returns = s.returns ∧ (realignFill p
    s).mode = s.mode ∧ (realignFill p s).reportMask = s.reportMask ∧ (realignFill p s).dropLinks = s.dropLinks ∧
    (realignFill p s).returnLinks = s.returnLinks := by
  simp [realignFill]

@[simp] theorem breakForwarding_frame (d : DestNo) (s : State) :
    (breakForwarding d s).pending = s.pending ∧ (breakForwarding d s).resetLine = s.resetLine ∧ (breakForwarding d
    s).houseTime = s.houseTime ∧ (breakForwarding d s).margin = s.margin ∧ (breakForwarding d s).formats = s.formats ∧
    (breakForwarding d s).sources = s.sources ∧ (breakForwarding d s).dests = s.dests ∧ (breakForwarding d s).arms =
    s.arms ∧ (breakForwarding d s).active = s.active ∧ (breakForwarding d s).follow = s.follow ∧ (breakForwarding d
    s).salvos = s.salvos ∧ (breakForwarding d s).pool = s.pool ∧ (breakForwarding d s).poolExhausted = s.poolExhausted ∧
    (breakForwarding d s).ports = s.ports ∧ (breakForwarding d s).receivers = s.receivers ∧ (breakForwarding d s).contexts
    = s.contexts ∧ (breakForwarding d s).returns = s.returns ∧ (breakForwarding d s).mode = s.mode ∧ (breakForwarding d
    s).reportMask = s.reportMask ∧ (breakForwarding d s).dropLinks = s.dropLinks ∧ (breakForwarding d s).returnLinks =
    s.returnLinks := by
  simp only [breakForwarding]
  (repeat' split) <;> simp

/-! ## The device mode -/

@[simp] theorem reachHeld_frame (s : State) :
    (reachHeld s).pending = s.pending ∧ (reachHeld s).resetLine = s.resetLine ∧ (reachHeld s).houseTime = s.houseTime ∧
    (reachHeld s).margin = s.margin ∧ (reachHeld s).formats = s.formats ∧ (reachHeld s).sources = s.sources ∧ (reachHeld
    s).dests = s.dests ∧ (reachHeld s).arms = s.arms ∧ (reachHeld s).active = s.active ∧ (reachHeld s).follow = s.follow ∧
    (reachHeld s).switching = s.switching ∧ (reachHeld s).salvos = s.salvos ∧ (reachHeld s).pool = s.pool ∧ (reachHeld
    s).poolExhausted = s.poolExhausted ∧ (reachHeld s).ports = s.ports ∧ (reachHeld s).receivers = s.receivers ∧
    (reachHeld s).contexts = s.contexts ∧ (reachHeld s).reportMask = s.reportMask ∧ (reachHeld s).dropLinks = s.dropLinks
    ∧ (reachHeld s).returnLinks = s.returnLinks := by
  simp [reachHeld]

@[simp] theorem modeNotice_frame (s : State) :
    (modeNotice s).pending = s.pending ∧ (modeNotice s).resetLine = s.resetLine ∧ (modeNotice s).houseTime = s.houseTime ∧
    (modeNotice s).margin = s.margin ∧ (modeNotice s).formats = s.formats ∧ (modeNotice s).sources = s.sources ∧
    (modeNotice s).dests = s.dests ∧ (modeNotice s).arms = s.arms ∧ (modeNotice s).active = s.active ∧ (modeNotice
    s).follow = s.follow ∧ (modeNotice s).switching = s.switching ∧ (modeNotice s).salvos = s.salvos ∧ (modeNotice s).pool
    = s.pool ∧ (modeNotice s).poolExhausted = s.poolExhausted ∧ (modeNotice s).ports = s.ports ∧ (modeNotice s).receivers
    = s.receivers ∧ (modeNotice s).contexts = s.contexts ∧ (modeNotice s).reportMask = s.reportMask ∧ (modeNotice
    s).dropLinks = s.dropLinks ∧ (modeNotice s).returnLinks = s.returnLinks := by
  simp only [modeNotice]
  (repeat' split) <;> simp

/-! ## Takes -/

@[simp] theorem recomputeTakes_frame (p : DestNo → Bool) (s : State) :
    (recomputeTakes p s).pending = s.pending ∧ (recomputeTakes p s).resetLine = s.resetLine ∧ (recomputeTakes p
    s).houseTime = s.houseTime ∧ (recomputeTakes p s).margin = s.margin ∧ (recomputeTakes p s).formats = s.formats ∧
    (recomputeTakes p s).sources = s.sources ∧ (recomputeTakes p s).dests = s.dests ∧ (recomputeTakes p s).arms = s.arms ∧
    (recomputeTakes p s).follow = s.follow ∧ (recomputeTakes p s).switching = s.switching ∧ (recomputeTakes p s).salvos =
    s.salvos ∧ (recomputeTakes p s).pool = s.pool ∧ (recomputeTakes p s).poolExhausted = s.poolExhausted ∧ (recomputeTakes
    p s).ports = s.ports ∧ (recomputeTakes p s).receivers = s.receivers ∧ (recomputeTakes p s).contexts = s.contexts ∧
    (recomputeTakes p s).returns = s.returns ∧ (recomputeTakes p s).mode = s.mode ∧ (recomputeTakes p s).reportMask =
    s.reportMask ∧ (recomputeTakes p s).dropLinks = s.dropLinks ∧ (recomputeTakes p s).returnLinks = s.returnLinks := by
  simp [recomputeTakes]

@[simp] theorem salvoNotice_frame (k : SlotNo) (out : TakeOutcome) (s : State) :
    (salvoNotice k out s).pending = s.pending ∧ (salvoNotice k out s).resetLine = s.resetLine ∧ (salvoNotice k out
    s).houseTime = s.houseTime ∧ (salvoNotice k out s).margin = s.margin ∧ (salvoNotice k out s).formats = s.formats ∧
    (salvoNotice k out s).sources = s.sources ∧ (salvoNotice k out s).dests = s.dests ∧ (salvoNotice k out s).arms =
    s.arms ∧ (salvoNotice k out s).active = s.active ∧ (salvoNotice k out s).follow = s.follow ∧ (salvoNotice k out
    s).switching = s.switching ∧ (salvoNotice k out s).pool = s.pool ∧ (salvoNotice k out s).poolExhausted =
    s.poolExhausted ∧ (salvoNotice k out s).ports = s.ports ∧ (salvoNotice k out s).receivers = s.receivers ∧ (salvoNotice
    k out s).contexts = s.contexts ∧ (salvoNotice k out s).mode = s.mode ∧ (salvoNotice k out s).reportMask = s.reportMask
    ∧ (salvoNotice k out s).dropLinks = s.dropLinks ∧ (salvoNotice k out s).returnLinks = s.returnLinks := by
  simp only [salvoNotice]
  (repeat' split) <;> simp

@[simp] theorem notifyEnd_frame (d : DestNo) (k : Take) (out : TakeOutcome) (s : State) :
    (notifyEnd d k out s).pending = s.pending ∧ (notifyEnd d k out s).resetLine = s.resetLine ∧ (notifyEnd d k out
    s).houseTime = s.houseTime ∧ (notifyEnd d k out s).margin = s.margin ∧ (notifyEnd d k out s).formats = s.formats ∧
    (notifyEnd d k out s).sources = s.sources ∧ (notifyEnd d k out s).dests = s.dests ∧ (notifyEnd d k out s).arms =
    s.arms ∧ (notifyEnd d k out s).active = s.active ∧ (notifyEnd d k out s).follow = s.follow ∧ (notifyEnd d k out
    s).switching = s.switching ∧ (notifyEnd d k out s).pool = s.pool ∧ (notifyEnd d k out s).poolExhausted =
    s.poolExhausted ∧ (notifyEnd d k out s).ports = s.ports ∧ (notifyEnd d k out s).receivers = s.receivers ∧ (notifyEnd d
    k out s).contexts = s.contexts ∧ (notifyEnd d k out s).mode = s.mode ∧ (notifyEnd d k out s).reportMask = s.reportMask
    ∧ (notifyEnd d k out s).dropLinks = s.dropLinks ∧ (notifyEnd d k out s).returnLinks = s.returnLinks := by
  simp only [notifyEnd]
  (repeat' split) <;> simp

@[simp] theorem removeActive_frame (d : DestNo) (out : TakeOutcome) (s : State) :
    (removeActive d out s).pending = s.pending ∧ (removeActive d out s).resetLine = s.resetLine ∧ (removeActive d out
    s).houseTime = s.houseTime ∧ (removeActive d out s).margin = s.margin ∧ (removeActive d out s).formats = s.formats ∧
    (removeActive d out s).sources = s.sources ∧ (removeActive d out s).dests = s.dests ∧ (removeActive d out s).arms =
    s.arms ∧ (removeActive d out s).follow = s.follow ∧ (removeActive d out s).switching = s.switching ∧ (removeActive d
    out s).pool = s.pool ∧ (removeActive d out s).poolExhausted = s.poolExhausted ∧ (removeActive d out s).ports = s.ports
    ∧ (removeActive d out s).receivers = s.receivers ∧ (removeActive d out s).contexts = s.contexts ∧ (removeActive d out
    s).mode = s.mode ∧ (removeActive d out s).reportMask = s.reportMask ∧ (removeActive d out s).dropLinks = s.dropLinks ∧
    (removeActive d out s).returnLinks = s.returnLinks := by
  simp only [removeActive]
  (repeat' split) <;> simp

@[simp] theorem removeArmed_frame (d : DestNo) (out : TakeOutcome) (s : State) :
    (removeArmed d out s).pending = s.pending ∧ (removeArmed d out s).resetLine = s.resetLine ∧ (removeArmed d out
    s).houseTime = s.houseTime ∧ (removeArmed d out s).margin = s.margin ∧ (removeArmed d out s).formats = s.formats ∧
    (removeArmed d out s).sources = s.sources ∧ (removeArmed d out s).dests = s.dests ∧ (removeArmed d out s).arms =
    s.arms ∧ (removeArmed d out s).follow = s.follow ∧ (removeArmed d out s).switching = s.switching ∧ (removeArmed d out
    s).pool = s.pool ∧ (removeArmed d out s).poolExhausted = s.poolExhausted ∧ (removeArmed d out s).ports = s.ports ∧
    (removeArmed d out s).receivers = s.receivers ∧ (removeArmed d out s).contexts = s.contexts ∧ (removeArmed d out
    s).mode = s.mode ∧ (removeArmed d out s).reportMask = s.reportMask ∧ (removeArmed d out s).dropLinks = s.dropLinks ∧
    (removeArmed d out s).returnLinks = s.returnLinks := by
  simp only [removeArmed]
  (repeat' split) <;> simp

@[simp] theorem removeFollow_frame (d : DestNo) (out : TakeOutcome) (s : State) :
    (removeFollow d out s).pending = s.pending ∧ (removeFollow d out s).resetLine = s.resetLine ∧ (removeFollow d out
    s).houseTime = s.houseTime ∧ (removeFollow d out s).margin = s.margin ∧ (removeFollow d out s).formats = s.formats ∧
    (removeFollow d out s).sources = s.sources ∧ (removeFollow d out s).dests = s.dests ∧ (removeFollow d out s).arms =
    s.arms ∧ (removeFollow d out s).active = s.active ∧ (removeFollow d out s).switching = s.switching ∧ (removeFollow d
    out s).pool = s.pool ∧ (removeFollow d out s).poolExhausted = s.poolExhausted ∧ (removeFollow d out s).ports = s.ports
    ∧ (removeFollow d out s).receivers = s.receivers ∧ (removeFollow d out s).contexts = s.contexts ∧ (removeFollow d out
    s).mode = s.mode ∧ (removeFollow d out s).reportMask = s.reportMask ∧ (removeFollow d out s).dropLinks = s.dropLinks ∧
    (removeFollow d out s).returnLinks = s.returnLinks := by
  simp only [removeFollow]
  (repeat' split) <;> simp

@[simp] theorem promote_frame (d : DestNo) (s : State) :
    (promote d s).pending = s.pending ∧ (promote d s).resetLine = s.resetLine ∧ (promote d s).houseTime = s.houseTime ∧
    (promote d s).margin = s.margin ∧ (promote d s).formats = s.formats ∧ (promote d s).sources = s.sources ∧ (promote d
    s).dests = s.dests ∧ (promote d s).arms = s.arms ∧ (promote d s).switching = s.switching ∧ (promote d s).salvos =
    s.salvos ∧ (promote d s).pool = s.pool ∧ (promote d s).poolExhausted = s.poolExhausted ∧ (promote d s).ports = s.ports
    ∧ (promote d s).receivers = s.receivers ∧ (promote d s).contexts = s.contexts ∧ (promote d s).returns = s.returns ∧
    (promote d s).mode = s.mode ∧ (promote d s).reportMask = s.reportMask ∧ (promote d s).dropLinks = s.dropLinks ∧
    (promote d s).returnLinks = s.returnLinks := by
  simp only [promote]
  (repeat' split) <;> simp

@[simp] theorem complete_frame (d : DestNo) (e : JoinEnd) (s : State) :
    (complete d e s).pending = s.pending ∧ (complete d e s).resetLine = s.resetLine ∧ (complete d e s).houseTime =
    s.houseTime ∧ (complete d e s).margin = s.margin ∧ (complete d e s).formats = s.formats ∧ (complete d e s).sources =
    s.sources ∧ (complete d e s).dests = s.dests ∧ (complete d e s).arms = s.arms ∧ (complete d e s).switching =
    s.switching ∧ (complete d e s).pool = s.pool ∧ (complete d e s).poolExhausted = s.poolExhausted ∧ (complete d e
    s).receivers = s.receivers ∧ (complete d e s).contexts = s.contexts ∧ (complete d e s).reportMask = s.reportMask ∧
    (complete d e s).dropLinks = s.dropLinks ∧ (complete d e s).returnLinks = s.returnLinks := by
  simp only [complete]
  (repeat' split) <;> simp

@[simp] theorem placeTake_frame (b : State) (d : DestNo) (k : Take) (s : State) :
    (placeTake b d k s).pending = s.pending ∧ (placeTake b d k s).resetLine = s.resetLine ∧ (placeTake b d k s).houseTime
    = s.houseTime ∧ (placeTake b d k s).margin = s.margin ∧ (placeTake b d k s).formats = s.formats ∧ (placeTake b d k
    s).sources = s.sources ∧ (placeTake b d k s).dests = s.dests ∧ (placeTake b d k s).arms = s.arms ∧ (placeTake b d k
    s).switching = s.switching ∧ (placeTake b d k s).pool = s.pool ∧ (placeTake b d k s).poolExhausted = s.poolExhausted ∧
    (placeTake b d k s).receivers = s.receivers ∧ (placeTake b d k s).contexts = s.contexts ∧ (placeTake b d k s).mode =
    s.mode ∧ (placeTake b d k s).reportMask = s.reportMask ∧ (placeTake b d k s).dropLinks = s.dropLinks ∧ (placeTake b d
    k s).returnLinks = s.returnLinks := by
  simp only [placeTake]
  (repeat' split) <;> simp

/-! ## Source-state changes -/

@[simp] theorem evaluateTracking_frame (n : SourceNo) (s : State) :
    (evaluateTracking n s).pending = s.pending ∧ (evaluateTracking n s).resetLine = s.resetLine ∧ (evaluateTracking n
    s).houseTime = s.houseTime ∧ (evaluateTracking n s).margin = s.margin ∧ (evaluateTracking n s).sources = s.sources ∧
    (evaluateTracking n s).dests = s.dests ∧ (evaluateTracking n s).arms = s.arms ∧ (evaluateTracking n s).active =
    s.active ∧ (evaluateTracking n s).follow = s.follow ∧ (evaluateTracking n s).switching = s.switching ∧
    (evaluateTracking n s).salvos = s.salvos ∧ (evaluateTracking n s).pool = s.pool ∧ (evaluateTracking n s).poolExhausted
    = s.poolExhausted ∧ (evaluateTracking n s).ports = s.ports ∧ (evaluateTracking n s).receivers = s.receivers ∧
    (evaluateTracking n s).contexts = s.contexts ∧ (evaluateTracking n s).returns = s.returns ∧ (evaluateTracking n
    s).mode = s.mode ∧ (evaluateTracking n s).reportMask = s.reportMask ∧ (evaluateTracking n s).dropLinks = s.dropLinks ∧
    (evaluateTracking n s).returnLinks = s.returnLinks := by
  simp [evaluateTracking]

@[simp] theorem lossNotice_frame (n : SourceNo) (d : DestNo) (s : State) :
    (lossNotice n d s).pending = s.pending ∧ (lossNotice n d s).resetLine = s.resetLine ∧ (lossNotice n d s).houseTime =
    s.houseTime ∧ (lossNotice n d s).margin = s.margin ∧ (lossNotice n d s).formats = s.formats ∧ (lossNotice n d
    s).sources = s.sources ∧ (lossNotice n d s).dests = s.dests ∧ (lossNotice n d s).arms = s.arms ∧ (lossNotice n d
    s).active = s.active ∧ (lossNotice n d s).follow = s.follow ∧ (lossNotice n d s).salvos = s.salvos ∧ (lossNotice n d
    s).pool = s.pool ∧ (lossNotice n d s).poolExhausted = s.poolExhausted ∧ (lossNotice n d s).receivers = s.receivers ∧
    (lossNotice n d s).contexts = s.contexts ∧ (lossNotice n d s).returns = s.returns ∧ (lossNotice n d s).mode = s.mode ∧
    (lossNotice n d s).reportMask = s.reportMask ∧ (lossNotice n d s).dropLinks = s.dropLinks ∧ (lossNotice n d
    s).returnLinks = s.returnLinks := by
  simp only [lossNotice]
  (repeat' split) <;> simp

@[simp] theorem lossNotices_frame (n : SourceNo) (s : State) :
    (lossNotices n s).pending = s.pending ∧ (lossNotices n s).resetLine = s.resetLine ∧ (lossNotices n s).houseTime =
    s.houseTime ∧ (lossNotices n s).margin = s.margin ∧ (lossNotices n s).formats = s.formats ∧ (lossNotices n s).sources
    = s.sources ∧ (lossNotices n s).dests = s.dests ∧ (lossNotices n s).arms = s.arms ∧ (lossNotices n s).active =
    s.active ∧ (lossNotices n s).follow = s.follow ∧ (lossNotices n s).salvos = s.salvos ∧ (lossNotices n s).pool = s.pool
    ∧ (lossNotices n s).poolExhausted = s.poolExhausted ∧ (lossNotices n s).receivers = s.receivers ∧ (lossNotices n
    s).contexts = s.contexts ∧ (lossNotices n s).returns = s.returns ∧ (lossNotices n s).mode = s.mode ∧ (lossNotices n
    s).reportMask = s.reportMask ∧ (lossNotices n s).dropLinks = s.dropLinks ∧ (lossNotices n s).returnLinks =
    s.returnLinks := by
  unfold lossNotices
  exact ⟨foldl_keeps _ State.pending (fun s a => by simp) _ s,
    foldl_keeps _ State.resetLine (fun s a => by simp) _ s,
    foldl_keeps _ State.houseTime (fun s a => by simp) _ s,
    foldl_keeps _ State.margin (fun s a => by simp) _ s,
    foldl_keeps _ State.formats (fun s a => by simp) _ s,
    foldl_keeps _ State.sources (fun s a => by simp) _ s,
    foldl_keeps _ State.dests (fun s a => by simp) _ s,
    foldl_keeps _ State.arms (fun s a => by simp) _ s,
    foldl_keeps _ State.active (fun s a => by simp) _ s,
    foldl_keeps _ State.follow (fun s a => by simp) _ s,
    foldl_keeps _ State.salvos (fun s a => by simp) _ s,
    foldl_keeps _ State.pool (fun s a => by simp) _ s,
    foldl_keeps _ State.poolExhausted (fun s a => by simp) _ s,
    foldl_keeps _ State.receivers (fun s a => by simp) _ s,
    foldl_keeps _ State.contexts (fun s a => by simp) _ s,
    foldl_keeps _ State.returns (fun s a => by simp) _ s,
    foldl_keeps _ State.mode (fun s a => by simp) _ s,
    foldl_keeps _ State.reportMask (fun s a => by simp) _ s,
    foldl_keeps _ State.dropLinks (fun s a => by simp) _ s,
    foldl_keeps _ State.returnLinks (fun s a => by simp) _ s⟩

@[simp] theorem sourceChanged_frame (n : SourceNo) (x : SourceState) (s : State) :
    (sourceChanged n x s).pending = s.pending ∧ (sourceChanged n x s).resetLine = s.resetLine ∧ (sourceChanged n x
    s).houseTime = s.houseTime ∧ (sourceChanged n x s).margin = s.margin ∧ (sourceChanged n x s).sources = s.sources ∧
    (sourceChanged n x s).dests = s.dests ∧ (sourceChanged n x s).arms = s.arms ∧ (sourceChanged n x s).active = s.active
    ∧ (sourceChanged n x s).follow = s.follow ∧ (sourceChanged n x s).salvos = s.salvos ∧ (sourceChanged n x s).pool =
    s.pool ∧ (sourceChanged n x s).poolExhausted = s.poolExhausted ∧ (sourceChanged n x s).receivers = s.receivers ∧
    (sourceChanged n x s).contexts = s.contexts ∧ (sourceChanged n x s).mode = s.mode ∧ (sourceChanged n x s).reportMask =
    s.reportMask ∧ (sourceChanged n x s).dropLinks = s.dropLinks ∧ (sourceChanged n x s).returnLinks = s.returnLinks := by
  simp only [sourceChanged]
  (repeat' split) <;> simp

@[simp] theorem enterLost_frame (n : SourceNo) (s : State) :
    (enterLost n s).pending = s.pending ∧ (enterLost n s).resetLine = s.resetLine ∧ (enterLost n s).houseTime =
    s.houseTime ∧ (enterLost n s).margin = s.margin ∧ (enterLost n s).dests = s.dests ∧ (enterLost n s).arms = s.arms ∧
    (enterLost n s).active = s.active ∧ (enterLost n s).follow = s.follow ∧ (enterLost n s).salvos = s.salvos ∧ (enterLost
    n s).pool = s.pool ∧ (enterLost n s).poolExhausted = s.poolExhausted ∧ (enterLost n s).receivers = s.receivers ∧
    (enterLost n s).contexts = s.contexts ∧ (enterLost n s).mode = s.mode ∧ (enterLost n s).reportMask = s.reportMask ∧
    (enterLost n s).dropLinks = s.dropLinks ∧ (enterLost n s).returnLinks = s.returnLinks := by
  simp [enterLost]

/-! ## The FIFO head -/

@[simp] theorem headTaken_frame (s : State) (t : Trunk) :
    (headTaken s t).pending = s.pending ∧ (headTaken s t).resetLine = s.resetLine ∧ (headTaken s t).houseTime =
    s.houseTime ∧ (headTaken s t).margin = s.margin ∧ (headTaken s t).formats = s.formats ∧ (headTaken s t).sources =
    s.sources ∧ (headTaken s t).dests = s.dests ∧ (headTaken s t).active = s.active ∧ (headTaken s t).follow = s.follow ∧
    (headTaken s t).switching = s.switching ∧ (headTaken s t).salvos = s.salvos ∧ (headTaken s t).pool = s.pool ∧
    (headTaken s t).poolExhausted = s.poolExhausted ∧ (headTaken s t).ports = s.ports ∧ (headTaken s t).receivers =
    s.receivers ∧ (headTaken s t).returns = s.returns ∧ (headTaken s t).mode = s.mode ∧ (headTaken s t).reportMask =
    s.reportMask ∧ (headTaken s t).dropLinks = s.dropLinks ∧ (headTaken s t).returnLinks = s.returnLinks := by
  simp [headTaken]

end Sys2Proof.Machine
end

