-- ==== Sys2Proof/Laws/FramesStreams.lean ====
section
/-! SUPPORT. What the operations of the streams leave unchanged, field by field. -/

namespace Sys2Proof.Machine

/-! ## The Source Tracker -/

@[simp] theorem breakNotices_frame (n : SourceNo) (s : State) :
    (breakNotices n s).pending = s.pending ∧ (breakNotices n s).resetLine = s.resetLine ∧ (breakNotices n s).houseTime =
    s.houseTime ∧ (breakNotices n s).margin = s.margin ∧ (breakNotices n s).formats = s.formats ∧ (breakNotices n
    s).sources = s.sources ∧ (breakNotices n s).dests = s.dests ∧ (breakNotices n s).arms = s.arms ∧ (breakNotices n
    s).active = s.active ∧ (breakNotices n s).follow = s.follow ∧ (breakNotices n s).salvos = s.salvos ∧ (breakNotices n
    s).pool = s.pool ∧ (breakNotices n s).poolExhausted = s.poolExhausted ∧ (breakNotices n s).ports = s.ports ∧
    (breakNotices n s).receivers = s.receivers ∧ (breakNotices n s).contexts = s.contexts ∧ (breakNotices n s).returns =
    s.returns ∧ (breakNotices n s).mode = s.mode ∧ (breakNotices n s).reportMask = s.reportMask ∧ (breakNotices n
    s).dropLinks = s.dropLinks ∧ (breakNotices n s).returnLinks = s.returnLinks := by
  unfold breakNotices
  exact ⟨foldl_keeps _ State.pending (fun s a => by simp) _ s,
    foldl_keeps _ State.resetLine (fun s a => by simp) _ s,
    foldl_keeps _ State.houseTime (fun s a => by simp) _ s,
    foldl_keeps _ State.margin (fun s a => by simp) _ s,
    foldl_keeps _ State.formats (fun s a => by simp) _ s,
    foldl_keeps _ State.sources (fun s a => by simp) _ s,
    foldl_keeps _ State.dests (fun s a => by simp) _ s,
    foldl_keeps _ State.arms (fun s a => by simp) _ s,
    foldl_keeps _ State.active (fun s a => by simp) _ s,
    foldl_keeps _ State.follow (fun s a => by simp) _ s,
    foldl_keeps _ State.salvos (fun s a => by simp) _ s,
    foldl_keeps _ State.pool (fun s a => by simp) _ s,
    foldl_keeps _ State.poolExhausted (fun s a => by simp) _ s,
    foldl_keeps _ State.ports (fun s a => by simp) _ s,
    foldl_keeps _ State.receivers (fun s a => by simp) _ s,
    foldl_keeps _ State.contexts (fun s a => by simp) _ s,
    foldl_keeps _ State.returns (fun s a => by simp) _ s,
    foldl_keeps _ State.mode (fun s a => by simp) _ s,
    foldl_keeps _ State.reportMask (fun s a => by simp) _ s,
    foldl_keeps _ State.dropLinks (fun s a => by simp) _ s,
    foldl_keeps _ State.returnLinks (fun s a => by simp) _ s⟩

@[simp] theorem sequenceCheck_frame (n : SourceNo) (q : BitVec 16) (s : State) :
    (sequenceCheck n q s).pending = s.pending ∧ (sequenceCheck n q s).resetLine = s.resetLine ∧ (sequenceCheck n q
    s).houseTime = s.houseTime ∧ (sequenceCheck n q s).margin = s.margin ∧ (sequenceCheck n q s).formats = s.formats ∧
    (sequenceCheck n q s).dests = s.dests ∧ (sequenceCheck n q s).arms = s.arms ∧ (sequenceCheck n q s).active = s.active
    ∧ (sequenceCheck n q s).follow = s.follow ∧ (sequenceCheck n q s).salvos = s.salvos ∧ (sequenceCheck n q s).pool =
    s.pool ∧ (sequenceCheck n q s).poolExhausted = s.poolExhausted ∧ (sequenceCheck n q s).ports = s.ports ∧
    (sequenceCheck n q s).receivers = s.receivers ∧ (sequenceCheck n q s).contexts = s.contexts ∧ (sequenceCheck n q
    s).returns = s.returns ∧ (sequenceCheck n q s).mode = s.mode ∧ (sequenceCheck n q s).reportMask = s.reportMask ∧
    (sequenceCheck n q s).dropLinks = s.dropLinks ∧ (sequenceCheck n q s).returnLinks = s.returnLinks := by
  simp only [sequenceCheck]
  (repeat' split) <;> simp

@[simp] theorem reanchor_frame (f : FormatNo) (c : Time) (x : FrameNo) (v : Int) (s : State) :
    (reanchor f c x v s).pending = s.pending ∧ (reanchor f c x v s).resetLine = s.resetLine ∧ (reanchor f c x v
    s).houseTime = s.houseTime ∧ (reanchor f c x v s).margin = s.margin ∧ (reanchor f c x v s).sources = s.sources ∧
    (reanchor f c x v s).dests = s.dests ∧ (reanchor f c x v s).arms = s.arms ∧ (reanchor f c x v s).follow = s.follow ∧
    (reanchor f c x v s).salvos = s.salvos ∧ (reanchor f c x v s).pool = s.pool ∧ (reanchor f c x v s).poolExhausted =
    s.poolExhausted ∧ (reanchor f c x v s).ports = s.ports ∧ (reanchor f c x v s).receivers = s.receivers ∧ (reanchor f c
    x v s).contexts = s.contexts ∧ (reanchor f c x v s).mode = s.mode ∧ (reanchor f c x v s).reportMask = s.reportMask ∧
    (reanchor f c x v s).dropLinks = s.dropLinks ∧ (reanchor f c x v s).returnLinks = s.returnLinks := by
  simp [reanchor]

@[simp] theorem reanchorCheck_frame (n : SourceNo) (s : State) :
    (reanchorCheck n s).pending = s.pending ∧ (reanchorCheck n s).resetLine = s.resetLine ∧ (reanchorCheck n s).houseTime
    = s.houseTime ∧ (reanchorCheck n s).margin = s.margin ∧ (reanchorCheck n s).sources = s.sources ∧ (reanchorCheck n
    s).dests = s.dests ∧ (reanchorCheck n s).arms = s.arms ∧ (reanchorCheck n s).follow = s.follow ∧ (reanchorCheck n
    s).salvos = s.salvos ∧ (reanchorCheck n s).pool = s.pool ∧ (reanchorCheck n s).poolExhausted = s.poolExhausted ∧
    (reanchorCheck n s).ports = s.ports ∧ (reanchorCheck n s).receivers = s.receivers ∧ (reanchorCheck n s).contexts =
    s.contexts ∧ (reanchorCheck n s).mode = s.mode ∧ (reanchorCheck n s).reportMask = s.reportMask ∧ (reanchorCheck n
    s).dropLinks = s.dropLinks ∧ (reanchorCheck n s).returnLinks = s.returnLinks := by
  simp only [reanchorCheck]
  (repeat' split) <;> simp

@[simp] theorem captureFrame_frame (n : SourceNo) (s : State) :
    (captureFrame n s).pending = s.pending ∧ (captureFrame n s).resetLine = s.resetLine ∧ (captureFrame n s).houseTime =
    s.houseTime ∧ (captureFrame n s).margin = s.margin ∧ (captureFrame n s).dests = s.dests ∧ (captureFrame n s).arms =
    s.arms ∧ (captureFrame n s).follow = s.follow ∧ (captureFrame n s).salvos = s.salvos ∧ (captureFrame n s).pool =
    s.pool ∧ (captureFrame n s).poolExhausted = s.poolExhausted ∧ (captureFrame n s).receivers = s.receivers ∧
    (captureFrame n s).contexts = s.contexts ∧ (captureFrame n s).mode = s.mode ∧ (captureFrame n s).reportMask =
    s.reportMask ∧ (captureFrame n s).dropLinks = s.dropLinks ∧ (captureFrame n s).returnLinks = s.returnLinks := by
  simp [captureFrame]

@[simp] theorem trackCell_frame (n : SourceNo) (c : Cell) (s : State) :
    (trackCell n c s).pending = s.pending ∧ (trackCell n c s).resetLine = s.resetLine ∧ (trackCell n c s).houseTime =
    s.houseTime ∧ (trackCell n c s).margin = s.margin ∧ (trackCell n c s).dests = s.dests ∧ (trackCell n c s).arms =
    s.arms ∧ (trackCell n c s).follow = s.follow ∧ (trackCell n c s).salvos = s.salvos ∧ (trackCell n c s).pool = s.pool ∧
    (trackCell n c s).poolExhausted = s.poolExhausted ∧ (trackCell n c s).receivers = s.receivers ∧ (trackCell n c
    s).contexts = s.contexts ∧ (trackCell n c s).mode = s.mode ∧ (trackCell n c s).reportMask = s.reportMask ∧ (trackCell
    n c s).dropLinks = s.dropLinks ∧ (trackCell n c s).returnLinks = s.returnLinks := by
  simp only [trackCell]
  (repeat' split) <;> simp

/-! ## The Replication Engine -/

@[simp] theorem endDraining_frame (n : SourceNo) (s : State) :
    (endDraining n s).pending = s.pending ∧ (endDraining n s).resetLine = s.resetLine ∧ (endDraining n s).houseTime =
    s.houseTime ∧ (endDraining n s).margin = s.margin ∧ (endDraining n s).formats = s.formats ∧ (endDraining n s).sources
    = s.sources ∧ (endDraining n s).dests = s.dests ∧ (endDraining n s).arms = s.arms ∧ (endDraining n s).active =
    s.active ∧ (endDraining n s).follow = s.follow ∧ (endDraining n s).salvos = s.salvos ∧ (endDraining n s).pool = s.pool
    ∧ (endDraining n s).poolExhausted = s.poolExhausted ∧ (endDraining n s).ports = s.ports ∧ (endDraining n s).receivers
    = s.receivers ∧ (endDraining n s).contexts = s.contexts ∧ (endDraining n s).returns = s.returns ∧ (endDraining n
    s).mode = s.mode ∧ (endDraining n s).reportMask = s.reportMask ∧ (endDraining n s).dropLinks = s.dropLinks ∧
    (endDraining n s).returnLinks = s.returnLinks := by
  simp [endDraining]

@[simp] theorem appendEntries_frame (k : PoolNo) (ds : List DestNo) (s : State) :
    (appendEntries k ds s).pending = s.pending ∧ (appendEntries k ds s).resetLine = s.resetLine ∧ (appendEntries k ds
    s).houseTime = s.houseTime ∧ (appendEntries k ds s).margin = s.margin ∧ (appendEntries k ds s).formats = s.formats ∧
    (appendEntries k ds s).sources = s.sources ∧ (appendEntries k ds s).dests = s.dests ∧ (appendEntries k ds s).arms =
    s.arms ∧ (appendEntries k ds s).active = s.active ∧ (appendEntries k ds s).follow = s.follow ∧ (appendEntries k ds
    s).switching = s.switching ∧ (appendEntries k ds s).salvos = s.salvos ∧ (appendEntries k ds s).pool = s.pool ∧
    (appendEntries k ds s).poolExhausted = s.poolExhausted ∧ (appendEntries k ds s).receivers = s.receivers ∧
    (appendEntries k ds s).contexts = s.contexts ∧ (appendEntries k ds s).returns = s.returns ∧ (appendEntries k ds
    s).mode = s.mode ∧ (appendEntries k ds s).reportMask = s.reportMask ∧ (appendEntries k ds s).dropLinks = s.dropLinks ∧
    (appendEntries k ds s).returnLinks = s.returnLinks := by
  unfold appendEntries
  exact ⟨foldl_keeps _ State.pending (fun s a => by simp) _ s,
    foldl_keeps _ State.resetLine (fun s a => by simp) _ s,
    foldl_keeps _ State.houseTime (fun s a => by simp) _ s,
    foldl_keeps _ State.margin (fun s a => by simp) _ s,
    foldl_keeps _ State.formats (fun s a => by simp) _ s,
    foldl_keeps _ State.sources (fun s a => by simp) _ s,
    foldl_keeps _ State.dests (fun s a => by simp) _ s,
    foldl_keeps _ State.arms (fun s a => by simp) _ s,
    foldl_keeps _ State.active (fun s a => by simp) _ s,
    foldl_keeps _ State.follow (fun s a => by simp) _ s,
    foldl_keeps _ State.switching (fun s a => by simp) _ s,
    foldl_keeps _ State.salvos (fun s a => by simp) _ s,
    foldl_keeps _ State.pool (fun s a => by simp) _ s,
    foldl_keeps _ State.poolExhausted (fun s a => by simp) _ s,
    foldl_keeps _ State.receivers (fun s a => by simp) _ s,
    foldl_keeps _ State.contexts (fun s a => by simp) _ s,
    foldl_keeps _ State.returns (fun s a => by simp) _ s,
    foldl_keeps _ State.mode (fun s a => by simp) _ s,
    foldl_keeps _ State.reportMask (fun s a => by simp) _ s,
    foldl_keeps _ State.dropLinks (fun s a => by simp) _ s,
    foldl_keeps _ State.returnLinks (fun s a => by simp) _ s⟩

@[simp] theorem storeCell_frame (k : PoolNo) (c : Cell) (ds : List DestNo) (s : State) :
    (storeCell k c ds s).pending = s.pending ∧ (storeCell k c ds s).resetLine = s.resetLine ∧ (storeCell k c ds
    s).houseTime = s.houseTime ∧ (storeCell k c ds s).margin = s.margin ∧ (storeCell k c ds s).formats = s.formats ∧
    (storeCell k c ds s).sources = s.sources ∧ (storeCell k c ds s).dests = s.dests ∧ (storeCell k c ds s).arms = s.arms ∧
    (storeCell k c ds s).active = s.active ∧ (storeCell k c ds s).follow = s.follow ∧ (storeCell k c ds s).switching =
    s.switching ∧ (storeCell k c ds s).salvos = s.salvos ∧ (storeCell k c ds s).poolExhausted = s.poolExhausted ∧
    (storeCell k c ds s).receivers = s.receivers ∧ (storeCell k c ds s).contexts = s.contexts ∧ (storeCell k c ds
    s).returns = s.returns ∧ (storeCell k c ds s).mode = s.mode ∧ (storeCell k c ds s).reportMask = s.reportMask ∧
    (storeCell k c ds s).dropLinks = s.dropLinks ∧ (storeCell k c ds s).returnLinks = s.returnLinks := by
  simp [storeCell]

@[simp] theorem receiveCell_frame (n : SourceNo) (b : Bool) (d : DestNo) (s : State) :
    (receiveCell n b d s).pending = s.pending ∧ (receiveCell n b d s).resetLine = s.resetLine ∧ (receiveCell n b d
    s).houseTime = s.houseTime ∧ (receiveCell n b d s).margin = s.margin ∧ (receiveCell n b d s).formats = s.formats ∧
    (receiveCell n b d s).sources = s.sources ∧ (receiveCell n b d s).dests = s.dests ∧ (receiveCell n b d s).arms =
    s.arms ∧ (receiveCell n b d s).pool = s.pool ∧ (receiveCell n b d s).poolExhausted = s.poolExhausted ∧ (receiveCell n
    b d s).receivers = s.receivers ∧ (receiveCell n b d s).contexts = s.contexts ∧ (receiveCell n b d s).reportMask =
    s.reportMask ∧ (receiveCell n b d s).dropLinks = s.dropLinks ∧ (receiveCell n b d s).returnLinks = s.returnLinks := by
  simp only [receiveCell]
  (repeat' split) <;> simp

@[simp] theorem missCell_frame (n : SourceNo) (b : Bool) (d : DestNo) (s : State) :
    (missCell n b d s).pending = s.pending ∧ (missCell n b d s).resetLine = s.resetLine ∧ (missCell n b d s).houseTime =
    s.houseTime ∧ (missCell n b d s).margin = s.margin ∧ (missCell n b d s).formats = s.formats ∧ (missCell n b d
    s).sources = s.sources ∧ (missCell n b d s).dests = s.dests ∧ (missCell n b d s).arms = s.arms ∧ (missCell n b d
    s).pool = s.pool ∧ (missCell n b d s).poolExhausted = s.poolExhausted ∧ (missCell n b d s).receivers = s.receivers ∧
    (missCell n b d s).contexts = s.contexts ∧ (missCell n b d s).reportMask = s.reportMask ∧ (missCell n b d s).dropLinks
    = s.dropLinks ∧ (missCell n b d s).returnLinks = s.returnLinks := by
  simp only [missCell]
  (repeat' split) <;> simp

@[simp] theorem settleReceivers_frame (n : SourceNo) (b : Bool) (got ds : List DestNo) (s : State) :
    (settleReceivers n b got ds s).pending = s.pending ∧ (settleReceivers n b got ds s).resetLine = s.resetLine ∧
    (settleReceivers n b got ds s).houseTime = s.houseTime ∧ (settleReceivers n b got ds s).margin = s.margin ∧
    (settleReceivers n b got ds s).formats = s.formats ∧ (settleReceivers n b got ds s).sources = s.sources ∧
    (settleReceivers n b got ds s).dests = s.dests ∧ (settleReceivers n b got ds s).arms = s.arms ∧ (settleReceivers n b
    got ds s).pool = s.pool ∧ (settleReceivers n b got ds s).poolExhausted = s.poolExhausted ∧ (settleReceivers n b got ds
    s).receivers = s.receivers ∧ (settleReceivers n b got ds s).contexts = s.contexts ∧ (settleReceivers n b got ds
    s).reportMask = s.reportMask ∧ (settleReceivers n b got ds s).dropLinks = s.dropLinks ∧ (settleReceivers n b got ds
    s).returnLinks = s.returnLinks := by
  unfold settleReceivers
  exact ⟨foldl_keeps _ State.pending (fun s a => by split <;> simp) _ s,
    foldl_keeps _ State.resetLine (fun s a => by split <;> simp) _ s,
    foldl_keeps _ State.houseTime (fun s a => by split <;> simp) _ s,
    foldl_keeps _ State.margin (fun s a => by split <;> simp) _ s,
    foldl_keeps _ State.formats (fun s a => by split <;> simp) _ s,
    foldl_keeps _ State.sources (fun s a => by split <;> simp) _ s,
    foldl_keeps _ State.dests (fun s a => by split <;> simp) _ s,
    foldl_keeps _ State.arms (fun s a => by split <;> simp) _ s,
    foldl_keeps _ State.pool (fun s a => by split <;> simp) _ s,
    foldl_keeps _ State.poolExhausted (fun s a => by split <;> simp) _ s,
    foldl_keeps _ State.receivers (fun s a => by split <;> simp) _ s,
    foldl_keeps _ State.contexts (fun s a => by split <;> simp) _ s,
    foldl_keeps _ State.reportMask (fun s a => by split <;> simp) _ s,
    foldl_keeps _ State.dropLinks (fun s a => by split <;> simp) _ s,
    foldl_keeps _ State.returnLinks (fun s a => by split <;> simp) _ s⟩

@[simp] theorem countRefusals_frame (ds : List DestNo) (s : State) :
    (countRefusals ds s).pending = s.pending ∧ (countRefusals ds s).resetLine = s.resetLine ∧ (countRefusals ds
    s).houseTime = s.houseTime ∧ (countRefusals ds s).margin = s.margin ∧ (countRefusals ds s).formats = s.formats ∧
    (countRefusals ds s).sources = s.sources ∧ (countRefusals ds s).dests = s.dests ∧ (countRefusals ds s).arms = s.arms ∧
    (countRefusals ds s).active = s.active ∧ (countRefusals ds s).follow = s.follow ∧ (countRefusals ds s).switching =
    s.switching ∧ (countRefusals ds s).salvos = s.salvos ∧ (countRefusals ds s).pool = s.pool ∧ (countRefusals ds
    s).poolExhausted = s.poolExhausted ∧ (countRefusals ds s).receivers = s.receivers ∧ (countRefusals ds s).contexts =
    s.contexts ∧ (countRefusals ds s).returns = s.returns ∧ (countRefusals ds s).mode = s.mode ∧ (countRefusals ds
    s).reportMask = s.reportMask ∧ (countRefusals ds s).dropLinks = s.dropLinks ∧ (countRefusals ds s).returnLinks =
    s.returnLinks := by
  unfold countRefusals
  exact ⟨foldl_keeps _ State.pending (fun s a => by simp) _ s,
    foldl_keeps _ State.resetLine (fun s a => by simp) _ s,
    foldl_keeps _ State.houseTime (fun s a => by simp) _ s,
    foldl_keeps _ State.margin (fun s a => by simp) _ s,
    foldl_keeps _ State.formats (fun s a => by simp) _ s,
    foldl_keeps _ State.sources (fun s a => by simp) _ s,
    foldl_keeps _ State.dests (fun s a => by simp) _ s,
    foldl_keeps _ State.arms (fun s a => by simp) _ s,
    foldl_keeps _ State.active (fun s a => by simp) _ s,
    foldl_keeps _ State.follow (fun s a => by simp) _ s,
    foldl_keeps _ State.switching (fun s a => by simp) _ s,
    foldl_keeps _ State.salvos (fun s a => by simp) _ s,
    foldl_keeps _ State.pool (fun s a => by simp) _ s,
    foldl_keeps _ State.poolExhausted (fun s a => by simp) _ s,
    foldl_keeps _ State.receivers (fun s a => by simp) _ s,
    foldl_keeps _ State.contexts (fun s a => by simp) _ s,
    foldl_keeps _ State.returns (fun s a => by simp) _ s,
    foldl_keeps _ State.mode (fun s a => by simp) _ s,
    foldl_keeps _ State.reportMask (fun s a => by simp) _ s,
    foldl_keeps _ State.dropLinks (fun s a => by simp) _ s,
    foldl_keeps _ State.returnLinks (fun s a => by simp) _ s⟩

@[simp] theorem replicate_frame (n : SourceNo) (c : Cell) (pick : PoolNo) (s : State) :
    (replicate n c pick s).pending = s.pending ∧ (replicate n c pick s).resetLine = s.resetLine ∧ (replicate n c pick
    s).houseTime = s.houseTime ∧ (replicate n c pick s).margin = s.margin ∧ (replicate n c pick s).formats = s.formats ∧
    (replicate n c pick s).sources = s.sources ∧ (replicate n c pick s).dests = s.dests ∧ (replicate n c pick s).arms =
    s.arms ∧ (replicate n c pick s).receivers = s.receivers ∧ (replicate n c pick s).contexts = s.contexts ∧ (replicate n
    c pick s).reportMask = s.reportMask ∧ (replicate n c pick s).dropLinks = s.dropLinks ∧ (replicate n c pick
    s).returnLinks = s.returnLinks := by
  simp only [replicate]
  (repeat' split) <;> simp

@[simp] theorem essenceArrival_frame (t : Trunk) (c : Cell) (pick : PoolNo) (s : State) :
    (essenceArrival t c pick s).pending = s.pending ∧ (essenceArrival t c pick s).resetLine = s.resetLine ∧
    (essenceArrival t c pick s).houseTime = s.houseTime ∧ (essenceArrival t c pick s).margin = s.margin ∧ (essenceArrival
    t c pick s).dests = s.dests ∧ (essenceArrival t c pick s).arms = s.arms ∧ (essenceArrival t c pick s).contexts =
    s.contexts ∧ (essenceArrival t c pick s).reportMask = s.reportMask ∧ (essenceArrival t c pick s).dropLinks =
    s.dropLinks ∧ (essenceArrival t c pick s).returnLinks = s.returnLinks := by
  simp only [essenceArrival]
  (repeat' split) <;> simp

end Sys2Proof.Machine
end

