-- ==== Sys2Proof/Laws/FramesLinks.lean ====
section
/-! SUPPORT. What the operations of the links leave unchanged, field by field. -/

namespace Sys2Proof.Machine

/-! ## Forward reception -/

@[simp] theorem trunkChanged_frame (t : Trunk) (x : TrunkState) (s : State) :
    (trunkChanged t x s).pending = s.pending ∧ (trunkChanged t x s).resetLine = s.resetLine ∧ (trunkChanged t x
    s).houseTime = s.houseTime ∧ (trunkChanged t x s).margin = s.margin ∧ (trunkChanged t x s).formats = s.formats ∧
    (trunkChanged t x s).sources = s.sources ∧ (trunkChanged t x s).dests = s.dests ∧ (trunkChanged t x s).arms = s.arms ∧
    (trunkChanged t x s).active = s.active ∧ (trunkChanged t x s).follow = s.follow ∧ (trunkChanged t x s).switching =
    s.switching ∧ (trunkChanged t x s).salvos = s.salvos ∧ (trunkChanged t x s).pool = s.pool ∧ (trunkChanged t x
    s).poolExhausted = s.poolExhausted ∧ (trunkChanged t x s).ports = s.ports ∧ (trunkChanged t x s).receivers =
    s.receivers ∧ (trunkChanged t x s).contexts = s.contexts ∧ (trunkChanged t x s).mode = s.mode ∧ (trunkChanged t x
    s).reportMask = s.reportMask ∧ (trunkChanged t x s).dropLinks = s.dropLinks ∧ (trunkChanged t x s).returnLinks =
    s.returnLinks := by
  simp [trunkChanged]

@[simp] theorem quarantineSource_frame (n : SourceNo) (s : State) :
    (quarantineSource n s).pending = s.pending ∧ (quarantineSource n s).resetLine = s.resetLine ∧ (quarantineSource n
    s).houseTime = s.houseTime ∧ (quarantineSource n s).margin = s.margin ∧ (quarantineSource n s).dests = s.dests ∧
    (quarantineSource n s).arms = s.arms ∧ (quarantineSource n s).active = s.active ∧ (quarantineSource n s).follow =
    s.follow ∧ (quarantineSource n s).salvos = s.salvos ∧ (quarantineSource n s).pool = s.pool ∧ (quarantineSource n
    s).poolExhausted = s.poolExhausted ∧ (quarantineSource n s).receivers = s.receivers ∧ (quarantineSource n s).contexts
    = s.contexts ∧ (quarantineSource n s).mode = s.mode ∧ (quarantineSource n s).reportMask = s.reportMask ∧
    (quarantineSource n s).dropLinks = s.dropLinks ∧ (quarantineSource n s).returnLinks = s.returnLinks := by
  simp only [quarantineSource]
  (repeat' split) <;> simp

@[simp] theorem quarantineSources_frame (t : Trunk) (s : State) :
    (quarantineSources t s).pending = s.pending ∧ (quarantineSources t s).resetLine = s.resetLine ∧ (quarantineSources t
    s).houseTime = s.houseTime ∧ (quarantineSources t s).margin = s.margin ∧ (quarantineSources t s).dests = s.dests ∧
    (quarantineSources t s).arms = s.arms ∧ (quarantineSources t s).active = s.active ∧ (quarantineSources t s).follow =
    s.follow ∧ (quarantineSources t s).salvos = s.salvos ∧ (quarantineSources t s).pool = s.pool ∧ (quarantineSources t
    s).poolExhausted = s.poolExhausted ∧ (quarantineSources t s).receivers = s.receivers ∧ (quarantineSources t
    s).contexts = s.contexts ∧ (quarantineSources t s).mode = s.mode ∧ (quarantineSources t s).reportMask = s.reportMask ∧
    (quarantineSources t s).dropLinks = s.dropLinks ∧ (quarantineSources t s).returnLinks = s.returnLinks := by
  unfold quarantineSources
  exact ⟨foldl_keeps _ State.pending (fun s a => by simp) _ s,
    foldl_keeps _ State.resetLine (fun s a => by simp) _ s,
    foldl_keeps _ State.houseTime (fun s a => by simp) _ s,
    foldl_keeps _ State.margin (fun s a => by simp) _ s,
    foldl_keeps _ State.dests (fun s a => by simp) _ s,
    foldl_keeps _ State.arms (fun s a => by simp) _ s,
    foldl_keeps _ State.active (fun s a => by simp) _ s,
    foldl_keeps _ State.follow (fun s a => by simp) _ s,
    foldl_keeps _ State.salvos (fun s a => by simp) _ s,
    foldl_keeps _ State.pool (fun s a => by simp) _ s,
    foldl_keeps _ State.poolExhausted (fun s a => by simp) _ s,
    foldl_keeps _ State.receivers (fun s a => by simp) _ s,
    foldl_keeps _ State.contexts (fun s a => by simp) _ s,
    foldl_keeps _ State.mode (fun s a => by simp) _ s,
    foldl_keeps _ State.reportMask (fun s a => by simp) _ s,
    foldl_keeps _ State.dropLinks (fun s a => by simp) _ s,
    foldl_keeps _ State.returnLinks (fun s a => by simp) _ s⟩

@[simp] theorem enterQuarantine_frame (t : Trunk) (s : State) :
    (enterQuarantine t s).pending = s.pending ∧ (enterQuarantine t s).resetLine = s.resetLine ∧ (enterQuarantine t
    s).houseTime = s.houseTime ∧ (enterQuarantine t s).margin = s.margin ∧ (enterQuarantine t s).dests = s.dests ∧
    (enterQuarantine t s).active = s.active ∧ (enterQuarantine t s).follow = s.follow ∧ (enterQuarantine t s).salvos =
    s.salvos ∧ (enterQuarantine t s).pool = s.pool ∧ (enterQuarantine t s).poolExhausted = s.poolExhausted ∧
    (enterQuarantine t s).mode = s.mode ∧ (enterQuarantine t s).reportMask = s.reportMask ∧ (enterQuarantine t
    s).dropLinks = s.dropLinks ∧ (enterQuarantine t s).returnLinks = s.returnLinks := by
  simp [enterQuarantine]

@[simp] theorem erroredCell_frame (t : Trunk) (s : State) :
    (erroredCell t s).pending = s.pending ∧ (erroredCell t s).resetLine = s.resetLine ∧ (erroredCell t s).houseTime =
    s.houseTime ∧ (erroredCell t s).margin = s.margin ∧ (erroredCell t s).dests = s.dests ∧ (erroredCell t s).active =
    s.active ∧ (erroredCell t s).follow = s.follow ∧ (erroredCell t s).salvos = s.salvos ∧ (erroredCell t s).pool = s.pool
    ∧ (erroredCell t s).poolExhausted = s.poolExhausted ∧ (erroredCell t s).mode = s.mode ∧ (erroredCell t s).reportMask =
    s.reportMask ∧ (erroredCell t s).dropLinks = s.dropLinks ∧ (erroredCell t s).returnLinks = s.returnLinks := by
  simp only [erroredCell]
  (repeat' split) <;> simp

@[simp] theorem goodCell_frame (t : Trunk) (s : State) :
    (goodCell t s).pending = s.pending ∧ (goodCell t s).resetLine = s.resetLine ∧ (goodCell t s).houseTime = s.houseTime ∧
    (goodCell t s).margin = s.margin ∧ (goodCell t s).formats = s.formats ∧ (goodCell t s).sources = s.sources ∧ (goodCell
    t s).dests = s.dests ∧ (goodCell t s).arms = s.arms ∧ (goodCell t s).active = s.active ∧ (goodCell t s).follow =
    s.follow ∧ (goodCell t s).switching = s.switching ∧ (goodCell t s).salvos = s.salvos ∧ (goodCell t s).pool = s.pool ∧
    (goodCell t s).poolExhausted = s.poolExhausted ∧ (goodCell t s).ports = s.ports ∧ (goodCell t s).contexts = s.contexts
    ∧ (goodCell t s).mode = s.mode ∧ (goodCell t s).reportMask = s.reportMask ∧ (goodCell t s).dropLinks = s.dropLinks ∧
    (goodCell t s).returnLinks = s.returnLinks := by
  simp only [goodCell]
  (repeat' split) <;> simp

@[simp] theorem recover_frame (t : Trunk) (s : State) :
    (recover t s).pending = s.pending ∧ (recover t s).resetLine = s.resetLine ∧ (recover t s).houseTime = s.houseTime ∧
    (recover t s).margin = s.margin ∧ (recover t s).formats = s.formats ∧ (recover t s).sources = s.sources ∧ (recover t
    s).dests = s.dests ∧ (recover t s).arms = s.arms ∧ (recover t s).active = s.active ∧ (recover t s).follow = s.follow ∧
    (recover t s).switching = s.switching ∧ (recover t s).salvos = s.salvos ∧ (recover t s).pool = s.pool ∧ (recover t
    s).poolExhausted = s.poolExhausted ∧ (recover t s).ports = s.ports ∧ (recover t s).contexts = s.contexts ∧ (recover t
    s).mode = s.mode ∧ (recover t s).reportMask = s.reportMask ∧ (recover t s).dropLinks = s.dropLinks ∧ (recover t
    s).returnLinks = s.returnLinks := by
  simp [recover]

@[simp] theorem quarantinedGood_frame (t : Trunk) (s : State) :
    (quarantinedGood t s).pending = s.pending ∧ (quarantinedGood t s).resetLine = s.resetLine ∧ (quarantinedGood t
    s).houseTime = s.houseTime ∧ (quarantinedGood t s).margin = s.margin ∧ (quarantinedGood t s).formats = s.formats ∧
    (quarantinedGood t s).sources = s.sources ∧ (quarantinedGood t s).dests = s.dests ∧ (quarantinedGood t s).arms =
    s.arms ∧ (quarantinedGood t s).active = s.active ∧ (quarantinedGood t s).follow = s.follow ∧ (quarantinedGood t
    s).switching = s.switching ∧ (quarantinedGood t s).salvos = s.salvos ∧ (quarantinedGood t s).pool = s.pool ∧
    (quarantinedGood t s).poolExhausted = s.poolExhausted ∧ (quarantinedGood t s).ports = s.ports ∧ (quarantinedGood t
    s).contexts = s.contexts ∧ (quarantinedGood t s).mode = s.mode ∧ (quarantinedGood t s).reportMask = s.reportMask ∧
    (quarantinedGood t s).dropLinks = s.dropLinks ∧ (quarantinedGood t s).returnLinks = s.returnLinks := by
  simp only [quarantinedGood]
  (repeat' split) <;> simp

@[simp] theorem erroredArrival_frame (t : Trunk) (s : State) :
    (erroredArrival t s).pending = s.pending ∧ (erroredArrival t s).resetLine = s.resetLine ∧ (erroredArrival t
    s).houseTime = s.houseTime ∧ (erroredArrival t s).margin = s.margin ∧ (erroredArrival t s).dests = s.dests ∧
    (erroredArrival t s).active = s.active ∧ (erroredArrival t s).follow = s.follow ∧ (erroredArrival t s).salvos =
    s.salvos ∧ (erroredArrival t s).pool = s.pool ∧ (erroredArrival t s).poolExhausted = s.poolExhausted ∧ (erroredArrival
    t s).mode = s.mode ∧ (erroredArrival t s).reportMask = s.reportMask ∧ (erroredArrival t s).dropLinks = s.dropLinks ∧
    (erroredArrival t s).returnLinks = s.returnLinks := by
  simp only [erroredArrival]
  (repeat' split) <;> simp

@[simp] theorem commandArrival_frame (t : Trunk) (c : Cell) (s : State) :
    (commandArrival t c s).pending = s.pending ∧ (commandArrival t c s).resetLine = s.resetLine ∧ (commandArrival t c
    s).houseTime = s.houseTime ∧ (commandArrival t c s).margin = s.margin ∧ (commandArrival t c s).formats = s.formats ∧
    (commandArrival t c s).sources = s.sources ∧ (commandArrival t c s).dests = s.dests ∧ (commandArrival t c s).arms =
    s.arms ∧ (commandArrival t c s).active = s.active ∧ (commandArrival t c s).follow = s.follow ∧ (commandArrival t c
    s).switching = s.switching ∧ (commandArrival t c s).salvos = s.salvos ∧ (commandArrival t c s).pool = s.pool ∧
    (commandArrival t c s).poolExhausted = s.poolExhausted ∧ (commandArrival t c s).ports = s.ports ∧ (commandArrival t c
    s).receivers = s.receivers ∧ (commandArrival t c s).returns = s.returns ∧ (commandArrival t c s).mode = s.mode ∧
    (commandArrival t c s).reportMask = s.reportMask ∧ (commandArrival t c s).dropLinks = s.dropLinks ∧ (commandArrival t
    c s).returnLinks = s.returnLinks := by
  simp [commandArrival]

@[simp] theorem goodArrival_frame (t : Trunk) (c : Cell) (pick : PoolNo) (s : State) :
    (goodArrival t c pick s).pending = s.pending ∧ (goodArrival t c pick s).resetLine = s.resetLine ∧ (goodArrival t c
    pick s).houseTime = s.houseTime ∧ (goodArrival t c pick s).margin = s.margin ∧ (goodArrival t c pick s).dests =
    s.dests ∧ (goodArrival t c pick s).arms = s.arms ∧ (goodArrival t c pick s).reportMask = s.reportMask ∧ (goodArrival t
    c pick s).dropLinks = s.dropLinks ∧ (goodArrival t c pick s).returnLinks = s.returnLinks := by
  simp only [goodArrival]
  (repeat' split) <;> simp

/-! ## Transmit opportunities -/

@[simp] theorem sendService_frame (p : Port) (e : ServiceEntry) (l : List ServiceEntry) (s : State) :
    (sendService p e l s).pending = s.pending ∧ (sendService p e l s).resetLine = s.resetLine ∧ (sendService p e l
    s).houseTime = s.houseTime ∧ (sendService p e l s).margin = s.margin ∧ (sendService p e l s).formats = s.formats ∧
    (sendService p e l s).sources = s.sources ∧ (sendService p e l s).dests = s.dests ∧ (sendService p e l s).arms =
    s.arms ∧ (sendService p e l s).active = s.active ∧ (sendService p e l s).follow = s.follow ∧ (sendService p e l
    s).switching = s.switching ∧ (sendService p e l s).salvos = s.salvos ∧ (sendService p e l s).pool = s.pool ∧
    (sendService p e l s).poolExhausted = s.poolExhausted ∧ (sendService p e l s).receivers = s.receivers ∧ (sendService p
    e l s).contexts = s.contexts ∧ (sendService p e l s).returns = s.returns ∧ (sendService p e l s).mode = s.mode ∧
    (sendService p e l s).reportMask = s.reportMask ∧ (sendService p e l s).returnLinks = s.returnLinks := by
  simp [sendService]

@[simp] theorem sendEssence_frame (p : Port) (e : EssenceEntry) (l : List EssenceEntry) (s : State) :
    (sendEssence p e l s).pending = s.pending ∧ (sendEssence p e l s).resetLine = s.resetLine ∧ (sendEssence p e l
    s).houseTime = s.houseTime ∧ (sendEssence p e l s).margin = s.margin ∧ (sendEssence p e l s).formats = s.formats ∧
    (sendEssence p e l s).sources = s.sources ∧ (sendEssence p e l s).dests = s.dests ∧ (sendEssence p e l s).arms =
    s.arms ∧ (sendEssence p e l s).active = s.active ∧ (sendEssence p e l s).follow = s.follow ∧ (sendEssence p e l
    s).switching = s.switching ∧ (sendEssence p e l s).salvos = s.salvos ∧ (sendEssence p e l s).poolExhausted =
    s.poolExhausted ∧ (sendEssence p e l s).receivers = s.receivers ∧ (sendEssence p e l s).contexts = s.contexts ∧
    (sendEssence p e l s).returns = s.returns ∧ (sendEssence p e l s).mode = s.mode ∧ (sendEssence p e l s).reportMask =
    s.reportMask ∧ (sendEssence p e l s).returnLinks = s.returnLinks := by
  simp [sendEssence]

@[simp] theorem sendIdle_frame (p : Port) (s : State) :
    (sendIdle p s).pending = s.pending ∧ (sendIdle p s).resetLine = s.resetLine ∧ (sendIdle p s).houseTime = s.houseTime ∧
    (sendIdle p s).margin = s.margin ∧ (sendIdle p s).formats = s.formats ∧ (sendIdle p s).sources = s.sources ∧ (sendIdle
    p s).dests = s.dests ∧ (sendIdle p s).arms = s.arms ∧ (sendIdle p s).active = s.active ∧ (sendIdle p s).follow =
    s.follow ∧ (sendIdle p s).switching = s.switching ∧ (sendIdle p s).salvos = s.salvos ∧ (sendIdle p s).pool = s.pool ∧
    (sendIdle p s).poolExhausted = s.poolExhausted ∧ (sendIdle p s).ports = s.ports ∧ (sendIdle p s).receivers =
    s.receivers ∧ (sendIdle p s).contexts = s.contexts ∧ (sendIdle p s).returns = s.returns ∧ (sendIdle p s).mode = s.mode
    ∧ (sendIdle p s).reportMask = s.reportMask ∧ (sendIdle p s).returnLinks = s.returnLinks := by
  simp [sendIdle]

@[simp] theorem dropOpportunity_frame (p : Port) (s : State) :
    (dropOpportunity p s).pending = s.pending ∧ (dropOpportunity p s).resetLine = s.resetLine ∧ (dropOpportunity p
    s).houseTime = s.houseTime ∧ (dropOpportunity p s).margin = s.margin ∧ (dropOpportunity p s).formats = s.formats ∧
    (dropOpportunity p s).sources = s.sources ∧ (dropOpportunity p s).dests = s.dests ∧ (dropOpportunity p s).arms =
    s.arms ∧ (dropOpportunity p s).active = s.active ∧ (dropOpportunity p s).follow = s.follow ∧ (dropOpportunity p
    s).switching = s.switching ∧ (dropOpportunity p s).salvos = s.salvos ∧ (dropOpportunity p s).poolExhausted =
    s.poolExhausted ∧ (dropOpportunity p s).receivers = s.receivers ∧ (dropOpportunity p s).contexts = s.contexts ∧
    (dropOpportunity p s).returns = s.returns ∧ (dropOpportunity p s).mode = s.mode ∧ (dropOpportunity p s).reportMask =
    s.reportMask ∧ (dropOpportunity p s).returnLinks = s.returnLinks := by
  simp only [dropOpportunity]
  (repeat' split) <;> simp

@[simp] theorem sendReply_frame (t : Trunk) (r : Reply) (l : List Reply) (s : State) :
    (sendReply t r l s).pending = s.pending ∧ (sendReply t r l s).resetLine = s.resetLine ∧ (sendReply t r l s).houseTime
    = s.houseTime ∧ (sendReply t r l s).margin = s.margin ∧ (sendReply t r l s).formats = s.formats ∧ (sendReply t r l
    s).sources = s.sources ∧ (sendReply t r l s).dests = s.dests ∧ (sendReply t r l s).arms = s.arms ∧ (sendReply t r l
    s).active = s.active ∧ (sendReply t r l s).follow = s.follow ∧ (sendReply t r l s).switching = s.switching ∧
    (sendReply t r l s).salvos = s.salvos ∧ (sendReply t r l s).pool = s.pool ∧ (sendReply t r l s).poolExhausted =
    s.poolExhausted ∧ (sendReply t r l s).ports = s.ports ∧ (sendReply t r l s).receivers = s.receivers ∧ (sendReply t r l
    s).contexts = s.contexts ∧ (sendReply t r l s).mode = s.mode ∧ (sendReply t r l s).reportMask = s.reportMask ∧
    (sendReply t r l s).dropLinks = s.dropLinks := by
  simp [sendReply]

@[simp] theorem sendReport_frame (t : Trunk) (r : Report) (l : List Report) (s : State) :
    (sendReport t r l s).pending = s.pending ∧ (sendReport t r l s).resetLine = s.resetLine ∧ (sendReport t r l
    s).houseTime = s.houseTime ∧ (sendReport t r l s).margin = s.margin ∧ (sendReport t r l s).formats = s.formats ∧
    (sendReport t r l s).sources = s.sources ∧ (sendReport t r l s).dests = s.dests ∧ (sendReport t r l s).arms = s.arms ∧
    (sendReport t r l s).active = s.active ∧ (sendReport t r l s).follow = s.follow ∧ (sendReport t r l s).switching =
    s.switching ∧ (sendReport t r l s).salvos = s.salvos ∧ (sendReport t r l s).pool = s.pool ∧ (sendReport t r l
    s).poolExhausted = s.poolExhausted ∧ (sendReport t r l s).ports = s.ports ∧ (sendReport t r l s).receivers =
    s.receivers ∧ (sendReport t r l s).contexts = s.contexts ∧ (sendReport t r l s).mode = s.mode ∧ (sendReport t r l
    s).reportMask = s.reportMask ∧ (sendReport t r l s).dropLinks = s.dropLinks := by
  simp [sendReport]

@[simp] theorem returnOpportunity_frame (t : Trunk) (s : State) :
    (returnOpportunity t s).pending = s.pending ∧ (returnOpportunity t s).resetLine = s.resetLine ∧ (returnOpportunity t
    s).houseTime = s.houseTime ∧ (returnOpportunity t s).margin = s.margin ∧ (returnOpportunity t s).formats = s.formats ∧
    (returnOpportunity t s).sources = s.sources ∧ (returnOpportunity t s).dests = s.dests ∧ (returnOpportunity t s).arms =
    s.arms ∧ (returnOpportunity t s).active = s.active ∧ (returnOpportunity t s).follow = s.follow ∧ (returnOpportunity t
    s).switching = s.switching ∧ (returnOpportunity t s).salvos = s.salvos ∧ (returnOpportunity t s).pool = s.pool ∧
    (returnOpportunity t s).poolExhausted = s.poolExhausted ∧ (returnOpportunity t s).ports = s.ports ∧ (returnOpportunity
    t s).receivers = s.receivers ∧ (returnOpportunity t s).contexts = s.contexts ∧ (returnOpportunity t s).mode = s.mode ∧
    (returnOpportunity t s).reportMask = s.reportMask ∧ (returnOpportunity t s).dropLinks = s.dropLinks := by
  simp only [returnOpportunity]
  (repeat' split) <;> simp

end Sys2Proof.Machine
end

