-- ==== Sys2Proof/Laws/FramesEvents.lean ====
section
/-! SUPPORT. What the operations of the events leave unchanged, field by field. -/

namespace Sys2Proof.Machine

/-! ## Commit and switch events -/

@[simp] theorem deferTake_frame (d : DestNo) (k : Take) (s : State) :
    (deferTake d k s).pending = s.pending ∧ (deferTake d k s).resetLine = s.resetLine ∧ (deferTake d k s).houseTime =
    s.houseTime ∧ (deferTake d k s).margin = s.margin ∧ (deferTake d k s).formats = s.formats ∧ (deferTake d k s).sources
    = s.sources ∧ (deferTake d k s).dests = s.dests ∧ (deferTake d k s).arms = s.arms ∧ (deferTake d k s).follow =
    s.follow ∧ (deferTake d k s).switching = s.switching ∧ (deferTake d k s).salvos = s.salvos ∧ (deferTake d k s).pool =
    s.pool ∧ (deferTake d k s).poolExhausted = s.poolExhausted ∧ (deferTake d k s).ports = s.ports ∧ (deferTake d k
    s).receivers = s.receivers ∧ (deferTake d k s).contexts = s.contexts ∧ (deferTake d k s).returns = s.returns ∧
    (deferTake d k s).mode = s.mode ∧ (deferTake d k s).reportMask = s.reportMask ∧ (deferTake d k s).dropLinks =
    s.dropLinks ∧ (deferTake d k s).returnLinks = s.returnLinks := by
  simp [deferTake]

@[simp] theorem commitTake_frame (d : DestNo) (k : Take) (s : State) :
    (commitTake d k s).pending = s.pending ∧ (commitTake d k s).resetLine = s.resetLine ∧ (commitTake d k s).houseTime =
    s.houseTime ∧ (commitTake d k s).margin = s.margin ∧ (commitTake d k s).formats = s.formats ∧ (commitTake d k
    s).sources = s.sources ∧ (commitTake d k s).dests = s.dests ∧ (commitTake d k s).arms = s.arms ∧ (commitTake d k
    s).follow = s.follow ∧ (commitTake d k s).switching = s.switching ∧ (commitTake d k s).salvos = s.salvos ∧ (commitTake
    d k s).pool = s.pool ∧ (commitTake d k s).poolExhausted = s.poolExhausted ∧ (commitTake d k s).ports = s.ports ∧
    (commitTake d k s).receivers = s.receivers ∧ (commitTake d k s).contexts = s.contexts ∧ (commitTake d k s).returns =
    s.returns ∧ (commitTake d k s).mode = s.mode ∧ (commitTake d k s).reportMask = s.reportMask ∧ (commitTake d k
    s).dropLinks = s.dropLinks ∧ (commitTake d k s).returnLinks = s.returnLinks := by
  simp [commitTake]

@[simp] theorem commitArmed_frame (d : DestNo) (k : Take) (s : State) :
    (commitArmed d k s).pending = s.pending ∧ (commitArmed d k s).resetLine = s.resetLine ∧ (commitArmed d k s).houseTime
    = s.houseTime ∧ (commitArmed d k s).margin = s.margin ∧ (commitArmed d k s).formats = s.formats ∧ (commitArmed d k
    s).sources = s.sources ∧ (commitArmed d k s).dests = s.dests ∧ (commitArmed d k s).arms = s.arms ∧ (commitArmed d k
    s).follow = s.follow ∧ (commitArmed d k s).switching = s.switching ∧ (commitArmed d k s).pool = s.pool ∧ (commitArmed
    d k s).poolExhausted = s.poolExhausted ∧ (commitArmed d k s).receivers = s.receivers ∧ (commitArmed d k s).contexts =
    s.contexts ∧ (commitArmed d k s).mode = s.mode ∧ (commitArmed d k s).reportMask = s.reportMask ∧ (commitArmed d k
    s).dropLinks = s.dropLinks ∧ (commitArmed d k s).returnLinks = s.returnLinks := by
  simp only [commitArmed]
  (repeat' split) <;> simp

@[simp] theorem commitPair_frame (d p : DestNo) (k q : Take) (s : State) :
    (commitPair d p k q s).pending = s.pending ∧ (commitPair d p k q s).resetLine = s.resetLine ∧ (commitPair d p k q
    s).houseTime = s.houseTime ∧ (commitPair d p k q s).margin = s.margin ∧ (commitPair d p k q s).formats = s.formats ∧
    (commitPair d p k q s).sources = s.sources ∧ (commitPair d p k q s).dests = s.dests ∧ (commitPair d p k q s).arms =
    s.arms ∧ (commitPair d p k q s).follow = s.follow ∧ (commitPair d p k q s).switching = s.switching ∧ (commitPair d p k
    q s).salvos = s.salvos ∧ (commitPair d p k q s).pool = s.pool ∧ (commitPair d p k q s).poolExhausted = s.poolExhausted
    ∧ (commitPair d p k q s).ports = s.ports ∧ (commitPair d p k q s).receivers = s.receivers ∧ (commitPair d p k q
    s).contexts = s.contexts ∧ (commitPair d p k q s).returns = s.returns ∧ (commitPair d p k q s).mode = s.mode ∧
    (commitPair d p k q s).reportMask = s.reportMask ∧ (commitPair d p k q s).dropLinks = s.dropLinks ∧ (commitPair d p k
    q s).returnLinks = s.returnLinks := by
  simp only [commitPair]
  (repeat' split) <;> simp

@[simp] theorem moveUsage_frame (a b : Option SourceNo) (s : State) :
    (moveUsage a b s).pending = s.pending ∧ (moveUsage a b s).resetLine = s.resetLine ∧ (moveUsage a b s).houseTime =
    s.houseTime ∧ (moveUsage a b s).margin = s.margin ∧ (moveUsage a b s).formats = s.formats ∧ (moveUsage a b s).dests =
    s.dests ∧ (moveUsage a b s).arms = s.arms ∧ (moveUsage a b s).active = s.active ∧ (moveUsage a b s).follow = s.follow
    ∧ (moveUsage a b s).switching = s.switching ∧ (moveUsage a b s).salvos = s.salvos ∧ (moveUsage a b s).pool = s.pool ∧
    (moveUsage a b s).poolExhausted = s.poolExhausted ∧ (moveUsage a b s).ports = s.ports ∧ (moveUsage a b s).receivers =
    s.receivers ∧ (moveUsage a b s).contexts = s.contexts ∧ (moveUsage a b s).returns = s.returns ∧ (moveUsage a b s).mode
    = s.mode ∧ (moveUsage a b s).reportMask = s.reportMask ∧ (moveUsage a b s).dropLinks = s.dropLinks ∧ (moveUsage a b
    s).returnLinks = s.returnLinks := by
  simp only [moveUsage]
  (repeat' split) <;> simp

@[simp] theorem setCurrent_frame (d : DestNo) (o : Option SourceNo) (s : State) :
    (setCurrent d o s).pending = s.pending ∧ (setCurrent d o s).resetLine = s.resetLine ∧ (setCurrent d o s).houseTime =
    s.houseTime ∧ (setCurrent d o s).margin = s.margin ∧ (setCurrent d o s).formats = s.formats ∧ (setCurrent d o s).arms
    = s.arms ∧ (setCurrent d o s).active = s.active ∧ (setCurrent d o s).follow = s.follow ∧ (setCurrent d o s).switching
    = s.switching ∧ (setCurrent d o s).salvos = s.salvos ∧ (setCurrent d o s).pool = s.pool ∧ (setCurrent d o
    s).poolExhausted = s.poolExhausted ∧ (setCurrent d o s).ports = s.ports ∧ (setCurrent d o s).receivers = s.receivers ∧
    (setCurrent d o s).contexts = s.contexts ∧ (setCurrent d o s).returns = s.returns ∧ (setCurrent d o s).mode = s.mode ∧
    (setCurrent d o s).reportMask = s.reportMask ∧ (setCurrent d o s).dropLinks = s.dropLinks ∧ (setCurrent d o
    s).returnLinks = s.returnLinks := by
  simp [setCurrent]

@[simp] theorem switchCut_frame (d : DestNo) (o : Option SourceNo) (x : Time) (s : State) :
    (switchCut d o x s).pending = s.pending ∧ (switchCut d o x s).resetLine = s.resetLine ∧ (switchCut d o x s).houseTime
    = s.houseTime ∧ (switchCut d o x s).margin = s.margin ∧ (switchCut d o x s).formats = s.formats ∧ (switchCut d o x
    s).sources = s.sources ∧ (switchCut d o x s).dests = s.dests ∧ (switchCut d o x s).arms = s.arms ∧ (switchCut d o x
    s).pool = s.pool ∧ (switchCut d o x s).poolExhausted = s.poolExhausted ∧ (switchCut d o x s).receivers = s.receivers ∧
    (switchCut d o x s).contexts = s.contexts ∧ (switchCut d o x s).reportMask = s.reportMask ∧ (switchCut d o x
    s).dropLinks = s.dropLinks ∧ (switchCut d o x s).returnLinks = s.returnLinks := by
  simp only [switchCut]
  (repeat' split) <;> simp

@[simp] theorem giveUpJoining_frame (d : DestNo) (s : State) :
    (giveUpJoining d s).pending = s.pending ∧ (giveUpJoining d s).resetLine = s.resetLine ∧ (giveUpJoining d s).houseTime
    = s.houseTime ∧ (giveUpJoining d s).margin = s.margin ∧ (giveUpJoining d s).formats = s.formats ∧ (giveUpJoining d
    s).sources = s.sources ∧ (giveUpJoining d s).dests = s.dests ∧ (giveUpJoining d s).arms = s.arms ∧ (giveUpJoining d
    s).pool = s.pool ∧ (giveUpJoining d s).poolExhausted = s.poolExhausted ∧ (giveUpJoining d s).receivers = s.receivers ∧
    (giveUpJoining d s).contexts = s.contexts ∧ (giveUpJoining d s).reportMask = s.reportMask ∧ (giveUpJoining d
    s).dropLinks = s.dropLinks ∧ (giveUpJoining d s).returnLinks = s.returnLinks := by
  simp [giveUpJoining]

end Sys2Proof.Machine
end

