-- ==== Sys2Proof/Laws/FramesCommands.lean ====
section
/-! SUPPORT. What the operations of the commands leave unchanged, field by field. -/

namespace Sys2Proof.Machine

/-! ## Takes -/

@[simp] theorem cancelPending_frame (d : DestNo) (p : Take → Bool) (s : State) :
    (cancelPending d p s).pending = s.pending ∧ (cancelPending d p s).resetLine = s.resetLine ∧ (cancelPending d p
    s).houseTime = s.houseTime ∧ (cancelPending d p s).margin = s.margin ∧ (cancelPending d p s).formats = s.formats ∧
    (cancelPending d p s).sources = s.sources ∧ (cancelPending d p s).dests = s.dests ∧ (cancelPending d p s).arms =
    s.arms ∧ (cancelPending d p s).switching = s.switching ∧ (cancelPending d p s).pool = s.pool ∧ (cancelPending d p
    s).poolExhausted = s.poolExhausted ∧ (cancelPending d p s).ports = s.ports ∧ (cancelPending d p s).receivers =
    s.receivers ∧ (cancelPending d p s).contexts = s.contexts ∧ (cancelPending d p s).mode = s.mode ∧ (cancelPending d p
    s).reportMask = s.reportMask ∧ (cancelPending d p s).dropLinks = s.dropLinks ∧ (cancelPending d p s).returnLinks =
    s.returnLinks := by
  simp only [cancelPending]
  (repeat' split) <;> simp

@[simp] theorem placeHalf_frame (k : Take) (d e : DestNo) (s : State) :
    (placeHalf k d e s).pending = s.pending ∧ (placeHalf k d e s).resetLine = s.resetLine ∧ (placeHalf k d e s).houseTime
    = s.houseTime ∧ (placeHalf k d e s).margin = s.margin ∧ (placeHalf k d e s).formats = s.formats ∧ (placeHalf k d e
    s).sources = s.sources ∧ (placeHalf k d e s).dests = s.dests ∧ (placeHalf k d e s).arms = s.arms ∧ (placeHalf k d e
    s).follow = s.follow ∧ (placeHalf k d e s).switching = s.switching ∧ (placeHalf k d e s).salvos = s.salvos ∧
    (placeHalf k d e s).pool = s.pool ∧ (placeHalf k d e s).poolExhausted = s.poolExhausted ∧ (placeHalf k d e s).ports =
    s.ports ∧ (placeHalf k d e s).receivers = s.receivers ∧ (placeHalf k d e s).contexts = s.contexts ∧ (placeHalf k d e
    s).returns = s.returns ∧ (placeHalf k d e s).mode = s.mode ∧ (placeHalf k d e s).reportMask = s.reportMask ∧
    (placeHalf k d e s).dropLinks = s.dropLinks ∧ (placeHalf k d e s).returnLinks = s.returnLinks := by
  simp [placeHalf]

@[simp] theorem displayPlaced_frame (b : State) (d : DestNo) (s : State) :
    (displayPlaced b d s).pending = s.pending ∧ (displayPlaced b d s).resetLine = s.resetLine ∧ (displayPlaced b d
    s).houseTime = s.houseTime ∧ (displayPlaced b d s).margin = s.margin ∧ (displayPlaced b d s).formats = s.formats ∧
    (displayPlaced b d s).sources = s.sources ∧ (displayPlaced b d s).dests = s.dests ∧ (displayPlaced b d s).arms =
    s.arms ∧ (displayPlaced b d s).active = s.active ∧ (displayPlaced b d s).follow = s.follow ∧ (displayPlaced b d
    s).switching = s.switching ∧ (displayPlaced b d s).salvos = s.salvos ∧ (displayPlaced b d s).pool = s.pool ∧
    (displayPlaced b d s).poolExhausted = s.poolExhausted ∧ (displayPlaced b d s).receivers = s.receivers ∧ (displayPlaced
    b d s).contexts = s.contexts ∧ (displayPlaced b d s).returns = s.returns ∧ (displayPlaced b d s).mode = s.mode ∧
    (displayPlaced b d s).reportMask = s.reportMask ∧ (displayPlaced b d s).dropLinks = s.dropLinks ∧ (displayPlaced b d
    s).returnLinks = s.returnLinks := by
  simp only [displayPlaced]
  (repeat' split) <;> simp

@[simp] theorem createPair_frame (k : Take) (d e : DestNo) (s : State) :
    (createPair k d e s).pending = s.pending ∧ (createPair k d e s).resetLine = s.resetLine ∧ (createPair k d e
    s).houseTime = s.houseTime ∧ (createPair k d e s).margin = s.margin ∧ (createPair k d e s).formats = s.formats ∧
    (createPair k d e s).sources = s.sources ∧ (createPair k d e s).dests = s.dests ∧ (createPair k d e s).arms = s.arms ∧
    (createPair k d e s).follow = s.follow ∧ (createPair k d e s).switching = s.switching ∧ (createPair k d e s).pool =
    s.pool ∧ (createPair k d e s).poolExhausted = s.poolExhausted ∧ (createPair k d e s).receivers = s.receivers ∧
    (createPair k d e s).contexts = s.contexts ∧ (createPair k d e s).mode = s.mode ∧ (createPair k d e s).reportMask =
    s.reportMask ∧ (createPair k d e s).dropLinks = s.dropLinks ∧ (createPair k d e s).returnLinks = s.returnLinks := by
  simp [createPair]

@[simp] theorem firePair_frame (b : State) (n : SlotNo) (t : Trunk) (g : Tag) (x : Target) (p : Pair) (s : State) :
    (firePair b n t g x p s).pending = s.pending ∧ (firePair b n t g x p s).resetLine = s.resetLine ∧ (firePair b n t g x
    p s).houseTime = s.houseTime ∧ (firePair b n t g x p s).margin = s.margin ∧ (firePair b n t g x p s).formats =
    s.formats ∧ (firePair b n t g x p s).sources = s.sources ∧ (firePair b n t g x p s).dests = s.dests ∧ (firePair b n t
    g x p s).arms = s.arms ∧ (firePair b n t g x p s).switching = s.switching ∧ (firePair b n t g x p s).pool = s.pool ∧
    (firePair b n t g x p s).poolExhausted = s.poolExhausted ∧ (firePair b n t g x p s).receivers = s.receivers ∧
    (firePair b n t g x p s).contexts = s.contexts ∧ (firePair b n t g x p s).mode = s.mode ∧ (firePair b n t g x p
    s).reportMask = s.reportMask ∧ (firePair b n t g x p s).dropLinks = s.dropLinks ∧ (firePair b n t g x p s).returnLinks
    = s.returnLinks := by
  simp [firePair]

/-! ## Definitions -/

@[simp] theorem storeProtection_frame (d : DestNo) (p : Protection) (b : Byte) (s : State) :
    (storeProtection d p b s).pending = s.pending ∧ (storeProtection d p b s).resetLine = s.resetLine ∧ (storeProtection d
    p b s).houseTime = s.houseTime ∧ (storeProtection d p b s).margin = s.margin ∧ (storeProtection d p b s).formats =
    s.formats ∧ (storeProtection d p b s).sources = s.sources ∧ (storeProtection d p b s).arms = s.arms ∧ (storeProtection
    d p b s).active = s.active ∧ (storeProtection d p b s).follow = s.follow ∧ (storeProtection d p b s).switching =
    s.switching ∧ (storeProtection d p b s).salvos = s.salvos ∧ (storeProtection d p b s).pool = s.pool ∧ (storeProtection
    d p b s).poolExhausted = s.poolExhausted ∧ (storeProtection d p b s).receivers = s.receivers ∧ (storeProtection d p b
    s).contexts = s.contexts ∧ (storeProtection d p b s).returns = s.returns ∧ (storeProtection d p b s).mode = s.mode ∧
    (storeProtection d p b s).reportMask = s.reportMask ∧ (storeProtection d p b s).dropLinks = s.dropLinks ∧
    (storeProtection d p b s).returnLinks = s.returnLinks := by
  simp only [storeProtection]
  (repeat' split) <;> simp

@[simp] theorem storeRecording_frame (d : DestNo) (b : Bool) (s : State) :
    (storeRecording d b s).pending = s.pending ∧ (storeRecording d b s).resetLine = s.resetLine ∧ (storeRecording d b
    s).houseTime = s.houseTime ∧ (storeRecording d b s).margin = s.margin ∧ (storeRecording d b s).formats = s.formats ∧
    (storeRecording d b s).sources = s.sources ∧ (storeRecording d b s).arms = s.arms ∧ (storeRecording d b s).active =
    s.active ∧ (storeRecording d b s).follow = s.follow ∧ (storeRecording d b s).switching = s.switching ∧ (storeRecording
    d b s).salvos = s.salvos ∧ (storeRecording d b s).pool = s.pool ∧ (storeRecording d b s).poolExhausted =
    s.poolExhausted ∧ (storeRecording d b s).ports = s.ports ∧ (storeRecording d b s).receivers = s.receivers ∧
    (storeRecording d b s).contexts = s.contexts ∧ (storeRecording d b s).returns = s.returns ∧ (storeRecording d b
    s).mode = s.mode ∧ (storeRecording d b s).reportMask = s.reportMask ∧ (storeRecording d b s).dropLinks = s.dropLinks ∧
    (storeRecording d b s).returnLinks = s.returnLinks := by
  simp [storeRecording]

@[simp] theorem displayRecording_frame (d : DestNo) (a b : Bool) (s : State) :
    (displayRecording d a b s).pending = s.pending ∧ (displayRecording d a b s).resetLine = s.resetLine ∧
    (displayRecording d a b s).houseTime = s.houseTime ∧ (displayRecording d a b s).margin = s.margin ∧ (displayRecording
    d a b s).formats = s.formats ∧ (displayRecording d a b s).sources = s.sources ∧ (displayRecording d a b s).dests =
    s.dests ∧ (displayRecording d a b s).arms = s.arms ∧ (displayRecording d a b s).active = s.active ∧ (displayRecording
    d a b s).follow = s.follow ∧ (displayRecording d a b s).switching = s.switching ∧ (displayRecording d a b s).salvos =
    s.salvos ∧ (displayRecording d a b s).pool = s.pool ∧ (displayRecording d a b s).poolExhausted = s.poolExhausted ∧
    (displayRecording d a b s).receivers = s.receivers ∧ (displayRecording d a b s).contexts = s.contexts ∧
    (displayRecording d a b s).returns = s.returns ∧ (displayRecording d a b s).mode = s.mode ∧ (displayRecording d a b
    s).reportMask = s.reportMask ∧ (displayRecording d a b s).dropLinks = s.dropLinks ∧ (displayRecording d a b
    s).returnLinks = s.returnLinks := by
  simp only [displayRecording]
  (repeat' split) <;> simp

@[simp] theorem storeClass_frame (d : DestNo) (c : DestClass) (s : State) :
    (storeClass d c s).pending = s.pending ∧ (storeClass d c s).resetLine = s.resetLine ∧ (storeClass d c s).houseTime =
    s.houseTime ∧ (storeClass d c s).margin = s.margin ∧ (storeClass d c s).formats = s.formats ∧ (storeClass d c
    s).sources = s.sources ∧ (storeClass d c s).arms = s.arms ∧ (storeClass d c s).active = s.active ∧ (storeClass d c
    s).follow = s.follow ∧ (storeClass d c s).switching = s.switching ∧ (storeClass d c s).salvos = s.salvos ∧ (storeClass
    d c s).pool = s.pool ∧ (storeClass d c s).poolExhausted = s.poolExhausted ∧ (storeClass d c s).receivers = s.receivers
    ∧ (storeClass d c s).contexts = s.contexts ∧ (storeClass d c s).returns = s.returns ∧ (storeClass d c s).mode = s.mode
    ∧ (storeClass d c s).reportMask = s.reportMask ∧ (storeClass d c s).dropLinks = s.dropLinks ∧ (storeClass d c
    s).returnLinks = s.returnLinks := by
  simp only [storeClass]
  (repeat' split) <;> simp

@[simp] theorem undefineDest_frame (d : DestNo) (s : State) :
    (undefineDest d s).pending = s.pending ∧ (undefineDest d s).resetLine = s.resetLine ∧ (undefineDest d s).houseTime =
    s.houseTime ∧ (undefineDest d s).margin = s.margin ∧ (undefineDest d s).formats = s.formats ∧ (undefineDest d
    s).sources = s.sources ∧ (undefineDest d s).arms = s.arms ∧ (undefineDest d s).active = s.active ∧ (undefineDest d
    s).follow = s.follow ∧ (undefineDest d s).salvos = s.salvos ∧ (undefineDest d s).pool = s.pool ∧ (undefineDest d
    s).poolExhausted = s.poolExhausted ∧ (undefineDest d s).ports = s.ports ∧ (undefineDest d s).receivers = s.receivers ∧
    (undefineDest d s).contexts = s.contexts ∧ (undefineDest d s).returns = s.returns ∧ (undefineDest d s).mode = s.mode ∧
    (undefineDest d s).reportMask = s.reportMask ∧ (undefineDest d s).dropLinks = s.dropLinks ∧ (undefineDest d
    s).returnLinks = s.returnLinks := by
  simp [undefineDest]

@[simp] theorem offsetMoved_frame (d : DestNo) (s : State) :
    (offsetMoved d s).pending = s.pending ∧ (offsetMoved d s).resetLine = s.resetLine ∧ (offsetMoved d s).houseTime =
    s.houseTime ∧ (offsetMoved d s).margin = s.margin ∧ (offsetMoved d s).formats = s.formats ∧ (offsetMoved d s).sources
    = s.sources ∧ (offsetMoved d s).dests = s.dests ∧ (offsetMoved d s).arms = s.arms ∧ (offsetMoved d s).follow =
    s.follow ∧ (offsetMoved d s).salvos = s.salvos ∧ (offsetMoved d s).pool = s.pool ∧ (offsetMoved d s).poolExhausted =
    s.poolExhausted ∧ (offsetMoved d s).ports = s.ports ∧ (offsetMoved d s).receivers = s.receivers ∧ (offsetMoved d
    s).contexts = s.contexts ∧ (offsetMoved d s).returns = s.returns ∧ (offsetMoved d s).mode = s.mode ∧ (offsetMoved d
    s).reportMask = s.reportMask ∧ (offsetMoved d s).dropLinks = s.dropLinks ∧ (offsetMoved d s).returnLinks =
    s.returnLinks := by
  simp [offsetMoved]

@[simp] theorem formatDest_frame (d : DestNo) (f : FormatNo) (o : Int) (s : State) :
    (formatDest d f o s).pending = s.pending ∧ (formatDest d f o s).resetLine = s.resetLine ∧ (formatDest d f o
    s).houseTime = s.houseTime ∧ (formatDest d f o s).margin = s.margin ∧ (formatDest d f o s).formats = s.formats ∧
    (formatDest d f o s).sources = s.sources ∧ (formatDest d f o s).arms = s.arms ∧ (formatDest d f o s).follow = s.follow
    ∧ (formatDest d f o s).salvos = s.salvos ∧ (formatDest d f o s).pool = s.pool ∧ (formatDest d f o s).poolExhausted =
    s.poolExhausted ∧ (formatDest d f o s).receivers = s.receivers ∧ (formatDest d f o s).contexts = s.contexts ∧
    (formatDest d f o s).returns = s.returns ∧ (formatDest d f o s).mode = s.mode ∧ (formatDest d f o s).reportMask =
    s.reportMask ∧ (formatDest d f o s).dropLinks = s.dropLinks ∧ (formatDest d f o s).returnLinks = s.returnLinks := by
  simp only [formatDest]
  (repeat' split) <;> simp

@[simp] theorem storeFormat_frame (n : SourceNo) (o : Option FormatNo) (s : State) :
    (storeFormat n o s).pending = s.pending ∧ (storeFormat n o s).resetLine = s.resetLine ∧ (storeFormat n o s).houseTime
    = s.houseTime ∧ (storeFormat n o s).margin = s.margin ∧ (storeFormat n o s).dests = s.dests ∧ (storeFormat n o s).arms
    = s.arms ∧ (storeFormat n o s).active = s.active ∧ (storeFormat n o s).follow = s.follow ∧ (storeFormat n o s).salvos
    = s.salvos ∧ (storeFormat n o s).pool = s.pool ∧ (storeFormat n o s).poolExhausted = s.poolExhausted ∧ (storeFormat n
    o s).receivers = s.receivers ∧ (storeFormat n o s).contexts = s.contexts ∧ (storeFormat n o s).mode = s.mode ∧
    (storeFormat n o s).reportMask = s.reportMask ∧ (storeFormat n o s).dropLinks = s.dropLinks ∧ (storeFormat n o
    s).returnLinks = s.returnLinks := by
  simp only [storeFormat]
  (repeat' split) <;> simp

@[simp] theorem storeLabel_frame (n : SourceNo) (x : Tbl Byte 16) (s : State) :
    (storeLabel n x s).pending = s.pending ∧ (storeLabel n x s).resetLine = s.resetLine ∧ (storeLabel n x s).houseTime =
    s.houseTime ∧ (storeLabel n x s).margin = s.margin ∧ (storeLabel n x s).formats = s.formats ∧ (storeLabel n x s).dests
    = s.dests ∧ (storeLabel n x s).arms = s.arms ∧ (storeLabel n x s).active = s.active ∧ (storeLabel n x s).follow =
    s.follow ∧ (storeLabel n x s).switching = s.switching ∧ (storeLabel n x s).salvos = s.salvos ∧ (storeLabel n x s).pool
    = s.pool ∧ (storeLabel n x s).poolExhausted = s.poolExhausted ∧ (storeLabel n x s).receivers = s.receivers ∧
    (storeLabel n x s).contexts = s.contexts ∧ (storeLabel n x s).returns = s.returns ∧ (storeLabel n x s).mode = s.mode ∧
    (storeLabel n x s).reportMask = s.reportMask ∧ (storeLabel n x s).dropLinks = s.dropLinks ∧ (storeLabel n x
    s).returnLinks = s.returnLinks := by
  simp only [storeLabel]
  (repeat' split) <;> simp

@[simp] theorem cancelAllArmed_frame (s : State) :
    (cancelAllArmed s).pending = s.pending ∧ (cancelAllArmed s).resetLine = s.resetLine ∧ (cancelAllArmed s).houseTime =
    s.houseTime ∧ (cancelAllArmed s).margin = s.margin ∧ (cancelAllArmed s).formats = s.formats ∧ (cancelAllArmed
    s).sources = s.sources ∧ (cancelAllArmed s).dests = s.dests ∧ (cancelAllArmed s).arms = s.arms ∧ (cancelAllArmed
    s).follow = s.follow ∧ (cancelAllArmed s).switching = s.switching ∧ (cancelAllArmed s).pool = s.pool ∧ (cancelAllArmed
    s).poolExhausted = s.poolExhausted ∧ (cancelAllArmed s).ports = s.ports ∧ (cancelAllArmed s).receivers = s.receivers ∧
    (cancelAllArmed s).contexts = s.contexts ∧ (cancelAllArmed s).mode = s.mode ∧ (cancelAllArmed s).reportMask =
    s.reportMask ∧ (cancelAllArmed s).dropLinks = s.dropLinks ∧ (cancelAllArmed s).returnLinks = s.returnLinks := by
  unfold cancelAllArmed
  exact ⟨foldl_keeps _ State.pending (fun s a => by split <;> simp) _ s,
    foldl_keeps _ State.resetLine (fun s a => by split <;> simp) _ s,
    foldl_keeps _ State.houseTime (fun s a => by split <;> simp) _ s,
    foldl_keeps _ State.margin (fun s a => by split <;> simp) _ s,
    foldl_keeps _ State.formats (fun s a => by split <;> simp) _ s,
    foldl_keeps _ State.sources (fun s a => by split <;> simp) _ s,
    foldl_keeps _ State.dests (fun s a => by split <;> simp) _ s,
    foldl_keeps _ State.arms (fun s a => by split <;> simp) _ s,
    foldl_keeps _ State.follow (fun s a => by split <;> simp) _ s,
    foldl_keeps _ State.switching (fun s a => by split <;> simp) _ s,
    foldl_keeps _ State.pool (fun s a => by split <;> simp) _ s,
    foldl_keeps _ State.poolExhausted (fun s a => by split <;> simp) _ s,
    foldl_keeps _ State.ports (fun s a => by split <;> simp) _ s,
    foldl_keeps _ State.receivers (fun s a => by split <;> simp) _ s,
    foldl_keeps _ State.contexts (fun s a => by split <;> simp) _ s,
    foldl_keeps _ State.mode (fun s a => by split <;> simp) _ s,
    foldl_keeps _ State.reportMask (fun s a => by split <;> simp) _ s,
    foldl_keeps _ State.dropLinks (fun s a => by split <;> simp) _ s,
    foldl_keeps _ State.returnLinks (fun s a => by split <;> simp) _ s⟩

@[simp] theorem shiftTimes_frame (x : Time) (s : State) :
    (shiftTimes x s).pending = s.pending ∧ (shiftTimes x s).resetLine = s.resetLine ∧ (shiftTimes x s).margin = s.margin ∧
    (shiftTimes x s).dests = s.dests ∧ (shiftTimes x s).arms = s.arms ∧ (shiftTimes x s).active = s.active ∧ (shiftTimes x
    s).follow = s.follow ∧ (shiftTimes x s).salvos = s.salvos ∧ (shiftTimes x s).pool = s.pool ∧ (shiftTimes x
    s).poolExhausted = s.poolExhausted ∧ (shiftTimes x s).ports = s.ports ∧ (shiftTimes x s).receivers = s.receivers ∧
    (shiftTimes x s).contexts = s.contexts ∧ (shiftTimes x s).returns = s.returns ∧ (shiftTimes x s).mode = s.mode ∧
    (shiftTimes x s).reportMask = s.reportMask ∧ (shiftTimes x s).dropLinks = s.dropLinks ∧ (shiftTimes x s).returnLinks =
    s.returnLinks := by
  simp [shiftTimes]

@[simp] theorem clampOffsets_frame (f : FormatNo) (s : State) :
    (clampOffsets f s).pending = s.pending ∧ (clampOffsets f s).resetLine = s.resetLine ∧ (clampOffsets f s).houseTime =
    s.houseTime ∧ (clampOffsets f s).margin = s.margin ∧ (clampOffsets f s).formats = s.formats ∧ (clampOffsets f
    s).sources = s.sources ∧ (clampOffsets f s).arms = s.arms ∧ (clampOffsets f s).active = s.active ∧ (clampOffsets f
    s).follow = s.follow ∧ (clampOffsets f s).switching = s.switching ∧ (clampOffsets f s).salvos = s.salvos ∧
    (clampOffsets f s).pool = s.pool ∧ (clampOffsets f s).poolExhausted = s.poolExhausted ∧ (clampOffsets f s).ports =
    s.ports ∧ (clampOffsets f s).receivers = s.receivers ∧ (clampOffsets f s).contexts = s.contexts ∧ (clampOffsets f
    s).returns = s.returns ∧ (clampOffsets f s).mode = s.mode ∧ (clampOffsets f s).reportMask = s.reportMask ∧
    (clampOffsets f s).dropLinks = s.dropLinks ∧ (clampOffsets f s).returnLinks = s.returnLinks := by
  simp [clampOffsets]

@[simp] theorem redefineFormat_frame (f : FormatNo) (c : Cadence) (s : State) :
    (redefineFormat f c s).pending = s.pending ∧ (redefineFormat f c s).resetLine = s.resetLine ∧ (redefineFormat f c
    s).houseTime = s.houseTime ∧ (redefineFormat f c s).margin = s.margin ∧ (redefineFormat f c s).sources = s.sources ∧
    (redefineFormat f c s).arms = s.arms ∧ (redefineFormat f c s).follow = s.follow ∧ (redefineFormat f c s).salvos =
    s.salvos ∧ (redefineFormat f c s).pool = s.pool ∧ (redefineFormat f c s).poolExhausted = s.poolExhausted ∧
    (redefineFormat f c s).ports = s.ports ∧ (redefineFormat f c s).receivers = s.receivers ∧ (redefineFormat f c
    s).contexts = s.contexts ∧ (redefineFormat f c s).returns = s.returns ∧ (redefineFormat f c s).mode = s.mode ∧
    (redefineFormat f c s).reportMask = s.reportMask ∧ (redefineFormat f c s).dropLinks = s.dropLinks ∧ (redefineFormat f
    c s).returnLinks = s.returnLinks := by
  simp [redefineFormat]

/-! ## Modes and resets -/

@[simp] theorem holdMode_frame (s : State) :
    (holdMode s).pending = s.pending ∧ (holdMode s).resetLine = s.resetLine ∧ (holdMode s).houseTime = s.houseTime ∧
    (holdMode s).margin = s.margin ∧ (holdMode s).formats = s.formats ∧ (holdMode s).sources = s.sources ∧ (holdMode
    s).dests = s.dests ∧ (holdMode s).arms = s.arms ∧ (holdMode s).active = s.active ∧ (holdMode s).follow = s.follow ∧
    (holdMode s).switching = s.switching ∧ (holdMode s).salvos = s.salvos ∧ (holdMode s).pool = s.pool ∧ (holdMode
    s).poolExhausted = s.poolExhausted ∧ (holdMode s).ports = s.ports ∧ (holdMode s).receivers = s.receivers ∧ (holdMode
    s).contexts = s.contexts ∧ (holdMode s).reportMask = s.reportMask ∧ (holdMode s).dropLinks = s.dropLinks ∧ (holdMode
    s).returnLinks = s.returnLinks := by
  simp only [holdMode]
  (repeat' split) <;> simp

@[simp] theorem retargetAll_frame (s : State) :
    (retargetAll s).pending = s.pending ∧ (retargetAll s).resetLine = s.resetLine ∧ (retargetAll s).houseTime =
    s.houseTime ∧ (retargetAll s).margin = s.margin ∧ (retargetAll s).formats = s.formats ∧ (retargetAll s).sources =
    s.sources ∧ (retargetAll s).dests = s.dests ∧ (retargetAll s).arms = s.arms ∧ (retargetAll s).follow = s.follow ∧
    (retargetAll s).switching = s.switching ∧ (retargetAll s).salvos = s.salvos ∧ (retargetAll s).pool = s.pool ∧
    (retargetAll s).poolExhausted = s.poolExhausted ∧ (retargetAll s).ports = s.ports ∧ (retargetAll s).receivers =
    s.receivers ∧ (retargetAll s).contexts = s.contexts ∧ (retargetAll s).returns = s.returns ∧ (retargetAll s).mode =
    s.mode ∧ (retargetAll s).reportMask = s.reportMask ∧ (retargetAll s).dropLinks = s.dropLinks ∧ (retargetAll
    s).returnLinks = s.returnLinks := by
  simp [retargetAll]

@[simp] theorem clearCounters_frame (s : State) :
    (clearCounters s).pending = s.pending ∧ (clearCounters s).resetLine = s.resetLine ∧ (clearCounters s).houseTime =
    s.houseTime ∧ (clearCounters s).margin = s.margin ∧ (clearCounters s).dests = s.dests ∧ (clearCounters s).arms =
    s.arms ∧ (clearCounters s).active = s.active ∧ (clearCounters s).follow = s.follow ∧ (clearCounters s).switching =
    s.switching ∧ (clearCounters s).salvos = s.salvos ∧ (clearCounters s).pool = s.pool ∧ (clearCounters s).mode = s.mode
    ∧ (clearCounters s).reportMask = s.reportMask ∧ (clearCounters s).dropLinks = s.dropLinks ∧ (clearCounters
    s).returnLinks = s.returnLinks := by
  simp [clearCounters]

@[simp] theorem evaluateAll_frame (s : State) :
    (evaluateAll s).pending = s.pending ∧ (evaluateAll s).resetLine = s.resetLine ∧ (evaluateAll s).houseTime =
    s.houseTime ∧ (evaluateAll s).margin = s.margin ∧ (evaluateAll s).sources = s.sources ∧ (evaluateAll s).dests =
    s.dests ∧ (evaluateAll s).arms = s.arms ∧ (evaluateAll s).active = s.active ∧ (evaluateAll s).follow = s.follow ∧
    (evaluateAll s).switching = s.switching ∧ (evaluateAll s).salvos = s.salvos ∧ (evaluateAll s).pool = s.pool ∧
    (evaluateAll s).poolExhausted = s.poolExhausted ∧ (evaluateAll s).ports = s.ports ∧ (evaluateAll s).receivers =
    s.receivers ∧ (evaluateAll s).contexts = s.contexts ∧ (evaluateAll s).returns = s.returns ∧ (evaluateAll s).mode =
    s.mode ∧ (evaluateAll s).reportMask = s.reportMask ∧ (evaluateAll s).dropLinks = s.dropLinks ∧ (evaluateAll
    s).returnLinks = s.returnLinks := by
  simp [evaluateAll]

@[simp] theorem warmRecords_frame (s : State) :
    (warmRecords s).pending = s.pending ∧ (warmRecords s).resetLine = s.resetLine ∧ (warmRecords s).houseTime =
    s.houseTime ∧ (warmRecords s).margin = s.margin ∧ (warmRecords s).dests = s.dests ∧ (warmRecords s).switching =
    s.switching ∧ (warmRecords s).pool = s.pool ∧ (warmRecords s).poolExhausted = s.poolExhausted ∧ (warmRecords s).ports
    = s.ports ∧ (warmRecords s).receivers = s.receivers ∧ (warmRecords s).returns = s.returns ∧ (warmRecords s).mode =
    s.mode ∧ (warmRecords s).reportMask = s.reportMask ∧ (warmRecords s).dropLinks = s.dropLinks ∧ (warmRecords
    s).returnLinks = s.returnLinks := by
  simp [warmRecords]

@[simp] theorem warmBlocks_frame (s : State) :
    (warmBlocks s).pending = s.pending ∧ (warmBlocks s).resetLine = s.resetLine ∧ (warmBlocks s).houseTime = s.houseTime ∧
    (warmBlocks s).margin = s.margin ∧ (warmBlocks s).dests = s.dests ∧ (warmBlocks s).arms = s.arms ∧ (warmBlocks
    s).active = s.active ∧ (warmBlocks s).follow = s.follow ∧ (warmBlocks s).salvos = s.salvos ∧ (warmBlocks s).reportMask
    = s.reportMask ∧ (warmBlocks s).dropLinks = s.dropLinks ∧ (warmBlocks s).returnLinks = s.returnLinks := by
  simp [warmBlocks]

@[simp] theorem warmReset_frame (s : State) :
    (warmReset s).pending = s.pending ∧ (warmReset s).resetLine = s.resetLine ∧ (warmReset s).houseTime = s.houseTime ∧
    (warmReset s).margin = s.margin ∧ (warmReset s).dests = s.dests ∧ (warmReset s).reportMask = s.reportMask ∧ (warmReset
    s).dropLinks = s.dropLinks ∧ (warmReset s).returnLinks = s.returnLinks := by
  simp [warmReset]

end Sys2Proof.Machine
end

