-- ==== Sys2Proof/Laws/Commands.lean ====
section
/-! SUPPORT. What the execution of a FIFO head can do (R156): the command's own act, then its reply, or nothing at all; and what taking
the head leaves for the act to read. -/

namespace Sys2Proof.Machine

/-- Everything `executeHead` can do. -/
theorem executeHead_cases {t : Trunk} {i : Instr} {code sub : Byte} {tag : Tag} {act : Arm → State → Result} {s s' : State}
    (h : executeHead t i code sub tag act s = .next s') :
    (headReady s t i = true ∧ s' = queueReply t
        ⟨code, sub, tag, (act (s.arms.get t) (headTaken s t)).status, (act (s.arms.get t) (headTaken s t)).results⟩
        (act (s.arms.get t) (headTaken s t)).state) ∨
      (headReady s t i = false ∧ s' = s) := by
  unfold executeHead at h
  split at h
  · exact .inl ⟨‹_›, by cases h; rfl⟩
  · exact .inr ⟨Bool.eq_false_iff.mpr ‹_›, by cases h; rfl⟩

/-- Everything `executeCommand` can do. -/
theorem executeCommand_cases {t : Trunk} {i : Instr} {k : CommandName} {h : Header} {act : Arm → State → Result} {s s' : State}
    (hx : executeCommand t i k h act s = .next s') :
    (headReady s t i = true ∧ s' = answered t k h (act (s.arms.get t) (headTaken s t)).status
        (act (s.arms.get t) (headTaken s t)).results (act (s.arms.get t) (headTaken s t)).state) ∨
      (headReady s t i = false ∧ s' = s) := executeHead_cases hx

/-- A command that is the ready head of its FIFO acts and is answered. -/
theorem executeCommand_ready {t : Trunk} {i : Instr} {k : CommandName} {h : Header} {act : Arm → State → Result} {s : State}
    (hr : headReady s t i = true) :
    executeCommand t i k h act s = .next (answered t k h (act (s.arms.get t) (headTaken s t)).status
      (act (s.arms.get t) (headTaken s t)).results (act (s.arms.get t) (headTaken s t)).state) := by
  unfold executeCommand executeHead
  rw [if_pos hr]
  rfl

/-- A command that is not the ready head of its FIFO does nothing. -/
theorem executeCommand_idle {t : Trunk} {i : Instr} {k : CommandName} {h : Header} {act : Arm → State → Result} {s : State}
    (hr : headReady s t i = false) : executeCommand t i k h act s = .next s := by
  unfold executeCommand executeHead
  rw [if_neg (by simp [hr])]

/-- Executing a head always answers a next state. -/
theorem executeHead_next (t : Trunk) (i : Instr) (code sub : Byte) (tag : Tag) (act : Arm → State → Result) (s : State) :
    ∃ s', executeHead t i code sub tag act s = .next s' := by
  unfold executeHead
  split <;> exact ⟨_, rfl⟩

/-- The FIFO head is ready exactly when it decodes to the command and the reply queue has room (R156, R157). -/
theorem headReady_iff {s : State} {t : Trunk} {i : Instr} :
    headReady s t i = true ↔ ∃ c, (s.contexts.get t).fifo.head? = some c ∧ decodeCommand t c = i ∧
      (s.returns.get t).replies.length < Config.replyDepth := by
  unfold headReady
  cases (s.contexts.get t).fifo.head? <;> simp

/-! ## What the act reads -/

@[simp] theorem headTaken_arms (s : State) (t u : Trunk) :
    (headTaken s t).arms.get u = if t = u then .clear else s.arms.get u := by
  simp [headTaken, Tbl.get_set]

@[simp] theorem headTaken_contexts (s : State) (t u : Trunk) : (headTaken s t).contexts.get u =
    if t = u then { s.contexts.get u with fifo := (s.contexts.get u).fifo.tail } else s.contexts.get u := by
  simp [headTaken, Tbl.get_modify]

@[simp] theorem refuse_eq (s : State) (st : Status) (details : List ReplyField) : refuse s st details = ⟨s, st, details⟩ := rfl

end Sys2Proof.Machine
end

