-- ==== Sys2Proof/Laws/Effects.lean ====
section
/-! SUPPORT. What each shared operation of Machine/Ops.lean does to the fields it changes, record by record. With the frames of
Laws/Frames.lean this says everything that the operation can do. -/

namespace Sys2Proof.Machine

/-! ## House times (R2) -/

theorem isBefore_iff {a b : Time} : isBefore a b = true ↔ (a - b).toInt < 0 := by simp [isBefore, signedDiff]

theorem atOrBefore_iff {a b : Time} : atOrBefore a b = true ↔ (a - b).toInt ≤ 0 := by simp [atOrBefore, signedDiff]

/-- A time is due when the signed difference from now to it is zero or negative. -/
theorem isDue_iff {s : State} {x : Time} : isDue s x = true ↔ (x - s.houseTime).toInt ≤ 0 := atOrBefore_iff

/-! ## Return queues (R150, R151, R164) -/

theorem queueReport_get (t : Trunk) (r : Report) (s : State) (u : Trunk) :
    (queueReport t r s).returns.get u = if t = u then (s.returns.get u).push r else s.returns.get u := by
  simp [queueReport, Tbl.get_modify]

theorem queueMasked_get (r : Report) (s : State) (u : Trunk) :
    (queueMasked r s).returns.get u = if s.reportMask.getLsbD u then (s.returns.get u).push r else s.returns.get u := by
  simp [queueMasked]

theorem queueReply_get (t : Trunk) (r : Reply) (s : State) (u : Trunk) :
    (queueReply t r s).returns.get u =
      if r.tag ≠ 0 ∧ t = u then { s.returns.get u with replies := (s.returns.get u).replies ++ [r] } else s.returns.get u := by
  unfold queueReply
  by_cases h : r.tag = 0
  · rw [if_pos h, if_neg (fun e => e.1 h)]
  · have h' : r.tag ≠ 0 := h
    rw [if_neg h]
    simp only [State.updReturn, Tbl.get_modify, h', ne_eq, not_false_eq_true, true_and]

/-- A report leaves the replies, and a report queue within its bound stays there. -/
theorem ReturnTx.push_replies (x : ReturnTx) (r : Report) : (x.push r).replies = x.replies := by
  unfold ReturnTx.push
  split <;> rfl

theorem ReturnTx.push_reports_length (x : ReturnTx) (r : Report) (h : x.reports.length ≤ Config.reportDepth) :
    (x.push r).reports.length ≤ Config.reportDepth := by
  unfold ReturnTx.push
  split
  · next hl =>
    simp only [List.length_append, List.length_singleton]
    omega
  · simp only [List.length_append, List.length_singleton, List.length_tail, Config.reportDepth] at *
    omega

/-! ## Service postings (R97, R127) -/

theorem requestDisplay_get (d : DestNo) (s : State) (p : Port) :
    (requestDisplay d s).ports.get p =
      if (s.dests.get d).format.isSome ∧ portOf d = p then (s.ports.get p).post .display (channelOf d) else s.ports.get p := by
  unfold requestDisplay
  by_cases h : (s.dests.get d).format.isSome = true <;> simp [h, Tbl.get_modify]

/-- A request for an UNDEFINED destination is discarded (R127). -/
theorem requestDisplay_undefined {d : DestNo} {s : State} (h : (s.dests.get d).format = none) : requestDisplay d s = s := by
  simp [requestDisplay, h]

theorem postFill_get (d : DestNo) (s : State) (p : Port) :
    (postFill d s).ports.get p = if portOf d = p then (s.ports.get p).post .fill (channelOf d) else s.ports.get p := by
  simp [postFill, Tbl.get_modify]

/-- A posting leaves the essence queue, the passed-over count, the output sequence numbers and the other two counters. -/
@[simp] theorem DropPort.post_frame (x : DropPort) (k : ServiceKind) (ch : Channel) :
    (x.post k ch).essence = x.essence ∧ (x.post k ch).passedOver = x.passedOver ∧ (x.post k ch).outSeq = x.outSeq ∧
      (x.post k ch).sent = x.sent ∧ (x.post k ch).refused = x.refused := by
  unfold DropPort.post
  split
  · cases k <;> simp
  · simp

/-- A posting keeps the entries of a service queue distinct (R97). -/
theorem DropPort.post_nodup (x : DropPort) (k : ServiceKind) (ch : Channel) (h : x.service.Nodup) :
    (x.post k ch).service.Nodup := by
  unfold DropPort.post
  split
  · cases k <;> exact h
  · next hm =>
    rw [List.nodup_append]
    refine ⟨h, by simp, fun a ha b hb => ?_⟩
    rw [List.mem_singleton] at hb
    rintro rfl
    exact hm (hb ▸ ha)

/-! ## Fill timers (R89, R90) -/

theorem armFill_get (d : DestNo) (x : Time) (s : State) (e : DestNo) :
    (armFill d x s).switching.get e =
      if (s.dests.get d).format.isSome ∧ d = e then { s.switching.get e with fill := some (pointFrom s d x) }
      else s.switching.get e := by
  unfold armFill
  by_cases h : (s.dests.get d).format.isSome = true <;> simp [h, Tbl.get_modify]

theorem realignFill_get (p : DestNo → Bool) (s : State) (e : DestNo) :
    (realignFill p s).switching.get e =
      if p e = true ∧ (s.switching.get e).fill.isSome = true then
        { s.switching.get e with fill := some (pointFrom s e (s.houseTime + 1)) }
      else s.switching.get e := by
  simp [realignFill]

/-- A realignment moves no cut. -/
@[simp] theorem realignFill_cut (p : DestNo → Bool) (s : State) (e : DestNo) :
    ((realignFill p s).switching.get e).cut = (s.switching.get e).cut := by
  rw [realignFill_get]
  split <;> rfl

theorem breakForwarding_get_ne (d : DestNo) (s : State) {e : DestNo} (h : d ≠ e) :
    (breakForwarding d s).switching.get e = s.switching.get e := by
  unfold breakForwarding
  split
  · simp [armFillLater, armFill_get, h, Tbl.get_modify_ne]
  · rfl

/-! ## The device mode (R176) -/

theorem modeNotice_mode (s : State) :
    (modeNotice s).mode = if s.mode = .holding ∧ noCutInProgress s = true then .held else s.mode := by
  unfold modeNotice
  by_cases h : s.mode = .holding ∧ noCutInProgress s = true
  · rw [if_pos (by simpa using h), if_pos h]
    simp [reachHeld, queueMasked]
  · rw [if_neg (by simpa using h), if_neg h]

/-! ## Takes: recomputation (R18) -/

theorem recomputeTakes_get (p : DestNo → Bool) (s : State) (e : DestNo) :
    (recomputeTakes p s).active.get e =
      if p e then (s.active.get e).map fun k => if k.state = .armed then recomputed s e k else k else s.active.get e := by
  simp [recomputeTakes]

/-! ## Takes: removal and completion (R65, R66, R71–R73, R114) -/

theorem salvoNotice_salvos (k : SlotNo) (out : TakeOutcome) (s : State) :
    (salvoNotice k out s).salvos = s.salvos.modify k (·.ended out) := by
  unfold salvoNotice
  dsimp only
  split
  · split <;> simp
  · simp

theorem notifyEnd_salvos (d : DestNo) (k : Take) (out : TakeOutcome) (s : State) :
    (notifyEnd d k out s).salvos = match k.salvo with
      | some slot => s.salvos.modify slot (·.ended out)
      | none => s.salvos := by
  unfold notifyEnd
  cases k.salvo with
  | some slot => exact salvoNotice_salvos _ _ _
  | none =>
    dsimp only
    split <;> simp

/-- The end of a take that names no salvo slot is reported on its trunk alone, and not at all for tag 0 (R66). -/
theorem notifyEnd_single {d : DestNo} {k : Take} {out : TakeOutcome} {s : State} (h : k.salvo = none) :
    notifyEnd d k out s =
      if k.tag = 0 then s else queueReport k.trunk (.takeDone d k.tag out k.source k.late k.placed s.houseTime) s := by
  simp [notifyEnd, h]

theorem removeActive_get (d : DestNo) (out : TakeOutcome) (s : State) (e : DestNo) :
    (removeActive d out s).active.get e = if d = e then none else s.active.get e := by
  unfold removeActive
  split
  · next h =>
    split
    · next he => rw [← he, h]
    · rfl
  · simp [Tbl.get_set]

theorem removeActive_some {d : DestNo} {out : TakeOutcome} {s : State} {k : Take} (h : s.active.get d = some k) :
    removeActive d out s = notifyEnd d k out (s.setActive d none) := by simp [removeActive, h]

theorem removeActive_none {d : DestNo} {out : TakeOutcome} {s : State} (h : s.active.get d = none) :
    removeActive d out s = s := by simp [removeActive, h]

/-- Everything that being bound in a SWAP pair says (R120): two ARMED takes, each naming the other's destination. -/
theorem boundPartner_some {s : State} {d p : DestNo} (h : boundPartner s d = some p) :
    ∃ k q, s.active.get d = some k ∧ s.active.get p = some q ∧ k.state = .armed ∧ q.state = .armed ∧ k.partner = some p ∧
      q.partner = some d := by
  unfold boundPartner at h
  cases hk : s.active.get d with
  | none => simp [hk] at h
  | some k =>
    cases hp : k.partner with
    | none => simp [hk, hp] at h
    | some e =>
      cases hq : s.active.get e with
      | none => simp [hk, hp, hq] at h
      | some q =>
        simp only [hk, hp, hq] at h
        split at h
        · next hc =>
          cases h
          exact ⟨k, q, rfl, hq, hc.1, hc.2.1, hp, hc.2.2⟩
        · cases h

/-- Being bound is mutual. -/
theorem boundPartner_symm {s : State} {d p : DestNo} (h : boundPartner s d = some p) : boundPartner s p = some d := by
  obtain ⟨k, q, hk, hq, ks, qs, kp, qp⟩ := boundPartner_some h
  simp [boundPartner, hk, hq, ks, qs, kp, qp]

/-- A destination without a take is bound to none. -/
theorem boundPartner_empty {s : State} {d : DestNo} (h : s.active.get d = none) : boundPartner s d = none := by
  simp [boundPartner, h]

theorem removeArmed_get (d : DestNo) (out : TakeOutcome) (s : State) (e : DestNo) :
    (removeArmed d out s).active.get e = if d = e ∨ boundPartner s d = some e then none else s.active.get e := by
  unfold removeArmed
  cases h : boundPartner s d with
  | none => simp [removeActive_get]
  | some p =>
    simp only [removeActive_get, Option.some.injEq]
    by_cases h₁ : d = e <;> by_cases h₂ : p = e <;> simp [h₁, h₂]

theorem removeFollow_get (d : DestNo) (out : TakeOutcome) (s : State) (e : DestNo) :
    (removeFollow d out s).follow.get e = if d = e then none else s.follow.get e := by
  unfold removeFollow
  split
  · next h =>
    split
    · next he => rw [← he, h]
    · rfl
  · simp [Tbl.get_set]

theorem removeFollow_none {d : DestNo} {out : TakeOutcome} {s : State} (h : s.follow.get d = none) :
    removeFollow d out s = s := by simp [removeFollow, h]

/-- FOLLOW promotion empties the follow position (R73). -/
theorem promote_follow (d : DestNo) (s : State) (e : DestNo) :
    (promote d s).follow.get e = if d = e then none else s.follow.get e := by
  unfold promote
  split
  · next h =>
    split
    · next he => rw [← he, h]
    · rfl
  · simp [Tbl.get_set]

theorem promote_none {d : DestNo} {s : State} (h : s.follow.get d = none) : promote d s = s := by simp [promote, h]

theorem promote_active_ne (d : DestNo) (s : State) {e : DestNo} (h : d ≠ e) : (promote d s).active.get e = s.active.get e := by
  unfold promote
  split
  · rfl
  · simp [Tbl.get_set, h]

/-- A promoted take is ARMED, with the later of its target and now (R73). -/
theorem promote_active_self {d : DestNo} {s : State} {k : Take} (h : s.follow.get d = some k) :
    (promote d s).active.get d = some (armedTake s d { k with
      target := if isBefore k.target s.houseTime then s.houseTime else k.target
      late := k.late || (k.mode == .atTime && isBefore k.target s.houseTime) }) := by
  simp only [promote, h, State.setActive, Tbl.get_set_self]

/-- What a completion is, for a destination with a COMMITTED take (R72). -/
theorem complete_committed {d : DestNo} {ended : JoinEnd} {s : State} {k : Take} (h : s.active.get d = some k)
    (hk : k.state = .committed) :
    complete d ended s =
      modeNotice (promote d (requestDisplay d (notifyEnd d k (outcomeOf ended k.late) (s.setActive d none)))) := by
  simp [complete, h, hk]

/-- Without a COMMITTED take there is nothing to complete (log 13). -/
theorem complete_idle {d : DestNo} {ended : JoinEnd} {s : State} (h : isCommitted (s.active.get d) = false) :
    complete d ended s = s := by
  unfold complete
  split
  · rfl
  · next k hk =>
    rw [hk] at h
    rw [if_neg (by simpa [isCommitted] using h)]

/-- A completion leaves the active positions of the other destinations. -/
theorem complete_active_ne (d : DestNo) (ended : JoinEnd) (s : State) {e : DestNo} (h : d ≠ e) :
    (complete d ended s).active.get e = s.active.get e := by
  unfold complete
  split
  · rfl
  · split
    · simp [promote_active_ne _ _ h, Tbl.get_set, h]
    · rfl

/-! ## Takes: placement (R63, R64) -/

theorem placeTake_follow_get (b : State) (d : DestNo) (k : Take) (s : State) (e : DestNo) :
    (placeTake b d k s).follow.get e =
      if placesFollow s d = true ∧ d = e then some { k with state := .following, placed := none } else s.follow.get e := by
  unfold placeTake
  by_cases h : placesFollow s d = true
  · simp only [h, if_true, true_and, State.setFollow, Tbl.get_set, removeFollow_get]
    split <;> rfl
  · have h' : placesFollow s d = false := by simpa using h
    by_cases hb : (b.active.get d).isNone = true <;> simp [h', hb]

theorem placeTake_active_get (b : State) (d : DestNo) (k : Take) (s : State) (e : DestNo) :
    (placeTake b d k s).active.get e =
      if placesFollow s d then s.active.get e
      else if d = e then some (armedTake (removeArmed d .superseded s) d k)
      else if boundPartner s d = some e then none else s.active.get e := by
  unfold placeTake
  by_cases h : placesFollow s d = true
  · simp [h]
  · have h' : placesFollow s d = false := by simpa using h
    have key : ((removeArmed d .superseded s).setActive d (some (armedTake s d k))).active.get e =
        if d = e then some (armedTake s d k) else if boundPartner s d = some e then none else s.active.get e := by
      simp only [State.setActive, Tbl.get_set, removeArmed_get]
      by_cases h₁ : d = e <;> simp [h₁]
    have same : armedTake (removeArmed d .superseded s) d k = armedTake s d k := by
      simp [armedTake, placeFor, formatOf]
    rw [same]
    by_cases hb : (b.active.get d).isNone = true
    · simpa [h', hb] using key
    · simpa [h', hb] using key

/-! ## Source-state changes (R9, R33, R84, R88) -/

theorem evaluateTracking_get (n : SourceNo) (s : State) (f : FormatNo) :
    (evaluateTracking n s).formats.get f =
      if (s.formats.get f).cadence = some n then
        { s.formats.get f with tracking := isTracking s.sources f (s.formats.get f) }
      else s.formats.get f := by
  simp [evaluateTracking]

/-- A loss notice leaves the switching records of the other destinations. -/
theorem lossNotice_get_ne (n : SourceNo) (d : DestNo) (s : State) {e : DestNo} (h : d ≠ e) :
    (lossNotice n d s).switching.get e = s.switching.get e := by
  unfold lossNotice
  split
  · split
    · simp [armFillNext, armFill_get, h, Tbl.get_modify_ne]
    · rfl
  · split
    · simp [Tbl.get_modify_ne, h]
    · rfl
  · rfl

/-- Where a loss notice leaves the destination it is for (R84, R88). -/
theorem lossNotice_cut (n : SourceNo) (d : DestNo) (s : State) :
    ((lossNotice n d s).switching.get d).cut =
      match (s.switching.get d).cut with
      | .steady old flag => .steady old (if old = some n then .waiting else flag)
      | .draining old tail expiry =>
        if old = n then .joining (cutExpiry (formatOf s d) s.houseTime) else .draining old tail expiry
      | .joining expiry => .joining expiry := by
  unfold lossNotice
  split
  · next m flag hc =>
    rw [hc]
    by_cases h : m = n
    · subst h
      simp only [if_true, armFillNext, armFill_get]
      split <;> simp
    · simp [h, hc]
  · next old tail expiry hc =>
    rw [hc]
    by_cases h : old = n
    · simp [h]
    · simp [h, hc]
  · next hs hd =>
    cases hc : (s.switching.get d).cut with
    | steady o flag =>
      cases o with
      | none => simp
      | some m => exact absurd hc (hs m flag)
    | draining old tail expiry => exact absurd hc (hd old tail expiry)
    | joining expiry => rfl

/-- A fold over distinct numbers, each step of which touches one record alone, acts on every record once. -/
theorem foldl_get_once {n : Nat} {β : Type} (step : State → Fin n → State) (field : State → Tbl β n)
    (keep : ∀ s i j, i ≠ j → (field (step s i)).get j = (field s).get j) (l : List (Fin n)) (hl : l.Nodup) (s : State) (j : Fin n)
    (hj : j ∈ l) : ∃ s' : State, (field (l.foldl step s)).get j = (field (step s' j)).get j ∧ (field s').get j = (field s).get j ∧
      ∃ l₁, l₁ <+: l ∧ s' = l₁.foldl step s := by
  induction l using List.reverseRecOn with
  | nil => simp at hj
  | append_singleton l i ih =>
    rw [List.foldl_append, List.foldl_cons, List.foldl_nil]
    have hd := List.nodup_append.mp hl
    have later : ∀ (l₁ : List (Fin n)), j ∉ l₁ → (field (l₁.foldl step s)).get j = (field s).get j := by
      intro l₁
      induction l₁ using List.reverseRecOn with
      | nil => intro _; rfl
      | append_singleton l₁ k ih =>
        intro h
        rw [List.foldl_append, List.foldl_cons, List.foldl_nil, keep _ _ _ (fun e => h (by simp [e])),
          ih (fun e => h (by simp [e]))]
    by_cases hij : i = j
    · subst hij
      refine ⟨l.foldl step s, rfl, later l ?_, l, List.prefix_append _ _, rfl⟩
      intro hm
      exact hd.2.2 i hm i (by simp) rfl
    · have hm : j ∈ l := by
        rcases List.mem_append.mp hj with h | h
        · exact h
        · exact absurd (by simpa using h : j = i).symm hij
      obtain ⟨s', e, es, l₁, hp, hs⟩ := ih hd.1 hm
      exact ⟨s', by rw [keep _ _ _ hij, e], es, l₁, hp.trans (List.prefix_append _ _), hs⟩

/-- A fold keeps what every step keeps. -/
theorem foldl_keeps_get {n : Nat} {γ : Type} (step : State → Fin n → State) (P : State → γ) (h : ∀ s i, P (step s i) = P s)
    (l : List (Fin n)) (s : State) : P (l.foldl step s) = P s := foldl_keeps step P h l s

/-- Where the loss of source `n` leaves every destination (R84, R88). -/
theorem lossNotices_cut (n : SourceNo) (s : State) (d : DestNo) :
    ((lossNotices n s).switching.get d).cut =
      match (s.switching.get d).cut with
      | .steady old flag => .steady old (if old = some n then .waiting else flag)
      | .draining old tail expiry =>
        if old = n then .joining (cutExpiry (formatOf s d) s.houseTime) else .draining old tail expiry
      | .joining expiry => .joining expiry := by
  obtain ⟨s', e, es, l₁, -, hs⟩ := foldl_get_once (fun s d => lossNotice n d s) State.switching
    (fun s i j h => lossNotice_get_ne n i s h) (List.finRange 128) (List.nodup_finRange _) s d (List.mem_finRange d)
  have hf : s'.formats = s.formats := by rw [hs]; exact foldl_keeps _ State.formats (fun s a => by simp) _ s
  have hd : s'.dests = s.dests := by rw [hs]; exact foldl_keeps _ State.dests (fun s a => by simp) _ s
  have ht : s'.houseTime = s.houseTime := by rw [hs]; exact foldl_keeps _ State.houseTime (fun s a => by simp) _ s
  show (((List.finRange 128).foldl (fun s d => lossNotice n d s) s).switching.get d).cut = _
  rw [e, lossNotice_cut, es]
  simp only [formatOf, hf, hd, ht]

/-- The source records after a source has entered LOST (R31). -/
theorem enterLost_get (n : SourceNo) (s : State) (m : SourceNo) :
    (enterLost n s).sources.get m =
      if n = m then { s.sources.get m with
        state := .lost, lastCapture := none, frameWatch := none, lastSeq := none, inWindow := 0, outWindow := 0 }
      else s.sources.get m := by
  simp [enterLost, Tbl.get_modify]

end Sys2Proof.Machine
end

