-- ==== Sys2Proof/Laws/Operands.lean ====
section
/-! SUPPORT. When each operand byte reads as a number in range, and when it does not. -/

namespace Sys2Proof.Machine

theorem destOperand_none {b : Byte} : destOperand b = none ↔ 128 ≤ b.toNat := by
  unfold destOperand
  split <;> simp <;> omega

theorem destOperand_some {b : Byte} {d : DestNo} : destOperand b = some d ↔ b.toNat = d.val := by
  unfold destOperand
  split
  · simp [Fin.ext_iff]
  · simp
    omega

theorem sourceNumber_none {b : Byte} : sourceNumber b = none ↔ 128 ≤ b.toNat := by
  unfold sourceNumber
  split <;> simp <;> omega

theorem sourceNumber_some {b : Byte} {n : SourceNo} : sourceNumber b = some n ↔ b.toNat = n.val := by
  unfold sourceNumber
  split
  · simp [Fin.ext_iff]
  · simp
    omega

theorem formatNumber_none {b : Byte} : formatNumber b = none ↔ 16 ≤ b.toNat := by
  unfold formatNumber
  split <;> simp <;> omega

theorem formatNumber_some {b : Byte} {f : FormatNo} : formatNumber b = some f ↔ b.toNat = f.val := by
  unfold formatNumber
  split
  · simp [Fin.ext_iff]
  · simp
    omega

theorem slotOperand_none {b : Byte} : slotOperand b = none ↔ 32 ≤ b.toNat := by
  unfold slotOperand
  split <;> simp <;> omega

theorem slotOperand_some {b : Byte} {k : SlotNo} : slotOperand b = some k ↔ b.toNat = k.val := by
  unfold slotOperand
  split
  · simp [Fin.ext_iff]
  · simp
    omega

theorem trunkOperand_none {b : Byte} : trunkOperand b = none ↔ 8 ≤ b.toNat := by
  unfold trunkOperand
  split <;> simp <;> omega

theorem trunkOperand_some {b : Byte} {t : Trunk} : trunkOperand b = some t ↔ b.toNat = t.val := by
  unfold trunkOperand
  split
  · simp [Fin.ext_iff]
  · simp
    omega

theorem policyOperand_none {b : Byte} : policyOperand b = none ↔ 2 ≤ b.toNat := by
  unfold policyOperand
  split
  · simp_all
  · split
    · simp_all
    · simp only [true_iff]
      bv_omega

theorem halfOperand_none {b : Byte} : halfOperand b = none ↔ 2 ≤ b.toNat := by
  unfold halfOperand
  split
  · simp_all
  · split
    · simp_all
    · simp only [true_iff]
      bv_omega

theorem wrapOperand_none {b : Byte} : wrapOperand b = none ↔ 5 ≤ b.toNat := by
  unfold wrapOperand
  repeat' split
  all_goals first
    | (simp_all; done)
    | (simp only [true_iff]; bv_omega)

end Sys2Proof.Machine
end

