-- ==== Sys2Proof/Laws/PerInstr.lean ====
section
/-! SUPPORT. For every constructor of `Instr`: a command row is spelled by operand bytes that pass the checks of R159, and an event row by
none. One lemma per constructor. -/

namespace Sys2Proof.Laws

/-- Checks 1 to 5 of R159 pass for the spelling of a well-formed command: its codes are its name's, its operand bytes are as many as
its fixed operands and what they call for, and those are at most 48. A row that no COMMAND cell spells has no spelling. -/
def Spelling.Statement (i : Instr) : Prop :=
  i.wf = true → ∀ t k h ops, spell i = some (t, k, h, ops) →
    commandOf k.codes.1 k.codes.2 = some k ∧ ops.length = k.fixedLength + k.extension ops ∧ ops.length ≤ 48

/-- Each command's codes name it, and no other (11.2). -/
theorem commandOf_codes (k : CommandName) : commandOf k.codes.1 k.codes.2 = some k := by cases k <;> decide

/-- A target-mode operand is followed by six bytes exactly when its byte is the one of AT (R160). -/
theorem length_extensionBytes (m : ModeOperand) (h : m.wf = true) :
    m.extensionBytes.length = if m.code = 2#8 then 6 else 0 := by
  cases m with
  | next | frames => simp [ModeOperand.extensionBytes, ModeOperand.code]
  | atTime x => simp [ModeOperand.extensionBytes, ModeOperand.code, toBytes_length]
  | other c =>
    have : c ≠ 2#8 := by rintro rfl; simp [ModeOperand.wf] at h
    simp [ModeOperand.extensionBytes, ModeOperand.code, this]

/-- The pairs of a SALVO_LOAD are three bytes each. -/
theorem length_pairBytes (ps : List RawPair) :
    (ps.flatMap fun p => [p.dest, p.source, p.guardByte]).length = 3 * ps.length := by
  induction ps with
  | nil => rfl
  | cons p ps ih => simp [ih]; omega

theorem Spelling.trunkCellArrival : ∀ a b c, Spelling.Statement (.trunkCellArrival a b c) := by
  intro _ _ _ _ _ _ _ _ e
  cases e

theorem Spelling.lostDelineation : ∀ a, Spelling.Statement (.lostDelineation a) := by
  intro _ _ _ _ _ _ e
  cases e

theorem Spelling.dropTransmitOpportunity : ∀ a, Spelling.Statement (.dropTransmitOpportunity a) := by
  intro _ _ _ _ _ _ e
  cases e

theorem Spelling.returnTransmitOpportunity : ∀ a, Spelling.Statement (.returnTransmitOpportunity a) := by
  intro _ _ _ _ _ _ e
  cases e

theorem Spelling.resetLineAsserted : Spelling.Statement .resetLineAsserted := by
  intro _ _ _ _ _ e
  cases e

theorem Spelling.resetLineReleased : Spelling.Statement .resetLineReleased := by
  intro _ _ _ _ _ e
  cases e

theorem Spelling.commitEvent : ∀ a, Spelling.Statement (.commitEvent a) := by
  intro _ _ _ _ _ _ e
  cases e

theorem Spelling.swapCommitEvent : ∀ a, Spelling.Statement (.swapCommitEvent a) := by
  intro _ _ _ _ _ _ e
  cases e

theorem Spelling.switchEvent : ∀ a, Spelling.Statement (.switchEvent a) := by
  intro _ _ _ _ _ _ e
  cases e

theorem Spelling.frameWatchExpiry : ∀ a, Spelling.Statement (.frameWatchExpiry a) := by
  intro _ _ _ _ _ _ e
  cases e

theorem Spelling.drainExpiry : ∀ a, Spelling.Statement (.drainExpiry a) := by
  intro _ _ _ _ _ _ e
  cases e

theorem Spelling.joinExpiry : ∀ a, Spelling.Statement (.joinExpiry a) := by
  intro _ _ _ _ _ _ e
  cases e

theorem Spelling.fillFramePoint : ∀ a, Spelling.Statement (.fillFramePoint a) := by
  intro _ _ _ _ _ _ e
  cases e

theorem Spelling.renormalisation : ∀ a, Spelling.Statement (.renormalisation a) := by
  intro _ _ _ _ _ _ e
  cases e

theorem Spelling.take : ∀ t h o, Spelling.Statement (.take t h o) := by
  intro t h o w _ _ _ _ e
  cases e
  have l := length_extensionBytes o.mode w
  refine ⟨commandOf_codes _, ?_, ?_⟩
  · simp [l, toBytes_length, CommandName.fixedLength, CommandName.extension, CommandName.modeOffset, byteAt, TakeOperands.bytes]
    try omega
  · simp [l, toBytes_length, TakeOperands.bytes]
    split <;> omega

theorem Spelling.probe : ∀ t h o, Spelling.Statement (.probe t h o) := by
  intro t h o w _ _ _ _ e
  cases e
  have l := length_extensionBytes o.mode w
  refine ⟨commandOf_codes _, ?_, ?_⟩
  · simp [l, toBytes_length, CommandName.fixedLength, CommandName.extension, CommandName.modeOffset, byteAt, TakeOperands.bytes]
    try omega
  · simp [l, toBytes_length, TakeOperands.bytes]
    split <;> omega

theorem Spelling.cancel : ∀ t h d, Spelling.Statement (.cancel t h d) := by
  intro t h d _ _ _ _ _ e
  cases e
  simp [commandOf_codes, CommandName.fixedLength, CommandName.extension, CommandName.modeOffset]

theorem Spelling.sweep : ∀ t h o, Spelling.Statement (.sweep t h o) := by
  intro t h o w _ _ _ _ e
  cases e
  have l := length_extensionBytes o.mode w
  refine ⟨commandOf_codes _, ?_, ?_⟩
  · simp [l, toBytes_length, CommandName.fixedLength, CommandName.extension, CommandName.modeOffset, byteAt]
    try omega
  · simp [l, toBytes_length]
    split <;> omega

theorem Spelling.swap : ∀ t h o, Spelling.Statement (.swap t h o) := by
  intro t h o w _ _ _ _ e
  cases e
  have l := length_extensionBytes o.mode w
  refine ⟨commandOf_codes _, ?_, ?_⟩
  · simp [l, toBytes_length, CommandName.fixedLength, CommandName.extension, CommandName.modeOffset, byteAt]
    try omega
  · simp [l, toBytes_length]
    split <;> omega

theorem Spelling.salvoLoad : ∀ t h o, Spelling.Statement (.salvoLoad t h o) := by
  intro t h o w _ _ _ _ e
  cases e
  have l : o.pairs.length = if 1 ≤ o.count.toNat ∧ o.count.toNat ≤ 10 then o.count.toNat else 0 := by
    simpa [Instr.wf, LoadOperands.wf] using w
  refine ⟨commandOf_codes _, ?_, ?_⟩
  · rw [List.length_append, length_pairBytes, l]
    simp [CommandName.fixedLength, CommandName.extension, CommandName.modeOffset, byteAt, pairsCalledFor]
  · rw [List.length_append, length_pairBytes, l]
    simp only [List.length_cons, List.length_nil]
    split <;> omega

theorem Spelling.salvoFire : ∀ t h o, Spelling.Statement (.salvoFire t h o) := by
  intro t h o w _ _ _ _ e
  cases e
  have l := length_extensionBytes o.mode w
  refine ⟨commandOf_codes _, ?_, ?_⟩
  · simp [l, toBytes_length, CommandName.fixedLength, CommandName.extension, CommandName.modeOffset, byteAt]
    try omega
  · simp [l, toBytes_length]
    split <;> omega

theorem Spelling.salvoClear : ∀ t h k, Spelling.Statement (.salvoClear t h k) := by
  intro t h k _ _ _ _ _ e
  cases e
  simp [commandOf_codes, CommandName.fixedLength, CommandName.extension, CommandName.modeOffset]

theorem Spelling.lock : ∀ t h d, Spelling.Statement (.lock t h d) := by
  intro t h d _ _ _ _ _ e
  cases e
  simp [commandOf_codes, CommandName.fixedLength, CommandName.extension, CommandName.modeOffset]

theorem Spelling.unlock : ∀ t h d, Spelling.Statement (.unlock t h d) := by
  intro t h d _ _ _ _ _ e
  cases e
  simp [commandOf_codes, CommandName.fixedLength, CommandName.extension, CommandName.modeOffset]

theorem Spelling.protect : ∀ t h d, Spelling.Statement (.protect t h d) := by
  intro t h d _ _ _ _ _ e
  cases e
  simp [commandOf_codes, CommandName.fixedLength, CommandName.extension, CommandName.modeOffset]

theorem Spelling.unprotect : ∀ t h d, Spelling.Statement (.unprotect t h d) := by
  intro t h d _ _ _ _ _ e
  cases e
  simp [commandOf_codes, CommandName.fixedLength, CommandName.extension, CommandName.modeOffset]

theorem Spelling.armOverride : ∀ t h d, Spelling.Statement (.armOverride t h d) := by
  intro t h d _ _ _ _ _ e
  cases e
  simp [commandOf_codes, CommandName.fixedLength, CommandName.extension, CommandName.modeOffset]

theorem Spelling.recordState : ∀ t h d c, Spelling.Statement (.recordState t h d c) := by
  intro t h d c _ _ _ _ _ e
  cases e
  simp [commandOf_codes, CommandName.fixedLength, CommandName.extension, CommandName.modeOffset]

theorem Spelling.sourceDefine : ∀ t h n f l, Spelling.Statement (.sourceDefine t h n f l) := by
  intro t h n f l _ _ _ _ _ e
  cases e
  simp [commandOf_codes, l.size, CommandName.fixedLength, CommandName.extension, CommandName.modeOffset]

theorem Spelling.sourceTally : ∀ t h n b, Spelling.Statement (.sourceTally t h n b) := by
  intro t h n b _ _ _ _ _ e
  cases e
  simp [commandOf_codes, CommandName.fixedLength, CommandName.extension, CommandName.modeOffset]

theorem Spelling.destDefine : ∀ t h o, Spelling.Statement (.destDefine t h o) := by
  intro t h o _ _ _ _ _ e
  cases e
  simp [commandOf_codes, toBytes_length, CommandName.fixedLength, CommandName.extension, CommandName.modeOffset]

theorem Spelling.formatDefine : ∀ t h f x, Spelling.Statement (.formatDefine t h f x) := by
  intro t h f x _ _ _ _ _ e
  cases x <;> cases e <;>
    simp [commandOf_codes, toBytes_length, CommandName.fixedLength, CommandName.extension, CommandName.modeOffset]

theorem Spelling.timeset : ∀ t h v, Spelling.Statement (.timeset t h v) := by
  intro t h v _ _ _ _ _ e
  cases e
  simp [commandOf_codes, toBytes_length, CommandName.fixedLength, CommandName.extension, CommandName.modeOffset]

theorem Spelling.setMargin : ∀ t h m, Spelling.Statement (.setMargin t h m) := by
  intro t h m _ _ _ _ _ e
  cases e
  simp [commandOf_codes, toBytes_length, CommandName.fixedLength, CommandName.extension, CommandName.modeOffset]

theorem Spelling.setReportMask : ∀ t h m, Spelling.Statement (.setReportMask t h m) := by
  intro t h m _ _ _ _ _ e
  cases e
  simp [commandOf_codes, CommandName.fixedLength, CommandName.extension, CommandName.modeOffset]

theorem Spelling.trunkRelease : ∀ t h n, Spelling.Statement (.trunkRelease t h n) := by
  intro t h n _ _ _ _ _ e
  cases e
  simp [commandOf_codes, CommandName.fixedLength, CommandName.extension, CommandName.modeOffset]

theorem Spelling.trunkPolicy : ∀ t h n p, Spelling.Statement (.trunkPolicy t h n p) := by
  intro t h n p _ _ _ _ _ e
  cases e
  simp [commandOf_codes, CommandName.fixedLength, CommandName.extension, CommandName.modeOffset]

theorem Spelling.hold : ∀ t h, Spelling.Statement (.hold t h) := by
  intro t h _ _ _ _ _ e
  cases e
  simp [commandOf_codes, CommandName.fixedLength, CommandName.extension, CommandName.modeOffset]

theorem Spelling.resume : ∀ t h, Spelling.Statement (.resume t h) := by
  intro t h _ _ _ _ _ e
  cases e
  simp [commandOf_codes, CommandName.fixedLength, CommandName.extension, CommandName.modeOffset]

theorem Spelling.resetArm : ∀ t h, Spelling.Statement (.resetArm t h) := by
  intro t h _ _ _ _ _ e
  cases e
  simp [commandOf_codes, CommandName.fixedLength, CommandName.extension, CommandName.modeOffset]

theorem Spelling.reset : ∀ t h, Spelling.Statement (.reset t h) := by
  intro t h _ _ _ _ _ e
  cases e
  simp [commandOf_codes, CommandName.fixedLength, CommandName.extension, CommandName.modeOffset]

theorem Spelling.identify : ∀ t h, Spelling.Statement (.identify t h) := by
  intro t h _ _ _ _ _ e
  cases e
  simp [commandOf_codes, CommandName.fixedLength, CommandName.extension, CommandName.modeOffset]

theorem Spelling.readStatus : ∀ t h, Spelling.Statement (.readStatus t h) := by
  intro t h _ _ _ _ _ e
  cases e
  simp [commandOf_codes, CommandName.fixedLength, CommandName.extension, CommandName.modeOffset]

theorem Spelling.readDest : ∀ t h a n w, Spelling.Statement (.readDest t h a n w) := by
  intro t h a n w _ _ _ _ _ e
  cases e
  simp [commandOf_codes, CommandName.fixedLength, CommandName.extension, CommandName.modeOffset]

theorem Spelling.readSource : ∀ t h n, Spelling.Statement (.readSource t h n) := by
  intro t h n _ _ _ _ _ e
  cases e
  simp [commandOf_codes, CommandName.fixedLength, CommandName.extension, CommandName.modeOffset]

theorem Spelling.readFormat : ∀ t h f, Spelling.Statement (.readFormat t h f) := by
  intro t h f _ _ _ _ _ e
  cases e
  simp [commandOf_codes, CommandName.fixedLength, CommandName.extension, CommandName.modeOffset]

theorem Spelling.readSalvo : ∀ t h k x, Spelling.Statement (.readSalvo t h k x) := by
  intro t h k x _ _ _ _ _ e
  cases e
  simp [commandOf_codes, CommandName.fixedLength, CommandName.extension, CommandName.modeOffset]

theorem Spelling.readCounters : ∀ t h g c, Spelling.Statement (.readCounters t h g c) := by
  intro t h g c _ _ _ _ _ e
  cases e
  simp [commandOf_codes, CommandName.fixedLength, CommandName.extension, CommandName.modeOffset]

theorem Spelling.commandDecodeFailure : ∀ a b c d e, Spelling.Statement (.commandDecodeFailure a b c d e) := by
  intro _ _ _ _ _ _ _ _ _ _ e
  cases e

theorem Spelling.houseTick : Spelling.Statement .houseTick := by
  intro _ _ _ _ _ e
  cases e

end Sys2Proof.Laws
end

