-- ==== Sys2Proof/Laws/Pool.lean ====
section
/-! SUPPORT. The Cell Pool (R95): every operation keeps the canonical form of the list of occupied slots, and what each does to the
reference counts and to the cells held. -/

namespace Sys2Proof.Machine

/-- The canonical form, in words of the list. -/
theorem poolWf_iff {pool : List PoolSlot} :
    poolWf pool = true ↔ (pool.Pairwise fun x y => x.number < y.number) ∧ ∀ x ∈ pool, 0 < x.refs := by
  simp [poolWf]

/-- A free slot is none of the occupied ones. -/
theorem slotFree_iff {pool : List PoolSlot} {k : PoolNo} : slotFree pool k = true ↔ ∀ x ∈ pool, x.number ≠ k := by
  simp [slotFree]

/-- The slot taken is on the free list (R95). -/
theorem takeSlot_free {pool : List PoolSlot} {pick k : PoolNo} (h : takeSlot pool pick = some k) : slotFree pool k = true :=
  List.find?_some h

theorem mem_poolInsert {x y : PoolSlot} {pool : List PoolSlot} : y ∈ poolInsert x pool ↔ y = x ∨ y ∈ pool := by
  induction pool with
  | nil => simp [poolInsert]
  | cons z rest ih =>
    simp only [poolInsert]
    split
    · simp
    · simp [ih]
      tauto

/-- Entering a free slot with a reference keeps the canonical form. -/
theorem poolWf_insert {x : PoolSlot} {pool : List PoolSlot} (h : poolWf pool = true) (hf : slotFree pool x.number = true)
    (hr : 0 < x.refs) : poolWf (poolInsert x pool) = true := by
  rw [poolWf_iff] at h ⊢
  rw [slotFree_iff] at hf
  obtain ⟨hp, hz⟩ := h
  refine ⟨?_, fun y hy => ?_⟩
  · clear hz hr
    induction pool with
    | nil => simp [poolInsert]
    | cons z rest ih =>
      simp only [poolInsert]
      rw [List.pairwise_cons] at hp
      split
      · next hlt =>
        refine List.pairwise_cons.mpr ⟨fun y hy => ?_, List.pairwise_cons.mpr hp⟩
        rcases List.mem_cons.mp hy with rfl | hy
        · exact hlt
        · exact lt_trans hlt (hp.1 y hy)
      · next hlt =>
        refine List.pairwise_cons.mpr ⟨fun y hy => ?_, ih (fun y hy => hf y (List.mem_cons_of_mem _ hy)) hp.2⟩
        rcases mem_poolInsert.mp hy with rfl | hy
        · exact lt_of_le_of_ne (not_lt.mp hlt) (hf z List.mem_cons_self)
        · exact hp.1 y hy
  · rcases mem_poolInsert.mp hy with rfl | hy
    · exact hr
    · exact hz y hy

/-- Every slot left after a release was occupied under its number. -/
theorem mem_poolRelease {k : PoolNo} {y : PoolSlot} {pool : List PoolSlot} (h : y ∈ poolRelease k pool) :
    ∃ x ∈ pool, x.number = y.number ∧ x.cell = y.cell ∧ ((x = y) ∨ (1 < x.refs ∧ y.refs = x.refs - 1)) := by
  induction pool with
  | nil => simp [poolRelease] at h
  | cons z rest ih =>
    simp only [poolRelease] at h
    split at h
    · split at h
      · exact ⟨y, List.mem_cons_of_mem _ h, rfl, rfl, .inl rfl⟩
      · rcases List.mem_cons.mp h with rfl | h
        · exact ⟨z, List.mem_cons_self, rfl, rfl, .inr ⟨by omega, rfl⟩⟩
        · exact ⟨y, List.mem_cons_of_mem _ h, rfl, rfl, .inl rfl⟩
    · rcases List.mem_cons.mp h with rfl | h
      · exact ⟨y, List.mem_cons_self, rfl, rfl, .inl rfl⟩
      · obtain ⟨x, hx, e⟩ := ih h
        exact ⟨x, List.mem_cons_of_mem _ hx, e⟩

/-- Giving up a reference keeps the canonical form. -/
theorem poolWf_release {k : PoolNo} {pool : List PoolSlot} (h : poolWf pool = true) : poolWf (poolRelease k pool) = true := by
  rw [poolWf_iff] at h ⊢
  obtain ⟨hp, hz⟩ := h
  refine ⟨?_, fun y hy => ?_⟩
  · clear hz
    induction pool with
    | nil => simp [poolRelease]
    | cons z rest ih =>
      rw [List.pairwise_cons] at hp
      simp only [poolRelease]
      split
      · split
        · exact hp.2
        · exact List.pairwise_cons.mpr ⟨fun y hy => hp.1 y hy, hp.2⟩
      · refine List.pairwise_cons.mpr ⟨fun y hy => ?_, ih hp.2⟩
        obtain ⟨x, hx, e, -⟩ := mem_poolRelease hy
        exact e ▸ hp.1 x hx
  · obtain ⟨x, hx, -, -, rfl | ⟨h1, h2⟩⟩ := mem_poolRelease hy
    · exact hz _ hx
    · omega

/-- The pool after a power-on reset is in canonical form: every slot is on the free list. -/
theorem poolWf_reset : poolWf State.reset.pool = true := by decide

/-! ## Reference counts and cells -/

@[simp] theorem refsOf_nil (k : PoolNo) : refsOf [] k = 0 := rfl

theorem refsOf_cons (x : PoolSlot) (pool : List PoolSlot) (k : PoolNo) :
    refsOf (x :: pool) k = if x.number = k then x.refs else refsOf pool k := by
  by_cases h : x.number = k
  · simp [refsOf, h]
  · simp [refsOf, h, List.find?_cons_of_neg]

/-- A free slot has reference count 0. -/
theorem refsOf_free {pool : List PoolSlot} {k : PoolNo} (h : slotFree pool k = true) : refsOf pool k = 0 := by
  rw [slotFree_iff] at h
  induction pool with
  | nil => rfl
  | cons z rest ih =>
    rw [refsOf_cons, if_neg (h z List.mem_cons_self)]
    exact ih fun x hx => h x (List.mem_cons_of_mem _ hx)

/-- Entering a free slot sets its reference count and no other. -/
theorem refsOf_insert {x : PoolSlot} {pool : List PoolSlot} (hf : slotFree pool x.number = true) (k : PoolNo) :
    refsOf (poolInsert x pool) k = if x.number = k then x.refs else refsOf pool k := by
  rw [slotFree_iff] at hf
  induction pool with
  | nil => simp [poolInsert, refsOf_cons]
  | cons z rest ih =>
    have hz := hf z List.mem_cons_self
    simp only [poolInsert]
    split
    · rw [refsOf_cons]
    · rw [refsOf_cons, ih fun y hy => hf y (List.mem_cons_of_mem _ hy), refsOf_cons]
      split
      · next h =>
        rw [if_neg fun e => hz (h.trans e.symm)]
      · rfl

/-- In a canonical pool a release lowers the reference count of its slot by one, and no other. -/
theorem refsOf_release {pool : List PoolSlot} (h : poolWf pool = true) (k j : PoolNo) :
    refsOf (poolRelease k pool) j = if k = j then refsOf pool j - 1 else refsOf pool j := by
  rw [poolWf_iff] at h
  obtain ⟨hp, hz⟩ := h
  induction pool with
  | nil => simp [poolRelease]
  | cons z rest ih =>
    rw [List.pairwise_cons] at hp
    have hr := hz z List.mem_cons_self
    have hfree : refsOf rest z.number = 0 :=
      refsOf_free (slotFree_iff.mpr fun x hx => (ne_of_lt (hp.1 x hx)).symm)
    simp only [poolRelease]
    split
    · next hk =>
      subst hk
      split
      · rw [refsOf_cons]
        by_cases hj : z.number = j
        · subst hj
          simp [hfree]
          omega
        · simp [hj]
      · rw [refsOf_cons, refsOf_cons]
        by_cases hj : z.number = j <;> simp [hj]
    · next hk =>
      rw [refsOf_cons, ih hp.2 fun x hx => hz x (List.mem_cons_of_mem _ hx), refsOf_cons]
      by_cases hj : z.number = j
      · subst hj
        simp [Ne.symm hk]
      · simp [hj]

/-- The cell of a slot just entered. -/
theorem cellIn_insert_self {x : PoolSlot} {pool : List PoolSlot} (hf : slotFree pool x.number = true) :
    cellIn (poolInsert x pool) x.number = x.cell := by
  rw [slotFree_iff] at hf
  induction pool with
  | nil => simp [poolInsert, cellIn]
  | cons z rest ih =>
    have hz := hf z List.mem_cons_self
    simp only [poolInsert]
    split
    · simp [cellIn]
    · have := ih fun y hy => hf y (List.mem_cons_of_mem _ hy)
      simpa [cellIn, List.find?_cons, hz] using this

end Sys2Proof.Machine
end

