-- ==== Sys2Proof/Laws/Streams.lean ====
section
/-! SUPPORT. What the Replication Engine's operations do to the fields they change (R82, R91–R93): draining ended, the receiving and
admitted sets, and the essence entries appended. -/

namespace Sys2Proof.Machine

/-- A frame start of `n` ends the draining of the destinations whose old source is `n` (R82). -/
theorem endDraining_get (n : SourceNo) (s : State) (d : DestNo) :
    (endDraining n s).switching.get d =
      match (s.switching.get d).cut with
      | .draining old _ _ =>
        if old = n then { s.switching.get d with cut := .joining (cutExpiry (formatOf s d) s.houseTime) } else s.switching.get d
      | _ => s.switching.get d := by
  simp only [endDraining, Tbl.get_mapIdx] <;> cases (s.switching.get d).cut <;> simp

/-- The receiving set names no destination twice. -/
theorem receivingSet_nodup (s : State) (n : SourceNo) (frameStart : Bool) : (receivingSet s n frameStart).Nodup :=
  (List.nodup_finRange 128).filter _

theorem mem_receivingSet {s : State} {n : SourceNo} {frameStart : Bool} {d : DestNo} :
    d ∈ receivingSet s n frameStart ↔ receives s n frameStart d = true := by
  simp [receivingSet]

/-! ## Admission (R92) -/

/-- Admission adds to the admitted set members of the list alone. -/
theorem mem_admit {s : State} {l acc : List DestNo} {d : DestNo} (h : d ∈ admittedSet s l acc) : d ∈ acc ∨ d ∈ l := by
  induction l generalizing acc with
  | nil => exact .inl h
  | cons e rest ih =>
    unfold admittedSet at h
    dsimp only at h
    split at h
    · rcases ih h with h | h
      · rcases List.mem_append.mp h with h | h
        · exact .inl h
        · exact .inr (by simp_all)
      · exact .inr (List.mem_cons_of_mem _ h)
    · rcases ih h with h | h
      · exact .inl h
      · exact .inr (List.mem_cons_of_mem _ h)

/-- Admission never allots a port more than it has room for. -/
theorem admit_room {s : State} {l acc : List DestNo} {p : Port}
    (h : (s.ports.get p).essence.length + acc.countP (fun e => portOf e == p) ≤ Config.essenceDepth) :
    (s.ports.get p).essence.length + (admittedSet s l acc).countP (fun e => portOf e == p) ≤ Config.essenceDepth := by
  induction l generalizing acc with
  | nil => exact h
  | cons e rest ih =>
    unfold admittedSet
    dsimp only
    split
    · next hr =>
      apply ih
      by_cases he : portOf e = p
      · subst he
        simp only [List.countP_append, List.countP_singleton, beq_self_eq_true, if_true]
        omega
      · simpa [List.countP_append, List.countP_singleton, he] using h
    · exact ih h

/-- With room for all of them, every member of the list is admitted. -/
theorem admit_all {s : State} {l acc : List DestNo}
    (h : ∀ p, (s.ports.get p).essence.length + (acc ++ l).countP (fun e => portOf e == p) ≤ Config.essenceDepth) :
    admittedSet s l acc = acc ++ l := by
  induction l generalizing acc with
  | nil => simp [admittedSet]
  | cons e rest ih =>
    unfold admittedSet
    dsimp only
    have he := h (portOf e)
    simp only [List.countP_append, List.countP_cons, beq_self_eq_true, if_true] at he
    rw [if_pos (by omega), ih fun p => by simpa using h p]
    simp

/-! ## Essence entries (R92) -/

/-- The entries appended for one cell, port by port, in ascending channel order of the destinations given. -/
theorem appendEntries_get (k : PoolNo) (ds : List DestNo) (s : State) (p : Port) :
    (appendEntries k ds s).ports.get p =
      { s.ports.get p with
        essence := (s.ports.get p).essence ++ (ds.filter fun d => portOf d == p).map fun d => ⟨k, channelOf d⟩ } := by
  induction ds generalizing s with
  | nil => simp [appendEntries]
  | cons d rest ih =>
    have := ih (s.updPort (portOf d) fun x => { x with essence := x.essence ++ [⟨k, channelOf d⟩] })
    unfold appendEntries at *
    rw [List.foldl_cons, this]
    by_cases h : portOf d = p
    · simp [h]
    · simp [h, Tbl.get_modify_ne]

/-- Refusals change a port's refused counter alone (R93). -/
theorem countRefusals_essence (refused : List DestNo) (s : State) (p : Port) :
    ((countRefusals refused s).ports.get p).essence = (s.ports.get p).essence ∧
      ((countRefusals refused s).ports.get p).service = (s.ports.get p).service := by
  induction refused generalizing s with
  | nil => simp [countRefusals]
  | cons d rest ih =>
    have := ih (s.updPort (portOf d) fun x => { x with refused := bump x.refused })
    unfold countRefusals at *
    rw [List.foldl_cons]
    by_cases h : portOf d = p <;> simpa [h, Tbl.get_modify] using this

/-! ## Settling the receivers (R85, R87, R93, R94) -/

/-- A receiving destination leaves the switching records and active positions of the others. -/
theorem receiveCell_ne (n : SourceNo) (locked : Bool) (d : DestNo) (s : State) {e : DestNo} (h : d ≠ e) :
    (receiveCell n locked d s).switching.get e = s.switching.get e ∧
      (receiveCell n locked d s).active.get e = s.active.get e := by
  unfold receiveCell
  split
  · simp [Tbl.get_modify_ne, h]
  · refine ⟨by simp [Tbl.get_modify_ne, h], ?_⟩
    rw [complete_active_ne _ _ _ h]
    rfl
  · exact ⟨rfl, rfl⟩

/-- So does a destination that misses the cell. -/
theorem missCell_ne (n : SourceNo) (locked : Bool) (d : DestNo) (s : State) {e : DestNo} (h : d ≠ e) :
    (missCell n locked d s).switching.get e = s.switching.get e ∧ (missCell n locked d s).active.get e = s.active.get e := by
  unfold missCell
  split
  · exact ⟨breakForwarding_get_ne _ _ h, by simp⟩
  · exact ⟨rfl, rfl⟩
  · simp [Tbl.get_modify_ne, h]
  · refine ⟨by simp [armFillLater, armFill_get, Tbl.get_modify_ne, h], ?_⟩
    rw [complete_active_ne _ _ _ h]
    simp

/-- Where a cell received leaves its destination. -/
theorem receiveCell_switching (n : SourceNo) (locked : Bool) (d : DestNo) (s : State) :
    (receiveCell n locked d s).switching.get d =
      match (s.switching.get d).cut with
      | .steady _ .waiting | .joining _ => { cut := .steady (some n) .forwarding, fill := none }
      | _ => s.switching.get d := by
  unfold receiveCell
  split <;> simp_all

end Sys2Proof.Machine
end

