-- ==== Sys2Proof/Tests/Slice0.lean ====
section
/-! SUPPORT. Tests of the model: the refusals of WellFormed, cells written out from chapter 11, the spec's worked examples one step at
a time, and for each statement with hypotheses a state that meets them. Every expected value comes from spec/. -/

namespace Sys2Proof.Tests

open Sys2Proof Sys2Proof.Machine

set_option Elab.async false

/-! ## Helpers -/

/-- The state that an outcome answers. -/
def after : Out → State
  | .next s => s
  | _ => State.reset

/-- The state with the cell that spells a command at the head of its trunk's FIFO. -/
def ready (i : Instr) (s : State) : State :=
  match spell i with
  | some (t, k, h, ops) => s.updContext t fun x => { x with fifo := commandCell k h ops :: x.fifo }
  | none => s

/-- The state after a command executed from the head of its trunk's FIFO. -/
def run (i : Instr) (s : State) : State := after (exec i (ready i s))

/-- The status and result fields of the latest reply on a trunk. -/
def lastReply (t : Trunk) (s : State) : Option (Status × List ReplyField) :=
  (s.returns.get t).replies.getLast?.map fun r => (r.status, r.results)

/-- The status of the reply to a command on trunk 1. -/
def status (i : Instr) (s : State) : Option Status := (lastReply 1 (run i s)).map (·.1)

/-- A header with this tag and owner. -/
def hdr (tag owner : Nat) : Header := ⟨BitVec.ofNat 16 tag, BitVec.ofNat 8 owner⟩

/-- 59.94 frames per second (1.10, 4.14): E = 5,000,000 and N_E = 1,000, cadence source S0, TRACKING. -/
def f3 : Format :=
  { defined := true, pi := 166833, pn := 1, pd := 3, wl := 1000, cadence := some 0, epoch := 5000000, epochFrame := 1000,
    tracking := true, reanchors := 0 }

/-- 50 frames per second (2.8, 6.7): E = 400,000, no cadence source. -/
def f1 : Format :=
  { defined := true, pi := 200000, pn := 0, pd := 1, wl := 1000, cadence := none, epoch := 400000, epochFrame := 0,
    tracking := false, reanchors := 0 }

/-- A LOCKED source with a capture at `l`. -/
def lockedSource (f : FormatNo) (x : Format) (l : Time) : Source :=
  { Source.reset with
    format := some f, state := .locked, lastCapture := some l, frameWatch := some (watchTime x l), inWindow := 3, lastSeq := some 9 }

/-- A destination waiting on NONE, with its fill timer active. -/
def defineAt (d : DestNo) (f : FormatNo) (c : DestClass) (o : Int) (s : State) : State :=
  armFillNext d (s.updDest d fun x => { x with format := some f, cls := c, offset := o })

/-- A destination FORWARDING a source. -/
def forwardAt (d : DestNo) (n : SourceNo) (s : State) : State :=
  (setCurrent d (some n) s).updSwitching d fun _ => { cut := .steady (some n) .forwarding, fill := none }

/-- The part of 4.14 at 9,000,000, in RUN: F3 with S0, S33 and S34 LOCKED and S32 LOCKED on D0.2 (offset 200, FORWARDING); destination
3 waits on NONE and destination 4 is a RECORDER. F1 with S64 LOCKED and destination 5. -/
def lab : State :=
  let s := { State.reset with houseTime := 9000000, mode := .run }
  let s := (s.updFormat 3 fun _ => f3).updFormat 1 fun _ => f1
  let s := ([0, 32, 33, 34] : List SourceNo).foldl (fun s n => s.updSource n fun _ => lockedSource 3 f3 8837367) s
  let s := s.updSource 64 fun _ => lockedSource 1 f1 8800000
  let s := defineAt 3 3 .monitor 0 (defineAt 4 3 .recorder 0 (defineAt 5 1 .monitor 0 (defineAt 2 3 .monitor 200 s)))
  forwardAt 2 32 s

/-- The part in HELD with the same records. -/
def heldLab : State := { lab with mode := .held }

/-- TAKE A of 4.14 and 4.15: D0.2 from S33, NEXT, tag 11, owner 11, no guard. -/
def takeA : TakeOperands :=
  { dest := 2, source := 33, guardByte := 0xFE, mode := .next, frames := 0, overrideFlag := false }

/-- The part after TAKE A. -/
def labA : State := run (.take 1 (hdr 11 11) takeA) lab

/-- TAKE A at its commit point. -/
def labDue : State := { labA with houseTime := 9151033 }

/-- TAKE A COMMITTED, at its switch point. -/
def labCut : State := { after (exec (.commitEvent 2) labDue) with houseTime := 9171033 }

/-- D0.2 DRAINING on S32, at its drain expiry. -/
def labDrain : State := { after (exec (.switchEvent 2) labCut) with houseTime := 9338866 }

/-- D0.2 JOINING on S33, at its join expiry. -/
def labJoin : State := { after (exec (.drainExpiry 2) labDrain) with houseTime := 9506699 }

/-! ## WellFormed -/

theorem test_wf_mode_byte : (Instr.take 0 (hdr 1 1) { takeA with mode := .other 2 }).wf = false := by decide
theorem test_wf_probe_mode : (Instr.probe 0 (hdr 1 1) { takeA with mode := .other 0 }).wf = false := by decide
theorem test_wf_sweep_mode : (Instr.sweep 0 (hdr 1 1) ⟨0, 1, 0, 0, .other 1, 0⟩).wf = false := by decide
theorem test_wf_swap_mode : (Instr.swap 0 (hdr 1 1) ⟨0, 1, .other 1, 0⟩).wf = false := by decide
theorem test_wf_fire_mode : (Instr.salvoFire 0 (hdr 1 1) ⟨0, 1, .other 2, 0⟩).wf = false := by decide
theorem test_wf_pairs_missing : (Instr.salvoLoad 0 (hdr 1 1) ⟨0, 0, 1, []⟩).wf = false := by decide
theorem test_wf_pairs_past_ten : (Instr.salvoLoad 0 (hdr 1 1) ⟨0, 0, 11, [⟨0, 0, 0⟩]⟩).wf = false := by decide
theorem test_wf_failure_status : (Instr.commandDecodeFailure 0 0 0 0 .ok).wf = false := by decide
theorem test_wf_accepts : (Instr.take 0 (hdr 1 1) { takeA with mode := .other 3 }).wf = true := by decide

/-! ## Cells and decoding (chapter 11) -/

/-- A COMMAND cell with these payload bytes. -/
def payloadCell (bytes : List Byte) : Cell := Cell.make Cell.commandKind 0 0 bytes

/-- CRC-32/BZIP2, which R186 describes: the check value of the nine digits. -/
theorem test_crc_check_value :
    crc32 [0x31, 0x32, 0x33, 0x34, 0x35, 0x36, 0x37, 0x38, 0x39] = 0xFC891918 := by decide +kernel

/-- TAKE (0x01), tag 0x0102, owner 7, 13 operand bytes: destination 5, source 6, no guard, AT, n 3, override, target 0x010203040506. -/
theorem test_decode_take_at :
    decodeCommand 2 (payloadCell [0x01, 0, 0x01, 0x02, 7, 13, 5, 6, 0xFE, 2, 0, 3, 1, 1, 2, 3, 4, 5, 6]) =
      .take 2 ⟨0x0102, 7⟩ ⟨5, 6, 0xFE, .atTime 0x010203040506, 3, true⟩ := by decide +kernel

/-- SWEEP (0x04): first 16, count 4, DOWN, NONE, FRAMES, n 258. -/
theorem test_decode_sweep :
    decodeCommand 0 (payloadCell [0x04, 0, 0, 1, 1, 7, 16, 4, 1, 255, 1, 1, 2]) =
      .sweep 0 ⟨1, 1⟩ ⟨16, 4, 1, 255, .frames, 258⟩ := by decide +kernel

/-- SALVO_LOAD (0x08): slot 5, start 14, two pairs of three bytes. -/
theorem test_decode_salvo_load :
    decodeCommand 0 (payloadCell [0x08, 0, 0, 1, 1, 9, 5, 14, 2, 32, 41, 0xFE, 33, 42, 40]) =
      .salvoLoad 0 ⟨1, 1⟩ ⟨5, 14, 2, [⟨32, 41, 0xFE⟩, ⟨33, 42, 40⟩]⟩ := by decide +kernel

/-- LOCK (0x10), RECORD_STATE (0x15), SOURCE_TALLY (0x20: PGM and AUX), HOLD (0x30), READ_DEST (0x42). -/
theorem test_decode_plain :
    decodeCommand 0 (payloadCell [0x10, 0, 0, 1, 9, 1, 83]) = .lock 0 ⟨1, 9⟩ 83 ∧
      decodeCommand 0 (payloadCell [0x15, 0, 0, 1, 9, 2, 83, 1]) = .recordState 0 ⟨1, 9⟩ 83 1 ∧
      decodeCommand 0 (payloadCell [0x20, 0, 0, 1, 9, 2, 4, 0xF9]) = .sourceTally 0 ⟨1, 9⟩ 4 ⟨true, false, false, true⟩ ∧
      decodeCommand 0 (payloadCell [0x30, 0, 0, 1, 9, 0]) = .hold 0 ⟨1, 9⟩ ∧
      decodeCommand 0 (payloadCell [0x42, 0, 0, 1, 9, 3, 30, 4, 2]) = .readDest 0 ⟨1, 9⟩ 30 4 2 := by decide +kernel

/-- The extended group (0x7F): DEST_DEFINE with offset −5, FORMAT_DEFINE of F3's period, TRUNK_POLICY. -/
theorem test_decode_extended :
    decodeCommand 0 (payloadCell [0x7F, 0x02, 0, 1, 9, 6, 2, 3, 0, 0xFF, 0xFF, 0xFB]) =
        .destDefine 0 ⟨1, 9⟩ ⟨2, 3, 0, BitVec.ofInt 24 (-5)⟩ ∧
      decodeCommand 0 (payloadCell [0x7F, 0x03, 0, 1, 9, 12, 3, 1, 0x02, 0x8B, 0xB1, 0, 1, 0, 3, 0x03, 0xE8, 0]) =
        .formatDefine 0 ⟨1, 9⟩ 3 (.define 166833 1 3 1000 0) ∧
      decodeCommand 0 (payloadCell [0x7F, 0x08, 0, 1, 9, 2, 4, 1]) = .trunkPolicy 0 ⟨1, 9⟩ 4 1 := by decide +kernel

/-- R159's checks in their order: a length above 48, an unassigned code, an unassigned sub-code, a short cell, a missing extension. -/
theorem test_decode_failures :
    decodeCommand 0 (payloadCell [0x99, 1, 0, 1, 9, 49]) = .commandDecodeFailure 0 0x99 1 1 .lengthError ∧
      decodeCommand 0 (payloadCell [0x99, 1, 0, 1, 9, 48]) = .commandDecodeFailure 0 0x99 1 1 .codeError ∧
      decodeCommand 0 (payloadCell [0x7F, 0x0B, 0, 1, 9, 0]) = .commandDecodeFailure 0 0x7F 0x0B 1 .codeError ∧
      decodeCommand 0 (payloadCell [0x10, 0, 0, 1, 9, 0]) = .commandDecodeFailure 0 0x10 0 1 .lengthError ∧
      decodeCommand 0 (payloadCell [0x01, 0, 0, 1, 9, 12, 5, 6, 0xFE, 2]) = .commandDecodeFailure 0 0x01 0 1 .lengthError := by
  decide +kernel

/-- The good cells of the tests: IDLE, a frame start of stream 0 with sequence number 10, a later cell, and a COMMAND. -/
theorem test_good_cells :
    Cell.idle.good = true ∧ (Cell.make 1 0x80 10 []).good = true ∧ (Cell.make 1 0 10 []).good = true ∧
      (payloadCell [0x30]).good = true := by
  refine ⟨?_, ?_, ?_, ?_⟩ <;>
    (unfold Cell.good; simp only [Cell.idle, payloadCell, Cell.make_crcMatches, Bool.and_true]; decide +kernel)

/-- A reserved bit set, a sequence number on a COMMAND, and the kinds of the return direction and of the drop links are errors (R135). -/
theorem test_errored_cells :
    (Cell.make 1 0x98 7 []).good = false ∧ (Cell.make 2 0 1 []).good = false ∧ (Cell.make 0 1 0 []).good = false ∧
      (Cell.make 3 0 0 []).good = false ∧ (Cell.make 6 0 0 []).good = false := by decide +kernel

/-! ## The worked examples, one step at a time -/

/-- 4.14: S and frame number of a NEXT take at 9,000,000, and with FRAMES, n = 10. -/
theorem test_switch_points :
    switchPlace f3 200 20000 9000000 0 = ⟨9171033, 1025⟩ ∧ switchPlace f3 200 20000 9000000 10 = ⟨10839366, 1035⟩ ∧
      switchPlace f3 20000 20000 5950000 0 = ⟨6021000, 1006⟩ := by decide +kernel

/-- 1.10: the captures at 5,834,170 and 6,003,500. -/
theorem test_captures :
    deviation f3 5834170 = 4 ∧ nearestFrame f3 6003500 = 6 ∧ deviation f3 6003500 = 2500 ∧
      intervalInWindow f3 5667337 5834170 = true ∧ intervalInWindow f3 5834170 6003500 = false ∧
      watchTime f3 5834170 = 6168836 := by decide +kernel

/-- R2 at the edges of the signed difference: from now, 2^47 − 1 ticks is after it, and 2^47 and 2^48 − 1 are before it. -/
theorem test_house_time_order :
    let s := { lab with houseTime := 281474976710600 }
    [0, 2 ^ 47 - 1, 2 ^ 47, 2 ^ 48 - 1].map (fun n : Nat => isDue s (s.houseTime + BitVec.ofNat 48 n)) = [true, false, true, true] ∧
      [0, 2 ^ 47 - 1, 2 ^ 47, 2 ^ 48 - 1].map (fun n : Nat => isBefore (s.houseTime + BitVec.ofNat 48 n) s.houseTime) =
        [false, false, true, true] := by decide +kernel

/-- 1.10: the takes of D0.2 and D0.3 under the new epoch. -/
theorem test_reanchored_points :
    let x := { f3 with epoch := 6003500, epochFrame := 1006 }
    switchPlace x 200 20000 6300000 0 = ⟨6337366, 1008⟩ ∧ switchPlace x 0 20000 5990000 0 = ⟨6170333, 1007⟩ := by decide +kernel

/-- 4.15 at 9,000,000: TAKE A is ARMED with S = 9,171,033, frame 1,025, and a DISPLAY entry posted for D0.2. -/
theorem test_take_a :
    lastReply 1 labA = some (.ok, [.enumeration 1, .flag false, .flag false, .flag true, .time 9171033, .flag true, .frame 1025]) ∧
      (labA.ports.get 0).service = [⟨.display, 2⟩] := by decide +kernel

/-- 4.14: past AT targets are late, one beyond the horizon is RANGE, one on it is in range. -/
theorem test_take_at :
    status (.take 1 (hdr 11 11) { takeA with mode := .atTime 8990000 }) lab = some .okLate ∧
      status (.probe 1 (hdr 11 11) { takeA with mode := .atTime (9000000 + 4294967297) }) lab = some .range ∧
      status (.probe 1 (hdr 11 11) { takeA with mode := .atTime (9000000 + 4294967296) }) lab = some .ok := by decide +kernel

/-- 4.15 at 9,100,000: take B supersedes A, reported on T1. -/
theorem test_take_b :
    let s := run (.take 2 (hdr 22 22) { takeA with source := 34 }) { labA with houseTime := 9100000 }
    (s.returns.get 1).reports = [.takeDone 2 11 .superseded (.fixed (some 33)) false (some ⟨9171033, 1025⟩) 9100000] ∧
      (s.active.get 2).map (·.placed) = some (some ⟨9171033, 1025⟩) := by decide +kernel

/-- 4.15 at 9,151,033: the commit event. -/
theorem test_commit : ((after (exec (.commitEvent 2) labDue)).active.get 2).map (·.state) = some .committed := by decide +kernel

/-- 4.15 at 9,160,000: take C becomes FOLLOW behind the COMMITTED one, its switch point marked absent. -/
theorem test_follow :
    let s := { after (exec (.commitEvent 2) labDue) with houseTime := 9160000 }
    lastReply 1 (run (.take 1 (hdr 12 11) { takeA with source := 34, mode := .frames, frames := 2 }) s) =
      some (.ok, [.enumeration 3, .flag false, .flag false, .flag false, .time 0, .flag false, .frame 0]) := by decide +kernel

/-- 4.15 at 9,171,033: the switch event; usage counts and the drain expiry 9,338,866. -/
theorem test_switch :
    let s := after (exec (.switchEvent 2) labCut)
    (s.switching.get 2).cut = .draining 32 true 9338866 ∧ (s.sources.get 32).usage = 0 ∧ (s.sources.get 33).usage = 1 := by
  decide +kernel

/-- R83, R86: joining at the drain expiry, given up at the join expiry with fill and NO_SIGNAL. -/
theorem test_join_expiry :
    (labJoin.switching.get 2).cut = .joining (9338866 + 167833) ∧
      (let s := after (exec (.joinExpiry 2) labJoin);
        (s.switching.get 2).cut = .steady (some 33) .waiting ∧ (s.active.get 2).isNone = true ∧
          (s.returns.get 1).reports.length = 1) := by decide +kernel

/-- 2.8: the capture at 1,600,000 locks S21, and the two out-of-window captures drop it. -/
theorem test_lock_and_fallback :
    let r := { Source.reset with state := .acquiring, inWindow := 2, lastCapture := some 1400005 }
    let q := { Source.reset with state := .locked, inWindow := 3, lastCapture := some 1800000 }
    (r.captured f1 1600000).state = .locked ∧ (r.captured f1 1600000).phase = 0 ∧
      (q.captured f1 2003000).outWindow = 1 ∧ (q.captured f1 2003000).phase = 3000 ∧
      ({ q with outWindow := 1, lastCapture := some 2003000 }.captured f1 2200100).state = .acquiring := by decide +kernel

/-- 3.6: the locked recorder and the override, steps 1, 2, 3 and 7 and the arm of step 5. -/
theorem test_locked_recorder :
    let s := run (.lock 1 (hdr 1 40) 4) lab
    status (.lock 1 (hdr 1 40) 4) lab = some .ok ∧
      status (.take 1 (hdr 1 12) { takeA with dest := 4 }) s = some .lockedOut ∧
      lastReply 1 (run (.recordState 1 (hdr 1 40) 4 1) s) = some (.ok, [.quantity 0]) ∧
      status (.take 1 (hdr 1 12) { takeA with dest := 4, overrideFlag := true }) s = some .noArm ∧
      (run (.armOverride 1 (hdr 1 12) 4) s).arms.get 1 = .overriding 4 12 := by decide +kernel

/-- 5.9, 5.10: a port serves a service head before a frame start, and essence before it otherwise, counting what it passes over. -/
theorem test_arbitration :
    let s := { lab with
      pool := [⟨100, 2, Cell.make 1 0 5 []⟩, ⟨205, 1, Cell.make 1 0x80 5 []⟩]
      ports := lab.ports.modify 1 fun x => { x with
        essence := [⟨100, 2⟩, ⟨205, 5⟩], service := [⟨.display, 3⟩], outSeq := (x.outSeq.set 2 900).set 3 4101 } }
    let s₁ := after (exec (.dropTransmitOpportunity 1) s)
    let s₂ := after (exec (.dropTransmitOpportunity 1) s₁)
    (s₁.ports.get 1).passedOver = 1 ∧ (s₁.dropLinks.get 1).seq = 900 ∧ refsOf s₁.pool 100 = 1 ∧
      (s₂.ports.get 1).passedOver = 0 ∧ (s₂.dropLinks.get 1).seq = 4101 ∧ (s₂.dropLinks.get 1).kind = 5 := by decide +kernel

/-- R106: loads at start 0 of 10, at 12 of 6, and at 8 of 2, into an EMPTY slot. -/
theorem test_salvo_counts :
    let p : RawPair := ⟨2, 33, 0xFE⟩
    let load := fun start n : Nat =>
      lastReply 1 (run (.salvoLoad 1 (hdr 1 1) ⟨5, BitVec.ofNat 8 start, BitVec.ofNat 8 n, List.replicate n p⟩) lab)
    load 0 10 = some (.ok, [.quantity 10, .flag false]) ∧ load 12 6 = some (.ok, [.quantity 16, .flag true]) ∧
      load 8 2 = some (.ok, [.quantity 10, .flag false]) ∧ load 10 6 = some (.ok, [.quantity 16, .flag false]) := by decide +kernel

/-- The slot of the salvo tests: destination 2 to S33 (the wrong format for 5 is skipped), and a blank position. -/
def labSalvo : State :=
  run (.salvoLoad 1 (hdr 1 1) ⟨5, 2, 1, [⟨3, 33, 0xFE⟩]⟩) (run (.salvoLoad 1 (hdr 1 1) ⟨5, 0, 1, [⟨5, 33, 0xFE⟩]⟩) lab)

/-- R110, R111: a STRICT fire is refused with the first failing position, a LENIENT one skips it. -/
theorem test_fire_modes :
    lastReply 1 (run (.salvoFire 1 (hdr 70 11) ⟨5, 0, .next, 0⟩) labSalvo) = some (.formatMismatch, [.quantity 0]) ∧
      lastReply 1 (run (.salvoFire 1 (hdr 70 11) ⟨5, 1, .next, 0⟩) labSalvo) =
        some (.ok, [.quantity 1, .quantity 1, .quantity 0, .status .formatMismatch, .quantity 1, .quantity 0, .flag false]) := by
  decide +kernel

/-- R117: a run UP stops at 127, a run DOWN at 0, and the count is taken mod 128. -/
theorem test_sweep_runs :
    sweepRun 126 3 true = [126, 127] ∧ sweepRun 1 5 false = [1, 0] ∧ sweepRun 7 128 true = [] ∧ sweepRun 7 129 true = [7] := by
  decide +kernel

/-- 6.8: the switch points of the two halves of a SWAP, and their shared commit point. -/
theorem test_swap_points :
    let a := switchPlace f1 5000 20000 20000000 0
    let b := switchPlace f1 (-3000) 20000 20000000 0
    a = ⟨20205000, 99⟩ ∧ b = ⟨20197000, 99⟩ ∧ addTicks (earlier a.switchPoint b.switchPoint) (-20000) = 20177000 := by
  decide +kernel

/-- R168: the ranges of the examples. -/
theorem test_read_ranges :
    readRange 30 4 (some 16) = [30, 31, 16, 17] ∧ readRange 30 4 (some 8) = [30, 31, 24, 25] ∧
      readRange 30 4 (some 64) = [30, 31, 32, 33] ∧ readRange 126 4 none = [126, 127] ∧ truncates 126 4 none = true ∧
      readRange 126 4 (some 16) = [126, 127, 112, 113] ∧ truncates 124 4 none = false := by decide +kernel

/-- 8.11: 12 errored cells degrade, a good cell cleans, and 263 quarantines with count 255. -/
theorem test_error_counts :
    let at_ := fun n state => lab.updReceiver 4 fun r => { r with errors := n, state }
    let state := fun s : State => ((s.receivers.get 4).errors, (s.receivers.get 4).state)
    state (erroredArrival 4 (at_ 88 .clean)) = (96, .degraded) ∧ state (goodCell 4 (at_ 96 .degraded)) = (95, .clean) ∧
      state (erroredArrival 4 (at_ 247 .degraded)) = (255, .degraded) ∧
      state (erroredArrival 4 (at_ 255 .degraded)) = (255, .quarantined) := by decide +kernel

/-- 8.11, R142, R143: the 16th good cell of the 128th run recovers an AUTO trunk, and a MANUAL one only with a release. -/
theorem test_recovery :
    let at_ := fun p rel => lab.updReceiver 4 fun r => { r with
      errors := 255, state := .quarantined, runLength := 15, runCount := 127, inForce := some p, release := rel }
    let state := fun s : State => ((s.receivers.get 4).state, (s.receivers.get 4).runCount)
    state (quarantinedGood 4 (at_ .auto false)) = (.clean, 0) ∧ state (quarantinedGood 4 (at_ .manual false)) = (.quarantined, 128) ∧
      state (quarantinedGood 4 (at_ .manual true)) = (.clean, 0) := by decide +kernel

/-- 10.5: HOLD with a COMMITTED take enters HOLDING, without one HELD. -/
theorem test_hold :
    (run (.hold 0 (hdr 1 1)) (after (exec (.commitEvent 2) labDue))).mode = .holding ∧ (run (.hold 0 (hdr 1 1)) lab).mode = .held := by
  decide +kernel

/-- R181: a RESET without its arm is NO_ARM; after RESET_ARM on the same trunk it resets and the reply alone stands in the queue. -/
theorem test_reset :
    status (.reset 1 (hdr 1 1)) lab = some .noArm ∧
      (let s := run (.reset 1 (hdr 2 1)) (run (.resetArm 1 (hdr 1 1)) labA);
        lastReply 1 s = some (.ok, [.enumeration 0, .time 9000000]) ∧ (s.active.get 2).isNone = true ∧
          (s.returns.get 1).replies.length = 1 ∧ (s.sources.get 32).state = .acquiring) := by decide +kernel

/-- R3, R4: SET_MARGIN clamps in HELD, is refused in RUN, and TIMESET moves the epoch with the counter. -/
theorem test_margin_and_time :
    (run (.setMargin 1 (hdr 1 1) 1000001) heldLab).margin = 1000000 ∧ status (.setMargin 1 (hdr 1 1) 5) lab = some .notHeld ∧
      ((run (.timeset 1 (hdr 1 1) 9000100) heldLab).formats.get 3).epoch = 5000100 := by decide +kernel

/-- R6, R8: Pi of 9,999 and Pd of 4,096 are refused, and a format in use is not undefined. -/
theorem test_format_checks :
    status (.formatDefine 1 (hdr 1 1) 5 (.define 9999 0 1 0 255)) heldLab = some .operandError ∧
      status (.formatDefine 1 (hdr 1 1) 5 (.define 10000 0 4096 0 255)) heldLab = some .operandError ∧
      status (.formatDefine 1 (hdr 1 1) 5 (.define 10000 0 4095 0 255)) heldLab = some .ok ∧
      status (.formatDefine 1 (hdr 1 1) 3 .undefine) heldLab = some .inUse := by decide +kernel

/-- R41: an offset is clamped to half the period, and the reply says so. -/
theorem test_offset_clamped :
    let i := Instr.destDefine 1 (hdr 1 1) ⟨9, 3, 0, BitVec.ofInt 24 (-90000)⟩
    status i heldLab = some .okClamped ∧ ((run i heldLab).dests.get 9).offset = -83416 := by decide +kernel

/-- R24: a label byte outside 0x20 to 0x7E is stored as a question mark. -/
theorem test_label :
    ((run (.sourceDefine 1 (hdr 1 1) 33 3 (Tbl.fill 16 0x7F)) lab).sources.get 33).label = Tbl.fill 16 0x3F := by decide +kernel

/-! ## Witnesses: for each statement with hypotheses, states and operands that meet them -/

/-- The command is the head of its FIFO and may be taken. -/
def fits (i : Instr) (s : State) : Bool :=
  match spell i with
  | some (t, _, _, _) => headReady (ready i s) t i
  | none => false

/-- A busy part, written out: D0.2 DRAINING on S32 under a COMMITTED take to S33, destination 3 waiting on NONE with a take ARMED by
salvo slot 5, and one cell in the pool that two entries of port D0 name. -/
def busy : State :=
  let k : Take :=
    { source := .fixed (some 33), guardSource := none, mode := .next, target := 9000000, frames := 0, placed := some ⟨9171033, 1025⟩,
      late := false, deferred := false, overrideUsed := false, trunk := 1, tag := 11, salvo := none, partner := none, state := .committed }
  let x : Dest := { Dest.reset with format := some 3, offset := 200, current := some 33 }
  { State.reset with
    pending := [.houseTick, .drainExpiry 2]
    houseTime := 9338866
    mode := .run
    formats := State.reset.formats.set 3 f3
    sources := ((State.reset.sources.set 0 (lockedSource 3 f3 9337667)).set 32 (lockedSource 3 f3 9337667)).set 33
      { lockedSource 3 f3 9337667 with usage := 1 }
    dests := (State.reset.dests.set 2 x).set 3 { x with offset := 0, current := none }
    active := (State.reset.active.set 2 (some k)).set 3 (some { k with
      state := .armed, salvo := some 5, target := 9338866, placed := some ⟨9504699, 1027⟩ })
    switching := (State.reset.switching.set 2 ⟨.draining 32 true 9338866, none⟩).set 3 ⟨.steady none .waiting, some 9504699⟩
    salvos := State.reset.salvos.set 5 { SalvoSlot.empty with
      count := 1, positions := SalvoSlot.empty.positions.set 0 (some ⟨3, some 33, none⟩), outstanding := 1,
      firingTrunk := some 1, firingTag := some 70 }
    pool := [⟨7, 2, Cell.idle⟩]
    ports := State.reset.ports.set 0 { DropPort.reset with essence := [⟨7, 2⟩, ⟨7, 3⟩] } }

/-- A law of the takes of one position, from its check. -/
theorem all_takes {o : DestNo → Option Take} {P : DestNo → Take → Prop} (b : DestNo → Take → Bool)
    (hb : ∀ d k, b d k = true → P d k) (h : ∀ d, (o d).all (b d) = true) : ∀ d k, o d = some k → P d k := by
  intro d k e
  have := h d
  rw [e] at this
  exact hb d k this

/-- `carries` as a check. -/
def carriesCheck (s : State) (d : DestNo) (n : Option SourceNo) : Bool :=
  n.all fun m => (s.dests.get d).format.isSome && (s.sources.get m).format == (s.dests.get d).format

theorem carries_of_check {s : State} {d : DestNo} {n : Option SourceNo} (h : carriesCheck s d n = true) : carries s d n := by
  rintro m rfl
  simpa [carriesCheck] using h

theorem test_busy_queues : QueueBounds busy :=
  ⟨by decide +kernel, by decide +kernel, by decide +kernel, by decide +kernel, by decide +kernel, by decide +kernel,
    by decide +kernel⟩

theorem test_busy_mode : ModeLaw busy := ⟨by decide +kernel, by decide +kernel, by decide +kernel⟩

theorem test_busy_protection : ProtectionLaw busy := by unfold ProtectionLaw; decide +kernel

theorem test_busy_receivers : ReceiverLaw busy := by unfold ReceiverLaw; decide +kernel

theorem test_busy_sources : SourceLaw busy := by unfold SourceLaw; decide +kernel

theorem test_busy_usage : UsageLaw busy := by unfold UsageLaw; decide +kernel

theorem test_busy_formats : FormatLaw busy := ⟨by decide +kernel, by decide +kernel, by decide +kernel, by decide +kernel⟩

theorem test_busy_offsets : OffsetLaw busy := by unfold OffsetLaw; decide +kernel

theorem test_busy_switching : SwitchLaw busy := ⟨by decide +kernel, by decide +kernel⟩

theorem test_busy_takes : TakeLaw busy :=
  ⟨all_takes (fun _ k => activeFits k) (fun _ _ h => h) (by decide +kernel),
    all_takes (fun d k => followFits k && isCommitted (busy.active.get d)) (fun _ _ h => by simpa using h) (by decide +kernel),
    fun d k p e _ hp => by
      have := all_takes (o := busy.active.get) (P := fun _ k => k.partner = none) (fun _ k => k.partner == none)
        (fun _ _ h => by simpa using h) (by decide +kernel) d k e
      simp [this] at hp⟩

theorem test_busy_crosspoint : CrosspointLaw busy := by
  have fixed := fun (o : DestNo → Option Take)
      (h : ∀ d, (o d).all (fun k => match k.source with | .fixed n => carriesCheck busy d n | .unfixed => true) = true) =>
    all_takes (o := o) (P := fun d k => ∀ n, k.source = .fixed n → carries busy d n) _
      (fun d k hk n e => carries_of_check (by simpa [e] using hk)) h
  have guarded := fun (o : DestNo → Option Take) (h : ∀ d, (o d).all (fun k => k.guardSource.all (carriesCheck busy d)) = true) =>
    all_takes (o := o) (P := fun d k => ∀ n, k.guardSource = some n → carries busy d n) _
      (fun d k hk n e => carries_of_check (by simpa [e] using hk)) h
  refine ⟨fun d => carries_of_check ?_, fun d k n e => fixed busy.active.get (by decide +kernel) d k e n,
    fun d k n e => guarded busy.active.get (by decide +kernel) d k e n,
    fun d k n e => fixed busy.follow.get (by decide +kernel) d k e n, fun d k n e => guarded busy.follow.get (by decide +kernel) d k e n⟩
  revert d
  decide +kernel

theorem test_busy_salvos : SalvoLaw busy := ⟨by decide +kernel, by decide +kernel⟩

theorem test_busy_pool : PoolLaw busy := ⟨by decide +kernel, by decide +kernel⟩

/-- The invariants: the busy part is sound, and a step from it answers a next state. -/
theorem test_witness_invariants : Sound busy ∧ ∃ s', step busy = .next s' :=
  ⟨⟨test_busy_queues, test_busy_mode, test_busy_protection, test_busy_receivers, test_busy_sources, test_busy_usage,
    test_busy_formats, test_busy_offsets, test_busy_switching, test_busy_takes, test_busy_crosspoint, test_busy_salvos,
    test_busy_pool⟩, ⟨_, rfl⟩⟩

theorem test_witness_StepRunsFrontCommand : busy.pending = [.houseTick, .drainExpiry 2] ∧ lab.pending = [] := by decide +kernel

/-- Plain, extended, long and repeated forms: TAKE AT, DEST_DEFINE, FORMAT_DEFINE, SOURCE_DEFINE, SALVO_LOAD with ten pairs, SWEEP. -/
theorem test_witness_DecodeInvertsEncode :
    ([.take 1 (hdr 11 11) { takeA with mode := .atTime 9000001 }, .destDefine 7 (hdr 0 255) ⟨127, 255, 1, 0x800000⟩,
      .formatDefine 0 (hdr 65535 0) 15 (.define 10000 4094 4095 65535 255), .sourceDefine 2 (hdr 1 1) 255 255 (Tbl.fill 16 0x41),
      .salvoLoad 3 (hdr 1 1) ⟨31, 15, 10, List.replicate 10 ⟨127, 255, 0xFE⟩⟩,
      .sweep 4 (hdr 1 1) ⟨127, 255, 1, 0, .frames, 65535⟩, .houseTick] : List Instr).map (fun i => (i.wf, (spell i).isSome)) =
      [(true, true), (true, true), (true, true), (true, true), (true, true), (true, true), (true, false)] := by decide +kernel

/-- Both arms, an arm of another trunk that stands, and a RESET with and without its arm. -/
theorem test_witness_ArmsLastOneCommand :
    let s := lab.setArm 0 .reset
    let a := Instr.armOverride 1 (hdr 1 12) 4
    let b := Instr.resetArm 1 (hdr 1 12)
    fits a s = true ∧ fits b s = true ∧ (run a s).arms.get 1 = .overriding 4 12 ∧ (run b s).arms.get 1 = .reset ∧
      (run a s).arms.get 0 = .reset ∧ fits (.reset 0 (hdr 1 12)) s = true ∧ (run (.reset 0 (hdr 1 12)) s).arms.get 0 = .clear ∧
      fits (.reset 1 (hdr 1 12)) s = true ∧ (run (.reset 1 (hdr 1 12)) s).arms.get 0 = .reset := by decide +kernel

/-- The points of 1.10 before, at and after the least one's time; and a defined destination. -/
theorem test_witness_FirstFramePointIsLeast :
    0 < f3.pd.toNat ∧ 0 < f3.pi.toNat * f3.pd.toNat + f3.pn.toNat ∧ frameFrom f3 0 5166833 = 1 ∧ frameFrom f3 0 5166834 = 2 ∧
      framePoint f3 0 3 = 5500500 ∧ (lab.dests.get 2).format = some 3 := by decide +kernel

theorem test_witness_RenormalisationKeepsFramePoints :
    let s := { lab with houseTime := 5000000 + 1099511627776 }
    (s.formats.get 3).defined = true ∧ isDue s (addTicks (s.formats.get 3).epoch (2 ^ 40)) = true ∧
      0 < (s.formats.get 3).pd.toNat := by decide +kernel

/-- Each branch: in RUN, at 1,000,000 and past it. -/
theorem test_witness_SetMarginResult :
    fits (.setMargin 1 (hdr 1 1) 5) lab = true ∧ fits (.setMargin 1 (hdr 1 1) 1000000) heldLab = true ∧
      fits (.setMargin 1 (hdr 1 1) 1000001) heldLab = true := by decide +kernel

/-- In HELD with an ARMED take, and in RUN. -/
theorem test_witness_TimesetShiftsEveryTime :
    let s := { labA with mode := .held }
    fits (.timeset 1 (hdr 1 1) 0) s = true ∧ s.mode = .held ∧ isArmed (s.active.get 2) = true ∧
      status (.timeset 1 (hdr 1 1) 0) lab = some .notHeld := by decide +kernel

/-- The clauses: an undefined format at the edges of the ranges, a defined one with an ARMED take and an active fill timer, the undefine
form, and each refusal at the edge of its range. -/
theorem test_witness_FormatDefineResult :
    let s := { labA with mode := .held }
    let define := fun fb pi pn pd cb => Instr.formatDefine 1 (hdr 1 1) fb (.define pi pn pd 0 cb)
    fits (define 15 10000 4094 4095 255) s = true ∧ (15 : Byte).toNat = (15 : FormatNo).val ∧
      sourceOperand 255 = some none ∧ (s.formats.get 15).defined = false ∧
      fits (define 3 10000 0 1 0) s = true ∧ sourceOperand 0 = some (some 0) ∧ (s.formats.get 3).defined = true ∧
      isArmed (s.active.get 2) = true ∧ (s.dests.get 2).format = some 3 ∧ (s.switching.get 3).fill.isSome = true ∧
      fits (.formatDefine 1 (hdr 1 1) 3 .undefine) s = true ∧ s.mode = .held ∧
      status (define 15 10000 0 1 0) lab = some .notHeld ∧
      [define 16 10000 0 1 0, define 15 9999 0 1 0, define 15 10000 0 0 0, define 15 10000 0 4096 0, define 15 10000 1 1 0,
        define 15 10000 0 1 128].map (status · s) =
        [some .range, some .operandError, some .operandError, some .operandError, some .operandError, some .range] := by
  decide +kernel

theorem test_witness_ClockAndResetLine : lab.resetLine = false ∧ (after (exec .resetLineAsserted lab)).resetLine = true := by
  decide +kernel

/-- Counts 247 and, at the edge of DEGRADED, 88. -/
theorem test_witness_ErroredCellCounted :
    let s := fun n => lab.updReceiver 4 fun r => { r with errors := n, state := .degraded }
    (s 247).resetLine = false ∧ (Cell.make 3 0 0 []).good = false ∧ ((s 247).receivers.get 4).state ≠ .quarantined ∧
      ((s 247).receivers.get 4).errors + 8 ≤ 255 ∧ (lab.receivers.get 4).state = .clean := by decide +kernel

theorem test_witness_QuarantineEntered :
    let s := lab.updReceiver 2 fun r => { r with errors := 248, state := .degraded }
    s.resetLine = false ∧ (Cell.make 3 0 0 []).good = false ∧ (s.receivers.get 2).state = .degraded ∧
      255 < (s.receivers.get 2).errors + 8 ∧ (s.sources.get 32).state = .locked := by decide +kernel

/-- An IDLE cell, a COMMAND cell, and an ESSENCE cell of the UNDEFINED source S79; the cells are good by `test_good_cells`. -/
theorem test_witness_GoodCellPassedOn :
    lab.resetLine = false ∧ (lab.receivers.get 4).state ≠ .quarantined ∧ Cell.idle.kind = 0 ∧ (payloadCell [0x30]).kind = 2 ∧
      (Cell.make 1 0 10 []).kind = 1 ∧ (lab.sources.get (sourceOf 4 (Cell.make 1 0x0F 10 []).stream)).state = .undefined := by
  decide +kernel

theorem test_witness_QuarantinedCellsRecover :
    let s := lab.updReceiver 4 fun r => { r with state := .quarantined, runLength := 15, runCount := 127, inForce := some .auto }
    s.resetLine = false ∧ (s.receivers.get 4).state = .quarantined ∧ min 128 ((s.receivers.get 4).runCount + 1) = 128 := by
  decide +kernel

/-- A cell in sequence of S32, which destination 2 receives, and of S33, which none does; the port one entry short of full. -/
theorem test_witness_EssenceCellReplicated :
    let s := lab.updPort 0 fun x => { x with essence := List.replicate 511 ⟨0, 0⟩ }
    let c := Cell.make 1 0 10 []
    sourceOf 2 c.stream = 32 ∧ c.kind = 1 ∧ c.frameStart = false ∧ (s.receivers.get 2).state ≠ .quarantined ∧
      (s.sources.get 32).state = .locked ∧ (s.sources.get 32).lastSeq = some 9 ∧ c.seq = 10 ∧ receivingSet s 32 false = [2] ∧
      receivingSet s 33 false = [] ∧ (s.ports.get 0).essence.length + 1 ≤ 512 ∧ s.pool = [] := by decide +kernel

/-- The records that the second part rests on: the busy part's laws hold. A frame start of S32 ends the draining of destination 2, a later cell of
it is its tail copy; a frame start of S33 joins destination 2 once it is JOINING, with a COMMITTED take and a FOLLOW take behind it. -/
theorem test_witness_EssenceCellReplicated_cuts :
    let s := { busy with follow := busy.follow.set 2 ((busy.active.get 2).map fun k => { k with state := .following, placed := none }) }
    let j := s.updSwitching 2 fun w => { w with cut := .joining 9506699 }
    SwitchLaw s ∧ SwitchLaw j ∧ s.resetLine = false ∧ (s.pool.map (·.number)).Nodup ∧
      (s.receivers.get 2).state ≠ .quarantined ∧ (s.sources.get 32).state = .locked ∧ (s.sources.get 33).state = .locked ∧
      (s.sources.get 33).format = some 3 ∧ (s.sources.get 32).format = some 3 ∧ (s.formats.get 3).cadence = some 0 ∧
      (s.sources.get 33).lastSeq = some 9 ∧ (Cell.make 1 0x80 10 []).frameStart = true ∧ (Cell.make 1 0x80 10 []).kind = 1 ∧
      (s.dests.get 2).current = some 33 ∧ sourceOf 2 1 = 33 ∧ isCommitted (j.active.get 2) = true ∧ (j.follow.get 2).isSome = true ∧
      s.mode = .run ∧ (s.receivers.get 2).state = .clean :=
  ⟨⟨by decide +kernel, by decide +kernel⟩, ⟨by decide +kernel, by decide +kernel⟩, by decide +kernel⟩

/-- Pool slots with these numbers, each with one reference. -/
def slots (ks : List PoolNo) : List PoolSlot := ks.map fun k => ⟨k, 1, Cell.idle⟩

theorem slots_numbers (ks : List PoolNo) : (slots ks).map (·.number) = ks := by simp [slots, List.map_map, Function.comp_def]

theorem slots_length (ks : List PoolNo) : (slots ks).length = ks.length := by simp [slots]

/-- The busy part with these pool slots in use. -/
def busyWith (ks : List PoolNo) : State := { busy with pool := slots ks }

theorem busyWith_pool (ks : List PoolNo) : (busyWith ks).pool = slots ks := rfl

/-- Destination 2 STEADY on S33, FORWARDING and WAITING_FRAME; a full port; a full pool; a sequence break. -/
theorem test_witness_EssenceCellReplicated_fails :
    let s := fun w => { busy with
      active := busy.active.set 2 none, switching := busy.switching.set 2 w,
      ports := busy.ports.modify 0 fun x => { x with essence := List.replicate 512 ⟨7, 2⟩ } }
    let full := busyWith (List.finRange 2048)
    SwitchLaw (s ⟨.steady (some 33) .forwarding, none⟩) ∧ SwitchLaw (s ⟨.steady (some 33) .waiting, some 9504899⟩) ∧
      ((s ⟨.steady (some 33) .forwarding, none⟩).ports.get 0).essence.length = 512 ∧ SwitchLaw full ∧
      (full.pool.map (·.number)).Nodup ∧ 2048 ≤ full.pool.length ∧
      (busy.sources.get 33).lastSeq.any (fun q => (5 : BitVec 16) != q + 1) = true := by
  refine ⟨⟨by decide +kernel, by decide +kernel⟩, ⟨by decide +kernel, by decide +kernel⟩, by decide +kernel,
    ⟨by decide +kernel, by decide +kernel⟩, ?_, ?_, by decide +kernel⟩
  · rw [busyWith_pool, slots_numbers]
    exact List.nodup_finRange _
  · rw [busyWith_pool, slots_length, List.length_finRange]

theorem test_witness_SourceFollowsItsCells :
    let s := lab.updSource 32 fun r => { r with state := .acquiring, inWindow := 2, lastCapture := some 8833167 }
    let c := Cell.make 1 0x80 10 []
    s.resetLine = false ∧ c.kind = 1 ∧ c.frameStart = true ∧ sourceOf 2 c.stream = 32 ∧ (s.sources.get 32).state = .acquiring ∧
      (s.sources.get 32).inWindow = 2 ∧ (s.sources.get 32).lastCapture = some 8833167 ∧ (s.sources.get 32).format = some 3 ∧
      intervalInWindow (s.formats.get 3) 8833167 s.houseTime = true ∧ (s.sources.get 32).lastSeq = some 9 ∧ c.seq = 10 := by
  decide +kernel

/-- The second part's records: S33 ABSENT, LOST and LOCKED one capture before its fallback; the cadence source S0 LOCKED, one interval in window
after its capture and outside the window of the predicted frame, so that format 3, which an ARMED take and a fill timer carry, is
re-anchored; a sequence break. -/
theorem test_witness_SourceFollowsItsCells_states :
    let s := fun n r => { busy with sources := busy.sources.set n r }
    let away : Source := { Source.reset with format := some 3, state := .absent }
    let out : Source := { lockedSource 3 f3 9337667 with outWindow := 1 }
    let late : Source := { lockedSource 3 f3 9172033 with usage := 0 }
    FormatLaw (s 33 away) ∧ FormatLaw (s 33 { away with state := .lost }) ∧ FormatLaw (s 33 out) ∧ FormatLaw (s 0 late) ∧
      intervalInWindow f3 9337667 busy.houseTime = false ∧ intervalInWindow f3 9172033 busy.houseTime = true ∧
      f3.wl.toNat < (deviation f3 busy.houseTime).natAbs ∧ isArmed (busy.active.get 3) = true ∧
      (busy.switching.get 3).fill.isSome = true ∧ (busy.dests.get 3).format = some 3 ∧ busy.resetLine = false ∧
      (busy.receivers.get 0).state = .clean ∧ (∀ d, (busy.dests.get d).current ≠ some 0) ∧
      (s 33 out).sources.get 33 = out ∧ out.lastSeq.any (fun q => (5 : BitVec 16) != q + 1) = true :=
  ⟨⟨by decide +kernel, by decide +kernel, by decide +kernel, by decide +kernel⟩,
    ⟨by decide +kernel, by decide +kernel, by decide +kernel, by decide +kernel⟩,
    ⟨by decide +kernel, by decide +kernel, by decide +kernel, by decide +kernel⟩,
    ⟨by decide +kernel, by decide +kernel, by decide +kernel, by decide +kernel⟩, by decide +kernel⟩

/-- S0, the cadence source, re-anchors format 3 on the frame start that joins destination 2 to it (R17, R85): the promoted take and the
refused cell's fill follow the new epoch, 9,338,866. -/
theorem test_witness_EssenceCellReplicated_anchor :
    let late : Source := { lockedSource 3 f3 9172033 with usage := 1 }
    let j := { busy with
      sources := (busy.sources.set 0 late).set 33 { lockedSource 3 f3 9337667 with usage := 0 }
      dests := busy.dests.modify 2 fun x => { x with current := some 0 }
      switching := busy.switching.set 2 ⟨.joining 9506699, none⟩
      follow := busy.follow.set 2 ((busy.active.get 2).map fun k => { k with state := .following, placed := none }) }
    let s' := essenceArrival 0 (Cell.make 1 0x80 10 []) 0 j
    let full := essenceArrival 0 (Cell.make 1 0x80 10 []) 0 (j.updPort 0 fun x => { x with essence := List.replicate 512 ⟨7, 2⟩ })
    FormatLaw j ∧ SwitchLaw j ∧ (s'.formats.get 3).epoch = 9338866 ∧
      s'.switching.get 2 = { cut := .steady (some 0) .forwarding, fill := none } ∧
      (s'.active.get 2).bind (·.placed) = some (switchPlace (s'.formats.get 3) 200 20000 9338866 0) ∧
      (full.switching.get 2).fill = some (firstPoint (full.formats.get 3) 200 (9338866 + 166834)) ∧
      (s'.switching.get 3).fill = some 9505699 :=
  ⟨⟨by decide +kernel, by decide +kernel, by decide +kernel, by decide +kernel⟩, ⟨by decide +kernel, by decide +kernel⟩,
    by decide +kernel⟩

/-- Every choice of R98: a service head alone, before a frame start, past 64 cells; an essence head alone, and past a waiting entry. -/
theorem test_witness_DropPortArbitrates :
    let e : ServiceEntry := ⟨.fill, 3⟩
    let plain : EssenceEntry := ⟨7, 2⟩
    let start : EssenceEntry := ⟨8, 2⟩
    let pool := [⟨7, 2, Cell.make 1 0 5 []⟩, ⟨8, 1, Cell.make 1 0x80 5 []⟩]
    let s := fun essence service passed =>
      { lab with pool := pool, ports := lab.ports.modify 1 fun x => { x with essence, service, passedOver := passed } }
    lab.resetLine = false ∧ ((s [] [e] 0).ports.get 1).essence = [] ∧ (cellIn pool start.slot).frameStart = true ∧
      64 ≤ ((s [plain] [e] 64).ports.get 1).passedOver ∧ (cellIn pool plain.slot).frameStart = false ∧
      ((s [plain] [e] 63).ports.get 1).passedOver < 64 ∧ ((s [plain] [] 0).ports.get 1).service = [] := by decide +kernel

/-- Each choice of R149: a reply alone, both queues with either pointer, a report alone, neither. -/
theorem test_witness_ReturnQueuesAlternate :
    let r : Reply := ⟨0x30, 0, 1, .ok, []⟩
    let q : Report := .held 5 0 0
    let s := fun replies reports pointer => lab.updReturn 1 fun x => { x with replies, reports, pointer }
    lab.resetLine = false ∧ ((s [r] [q] .reply).returns.get 1).pointer = .reply ∧ ((s [r] [q] .report).returns.get 1).pointer = .report ∧
      ((s [r] [] .report).returns.get 1).reports = [] ∧ ((s [] [q] .reply).returns.get 1).replies = [] := by decide +kernel

/-- In RUN and HELD, without a guard and with one that fails (S34 is not D0.2's current source). -/
theorem test_witness_CommitEventDecides :
    let s := labDue
    let g := { labDue with active := labDue.active.modify 2 fun o => o.map fun k : Take => { k with guardSource := some (some 34) } }
    (s.active.get 2).map (·.state) = some .armed ∧ (s.active.get 2).map (·.placed) = some (some ⟨9171033, 1025⟩) ∧
      boundPartner s 2 = none ∧ isDue s (addTicks 9171033 (-s.margin)) = true ∧ s.mode = .run ∧
      (g.active.get 2).map (·.guardSource) = some (some (some 34)) ∧ (g.dests.get 2).current = some 32 ∧
      boundPartner g 2 = none := by decide +kernel

/-- The part after SWAP of D0.2 and destination 3. -/
def labPair : State := run (.swap 1 (hdr 80 30) ⟨2, 3, .next, 0⟩) lab

theorem test_witness_SwapPairCommitsTogether :
    let s := { labPair with houseTime := 9171033 }
    boundPartner s 2 = some 3 ∧ (s.active.get 2).isSome = true ∧ (s.active.get 3).isSome = true ∧
      (s.active.get 2).bind (·.placed) = some ⟨9171033, 1025⟩ ∧ (s.active.get 3).bind (·.placed) = some ⟨9170833, 1025⟩ ∧
      isDue s (earlier (addTicks 9171033 (-s.margin)) (addTicks 9170833 (-s.margin))) = true := by decide +kernel

/-- To S33 and to NONE, from a LOCKED source, a LOST one and NONE; from a salvo slot, with a FOLLOW take behind it, and in HOLDING. -/
theorem test_witness_SwitchEventCuts :
    let s := labCut
    let t := { labCut with active := labCut.active.modify 2 fun o => o.map fun k : Take => { k with source := .fixed none } }
    let u := { t with
      mode := .holding
      active := t.active.modify 2 fun o => o.map fun k : Take => { k with salvo := some 5 }
      follow := t.follow.set 2 ((t.active.get 2).map fun k : Take => { k with state := .following, placed := none })
      salvos := t.salvos.modify 5 fun x => { x with count := 1, outstanding := 1, firingTrunk := some 1, firingTag := some 70 } }
    (s.active.get 2).map (·.state) = some .committed ∧ (s.active.get 2).bind (·.placed) = some ⟨9171033, 1025⟩ ∧
      (s.active.get 2).map (·.source) = some (.fixed (some 33)) ∧ (t.active.get 2).map (·.source) = some (.fixed none) ∧
      (s.switching.get 2).cut = .steady (some 32) .forwarding ∧ isDue s 9171033 = true ∧
      ((s.updSource 32 fun r => { r with state := .lost }).sources.get 32).state = .lost ∧
      ((s.updSwitching 2 fun w => { w with cut := .steady none .waiting }).switching.get 2).cut = .steady none .waiting ∧
      (u.active.get 2).map (·.salvo) = some (some 5) ∧ (u.follow.get 2).isSome = true ∧ (u.salvos.get 5).firingTag = some 70 ∧
      (u.active.get 2).map (·.source) = some (.fixed none) ∧ s.mode = .run := by
  decide +kernel

/-- S32 lost at its frame watch: destination 2, FORWARDING it, posts its DISPLAY and FILL entries and fills from the next frame point. -/
theorem test_witness_FrameWatchExpiryLoses :
    let s := { lab with houseTime := 8837367 + 334666 }
    let s' := after (exec (.frameWatchExpiry 32) s)
    (s.sources.get 32).frameWatch = some (8837367 + 334666) ∧ isDue s (8837367 + 334666) = true ∧
      (s.sources.get 32).state = .locked ∧ (s.switching.get 2).cut = .steady (some 32) .forwarding ∧
      (s'.ports.get 0).service = [⟨.display, 2⟩, ⟨.fill, 2⟩] ∧ (s'.switching.get 2).fill = some 9337866 := by decide +kernel

theorem test_witness_DrainExpiryJoins :
    (labDrain.switching.get 2).cut = .draining 32 true 9338866 ∧ isDue labDrain 9338866 = true := by decide +kernel

/-- With a FOLLOW take behind the COMMITTED one and without, and from a salvo slot. -/
theorem test_witness_JoinExpiryCompletes :
    (labJoin.switching.get 2).cut = .joining 9506699 ∧ isDue labJoin 9506699 = true ∧
      (labJoin.active.get 2).map (·.state) = some .committed ∧ (labJoin.dests.get 2).format.isSome = true ∧
      (labJoin.follow.get 2).isNone = true ∧
      ((run (.take 1 (hdr 12 11) { takeA with source := 34 }) labJoin).follow.get 2).isSome = true := by decide +kernel

theorem test_witness_FillFramePointPosts :
    let x := (lab.switching.get 3).fill.getD 0
    let s := { lab with houseTime := x }
    (s.switching.get 3).fill = some x ∧ isDue s x = true ∧ (s.dests.get 3).format.isSome = true := by decide +kernel

/-- A TAKE and a PROBE that fail a check; a mode byte and each operand past its range, and the guard bytes that are none. -/
theorem test_witness_TakeCheckedInOrder :
    let o := { takeA with source := 64 }
    let bad : List TakeOperands := [{ takeA with mode := .other 3 }, { takeA with dest := 128 }, { takeA with source := 128 },
      { takeA with guardByte := 128 }, { takeA with guardByte := 0xFD }]
    fits (.take 1 (hdr 1 11) o) lab = true ∧ fits (.probe 1 (hdr 1 11) o) lab = true ∧
      checkTake (hdr 1 11) o (lab.arms.get 1) (headTaken (ready (.take 1 (hdr 1 11) o) lab) 1) = .error .formatMismatch ∧
      bad.map (fun o => status (.take 1 (hdr 1 11) o) lab) =
        [some .operandError, some .range, some .range, some .range, some .range] ∧
      (fixTarget 9000000 (.atTime 8999999) 7).late = true ∧ (fixTarget 9000000 (.atTime (9000000 + 4294967296)) 0).beyond = false ∧
      (fixTarget 9000000 (.atTime (9000000 + 4294967297)) 0).beyond = true := by
  decide +kernel

/-- The request of TAKE A. -/
def requestA : Request := { dest := 2, source := some 33, guardSource := none, target := ⟨.next, 9000000, 0, false, false⟩ }

/-- ARMED on an empty position, and FOLLOW behind a COMMITTED take. -/
theorem test_witness_TakePlaced :
    let i := Instr.take 1 (hdr 11 11) takeA
    let s := { labCut with houseTime := 9000000 }
    fits i lab = true ∧ checkTake (hdr 11 11) takeA (lab.arms.get 1) (headTaken (ready i lab) 1) = .ok requestA ∧
      (lab.active.get 2).any (fun q => q.state != .armed) = false ∧
      fits i s = true ∧ checkTake (hdr 11 11) takeA (s.arms.get 1) (headTaken (ready i s) 1) = .ok requestA ∧
      (s.active.get 2).any (fun q => q.state != .armed) = true := by decide +kernel

/-- An ARMED take superseded is reported on its trunk, and a SWAP half with its partner, whose destination is vacated (R65). -/
theorem test_supersession_reports :
    let a := run (.take 1 (hdr 12 11) { takeA with source := 34 }) labA
    let b := run (.take 1 (hdr 12 11) takeA) labPair
    (a.returns.get 1).reports = [.takeDone 2 11 .superseded (.fixed (some 33)) false (some ⟨9171033, 1025⟩) 9000000] ∧
      (b.returns.get 1).reports.map (fun r => match r with
        | .takeDone d tag out source _ _ _ => some (d, tag, out, source)
        | _ => none) = [some (2, 80, .superseded, .unfixed), some (3, 80, .superseded, .unfixed)] ∧
      (b.active.get 3).isNone = true := by decide +kernel

theorem test_witness_ProbeAnswersAsTake :
    let i := Instr.probe 1 (hdr 11 11) takeA
    fits i lab = true ∧ checkTake (hdr 11 11) takeA (lab.arms.get 1) (headTaken (ready i lab) 1) = .ok requestA := by decide +kernel

/-- With an ARMED SWAP half, with the last take of a salvo slot, and with nothing pending; and each refusal. -/
theorem test_witness_CancelRemovesPending :
    let s := fun p => lab.updDest 127 fun x => { x with protection := p, owner := 9 }
    let c := run (.cancel 1 (hdr 1 11) 3) busy
    fits (.cancel 1 (hdr 1 11) 2) labPair = true ∧ destOperand 2 = some 2 ∧ protectionFailure (labPair.dests.get 2) 11 = none ∧
      boundPartner labPair 2 = some 3 ∧ fits (.cancel 1 (hdr 1 11) 2) lab = true ∧ protectionFailure (lab.dests.get 2) 11 = none ∧
      (c.returns.get 1).reports = [.salvoDone 5 70 ⟨0, 0, 0, 0, 0, 1⟩ 9338866] ∧ (c.salvos.get 5).outstanding = 0 ∧
      status (.cancel 1 (hdr 1 9) 128) lab = some .range ∧ status (.cancel 1 (hdr 1 8) 127) (s .locked) = some .lockedOut ∧
      status (.cancel 1 (hdr 1 9) 127) (s .guarded) = some .isProtected := by
  decide +kernel

/-- A run UP in which destinations 2 to 4 pass and 5 fails, and a run DOWN; each refusal at the edge of its range. -/
theorem test_witness_SweepTakesItsRun :
    fits (.sweep 1 (hdr 1 11) ⟨2, 4, 0, 33, .next, 0⟩) lab = true ∧ fits (.sweep 1 (hdr 1 11) ⟨4, 3, 1, 33, .next, 0⟩) lab = true ∧
      namesMode .next = true ∧ directionOperand 0 = some true ∧ directionOperand 1 = some false ∧ destOperand 4 = some 4 ∧
      sourceOperand 33 = some (some 33) ∧
      ([⟨128, 4, 2, 128, .other 3, 0⟩, ⟨128, 4, 2, 128, .next, 0⟩, ⟨128, 4, 1, 0, .next, 0⟩, ⟨127, 4, 1, 128, .next, 0⟩] :
        List SweepOperands).map (fun o => status (.sweep 1 (hdr 1 11) o) lab) =
        [some .operandError, some .operandError, some .range, some .range] := by decide +kernel

/-- A pair that passes beside an ARMED take; each refusal at the edge of its range, and checks 4 to 9 for A or for B. -/
theorem test_witness_SwapArmsBothHalves :
    let swap := fun a b mode => Instr.swap 1 (hdr 80 30) ⟨a, b, mode, 0⟩
    let refusal := fun (i : Instr) (s : State) => lastReply 1 (run i s)
    let guardedB := labA.updDest 3 fun x => { x with protection := .guarded }
    let recordingB := labA.updDest 4 fun x => { x with recording := true }
    fits (swap 2 3 .next) labA = true ∧ destOperand 2 = some 2 ∧ destOperand 3 = some 3 ∧
      swapFailure labA 30 2 3 (fixTarget labA.houseTime .next 0) = none ∧ (labA.active.get 2).isSome = true ∧
      [swap 128 128 (.other 3), swap 128 129 .next, swap 2 128 .next, swap 2 2 .next, swap 3 127 .next, swap 2 5 .next,
        swap 2 3 (.atTime (9000000 + 4294967297))].map (refusal · labA) =
        [some (.operandError, [.quantity 255]), some (.range, [.quantity 128]), some (.range, [.quantity 128]),
          some (.operandError, [.quantity 255]), some (.undefined, [.quantity 127]), some (.operandError, [.quantity 255]),
          some (.range, [.quantity 2])] ∧
      refusal (swap 3 2 .next) labCut = some (.busy, [.quantity 2]) ∧
      refusal (swap 2 3 .next) guardedB = some (.isProtected, [.quantity 3]) ∧
      refusal (swap 2 4 .next) recordingB = some (.recording, [.quantity 4]) := by decide +kernel

/-- Ten pairs from position 7, which wrap, and one pair at position 15, which does not; each refusal of R105, in its order. -/
theorem test_witness_SalvoLoadWritesPairs :
    let p : RawPair := ⟨2, 33, 0xFE⟩
    let refusal := fun o s => lastReply 1 (run (.salvoLoad 1 (hdr 1 1) o) s)
    fits (.salvoLoad 1 (hdr 1 1) ⟨5, 7, 10, List.replicate 10 p⟩) lab = true ∧
      fits (.salvoLoad 1 (hdr 1 1) ⟨31, 15, 1, [p]⟩) lab = true ∧ slotOperand 5 = some 5 ∧ slotOperand 31 = some 31 ∧
      (pairOperand p).isSome = true ∧ (lab.salvos.get 5).outstanding = 0 ∧ (lab.salvos.get 31).outstanding = 0 ∧
      ([⟨32, 16, 0, []⟩, ⟨31, 16, 0, []⟩, ⟨31, 15, 0, []⟩, ⟨31, 15, 11, []⟩, ⟨5, 0, 3, [p, ⟨2, 128, 0xFE⟩, ⟨128, 33, 0xFE⟩]⟩, ⟨5, 0, 1, [p]⟩] :
        List LoadOperands).map (refusal · busy) =
        [some (.range, []), some (.range, []), some (.operandError, []), some (.operandError, []), some (.range, [.quantity 1]),
          some (.busy, [])] := by decide +kernel

/-- A slot out of range, one FIRED, and one that is not. -/
theorem test_witness_SalvoClearEmpties :
    fits (.salvoClear 1 (hdr 1 1) 32) lab = true ∧ fits (.salvoClear 1 (hdr 1 1) 5) busy = true ∧
      0 < (busy.salvos.get 5).outstanding ∧ fits (.salvoClear 1 (hdr 1 1) 31) lab = true := by decide +kernel

/-- The busy part with its ARMED take gone: slot 5 is LOADED, and its pair passes. -/
def unfired : State :=
  { busy with
    active := busy.active.set 3 none
    salvos := busy.salvos.modify 5 fun k => { k with outstanding := 0 } }

/-- A pair that passes in both modes; the refusals: mode and fire mode bytes that are none, slot 32, an EMPTY slot, a FIRED one, and a pair
that fails in STRICT mode; and that pair skipped in LENIENT mode. -/
theorem test_witness_SalvoFireCreatesTakes :
    let fire := fun slot mode target => Instr.salvoFire 1 (hdr 70 11) ⟨slot, mode, target, 0⟩
    let blank := unfired.updDest 3 fun x => { x with format := none }
    (fits (fire 5 0 .next) unfired = true ∧ fits (fire 5 1 .next) unfired = true ∧ (5 : Byte).toNat = (5 : SlotNo).val ∧
      0 < (unfired.salvos.get 5).count ∧ (unfired.salvos.get 5).outstanding = 0 ∧
      requestFailure unfired 11 false .clear
        { dest := 3, source := some 33, guardSource := none, target := fixTarget unfired.houseTime .next 0 } = none ∧
      lastReply 1 (run (fire 5 0 .next) unfired) =
        some (.ok, [.quantity 1, .quantity 0, .quantity 255, .status .ok, .quantity 1, .quantity 0, .flag false]) ∧
      [fire 5 0 (.other 3), fire 5 2 .next, fire 32 0 .next, fire 31 0 .next].map (status · unfired) =
        [some .operandError, some .operandError, some .range, some .emptySlot] ∧
      status (fire 5 0 .next) busy = some .busy ∧ lastReply 1 (run (fire 5 0 .next) blank) = some (.undefined, [.quantity 0]) ∧
      status (fire 5 1 .next) blank = some .ok) ∧
      SalvoLaw unfired ∧ TakeLaw unfired :=
  ⟨by decide +kernel, ⟨by decide +kernel, by decide +kernel⟩,
    all_takes (fun _ k => activeFits k) (fun _ _ h => h) (by decide +kernel),
    all_takes (fun d k => followFits k && isCommitted (unfired.active.get d)) (fun _ _ h => by simpa using h) (by decide +kernel),
    fun d k p e _ hp => by
      have := all_takes (o := unfired.active.get) (P := fun _ k => k.partner = none) (fun _ k => k.partner == none)
        (fun _ _ h => by simpa using h) (by decide +kernel) d k e
      simp [this] at hp⟩

/-- Each protection state, at destination 127 and out of range at 128. -/
theorem test_witness_ProtectionTables :
    let s := fun p => lab.updDest 127 fun x => { x with protection := p, owner := 9 }
    fits (.lock 1 (hdr 1 9) 128) lab = true ∧ fits (.lock 1 (hdr 1 0) 127) lab = true ∧ fits (.lock 1 (hdr 1 255) 127) lab = true ∧
      fits (.unlock 1 (hdr 1 255) 127) (s .locked) = true ∧ fits (.protect 1 (hdr 1 9) 127) (s .guarded) = true ∧
      fits (.unprotect 1 (hdr 1 8) 127) (s .guarded) = true ∧ destOperand 127 = some 127 := by decide +kernel

theorem test_witness_ArmCommandsSetTheArm :
    fits (.armOverride 1 (hdr 1 12) 128) lab = true ∧ fits (.armOverride 1 (hdr 1 12) 127) lab = true ∧
      fits (.resetArm 1 (hdr 1 12)) lab = true := by decide +kernel

/-- A RECORDER turned ON with an ARMED take, and OFF; each refusal of R45, in its order. -/
theorem test_witness_RecordStateSetsRecording :
    let s := run (.take 1 (hdr 1 12) { takeA with dest := 4 }) lab
    fits (.recordState 1 (hdr 1 40) 4 1) s = true ∧ fits (.recordState 1 (hdr 1 40) 4 0) s = true ∧ destOperand 4 = some 4 ∧
      onOffOperand 1 = some true ∧ onOffOperand 0 = some false ∧ (s.dests.get 4).format.isSome = true ∧
      (s.dests.get 4).cls = .recorder ∧ isArmed (s.active.get 4) = true ∧
      [((128 : Byte), (2 : Byte)), (127, 2), (4, 2), (2, 1)].map (fun x => status (.recordState 1 (hdr 1 40) x.1 x.2) lab) =
        [some .range, some .undefined, some .operandError, some .operandError] := by decide +kernel

/-- The offset kept, moved, and clamped; an ARMED take stands on the destination. Each refusal, in the order of R39. -/
theorem test_witness_DestDefineMovesOffset :
    let s := { labA with mode := .held }
    let define := fun d f c => Instr.destDefine 1 (hdr 1 1) ⟨d, f, c, 0⟩
    fits (.destDefine 1 (hdr 1 1) ⟨2, 3, 0, 200⟩) s = true ∧ fits (.destDefine 1 (hdr 1 1) ⟨2, 3, 0, 8388607⟩) s = true ∧
      destOperand 2 = some 2 ∧ formatOperand 3 = some (some 3) ∧ classOperand 0 = some .monitor ∧ (s.formats.get 3).defined = true ∧
      (s.dests.get 2).format = some 3 ∧ isArmed (s.active.get 2) = true ∧ status (define 128 16 2) lab = some .notHeld ∧
      [define 128 15 2, define 127 16 2, define 127 254 2, define 127 15 2, define 127 3 2, define 127 255 2].map (status · s) =
        [some .range, some .range, some .range, some .undefined, some .operandError, some .operandError] := by decide +kernel

/-- An UNDEFINED destination; a defined one in use, undefined, and moved to another format. -/
theorem test_witness_DestDefineChangesFormat :
    let s := heldLab
    fits (.destDefine 1 (hdr 1 1) ⟨127, 3, 1, 0⟩) s = true ∧ (s.dests.get 127).format = none ∧ (s.dests.get 127).recording = false ∧
      (s.dests.get 127).current = none ∧ (s.active.get 127).isNone = true ∧ (s.follow.get 127).isNone = true ∧
      fits (.destDefine 1 (hdr 1 1) ⟨2, 1, 0, 0⟩) s = true ∧ (s.dests.get 2).format = some 3 ∧ (s.dests.get 2).current = some 32 ∧
      formatOperand 1 = some (some 1) ∧ (s.formats.get 1).defined = true ∧
      fits (.destDefine 1 (hdr 1 1) ⟨3, 255, 0, 0⟩) s = true ∧ formatOperand 255 = some none ∧ (s.dests.get 3).format = some 3 ∧
      (s.dests.get 3).current = none ∧ fits (.destDefine 1 (hdr 1 1) ⟨3, 1, 1, 0⟩) s = true ∧
      fits (.destDefine 1 (hdr 1 1) ⟨127, 255, 1, 5⟩) s = true ∧ status (.destDefine 1 (hdr 1 1) ⟨127, 255, 1, 5⟩) s = some .ok := by
  decide +kernel

/-- A relabel of a source in use, a format change refused, an undefined source defined, and an unused one undefined; each refusal of R20. -/
theorem test_witness_SourceDefineStores :
    let l : Tbl Byte 16 := Tbl.fill 16 0x41
    fits (.sourceDefine 1 (hdr 1 1) 32 3 l) lab = true ∧ sourceInUse lab 32 = true ∧ fits (.sourceDefine 1 (hdr 1 1) 32 1 l) lab = true ∧
      fits (.sourceDefine 1 (hdr 1 1) 127 3 l) lab = true ∧ (lab.sources.get 127).format = none ∧ sourceInUse lab 127 = false ∧
      fits (.sourceDefine 1 (hdr 1 1) 33 255 l) lab = true ∧ sourceInUse lab 33 = false ∧ sourceNumber 127 = some 127 ∧
      formatOperand 3 = some (some 3) ∧ (lab.formats.get 3).defined = true ∧
      [((128 : Byte), (15 : Byte)), (127, 16), (127, 254), (127, 15), (32, 255)].map
        (fun x => status (.sourceDefine 1 (hdr 1 1) x.1 x.2 l) lab) =
        [some .range, some .range, some .range, some .undefined, some .inUse] := by decide +kernel

theorem test_witness_SourceTallyReplacesBits :
    let y : Tally := ⟨true, false, false, true⟩
    fits (.sourceTally 1 (hdr 1 1) 128 y) lab = true ∧ fits (.sourceTally 1 (hdr 1 1) 127 y) lab = true ∧
      (lab.sources.get 127).state = .undefined ∧ fits (.sourceTally 1 (hdr 1 1) 32 y) lab = true ∧ sourceNumber 32 = some 32 := by
  decide +kernel

theorem test_witness_ReportMaskReplaced : fits (.setReportMask 1 (hdr 1 1) 0x0F) lab = true := by decide +kernel

/-- Out of range at 8, the sender itself, a QUARANTINED trunk, and both policies. -/
theorem test_witness_TrunkCommandsAct :
    let s := lab.updReceiver 7 fun r => { r with state := .quarantined, inForce := some .manual }
    fits (.trunkRelease 1 (hdr 1 1) 8) s = true ∧ fits (.trunkRelease 1 (hdr 1 1) 1) s = true ∧
      fits (.trunkRelease 1 (hdr 1 1) 7) s = true ∧ trunkOperand 7 = some 7 ∧ fits (.trunkPolicy 1 (hdr 1 1) 8 0) s = true ∧
      fits (.trunkPolicy 1 (hdr 1 1) 7 2) s = true ∧ fits (.trunkPolicy 1 (hdr 1 1) 7 1) s = true ∧
      policyOperand 1 = some .manual ∧ (s.receivers.get 7).inForce = some .manual := by decide +kernel

/-- In RUN without and with a COMMITTED take, in HOLDING and in HELD. -/
theorem test_witness_HoldEntersHolding :
    fits (.hold 1 (hdr 1 1)) lab = true ∧ fits (.hold 1 (hdr 1 1)) labCut = true ∧
      fits (.hold 1 (hdr 1 1)) { labCut with mode := .holding } = true ∧ fits (.hold 1 (hdr 1 1)) heldLab = true := by decide +kernel

/-- In RUN, and in HELD with a SWAP pair at its commit point. -/
theorem test_witness_ResumeRetargets :
    let s := { labPair with mode := .held, houseTime := 9150833 }
    fits (.resume 1 (hdr 1 1)) lab = true ∧ fits (.resume 1 (hdr 1 1)) s = true ∧ s.mode ≠ .run ∧
      resumes s 2 = true ∧ resumes s 5 = false := by decide +kernel

/-- Without the arm and with it. -/
theorem test_witness_WarmResetKeepsAndClears :
    let s := labCut.setArm 1 .reset
    fits (.reset 1 (hdr 1 1)) lab = true ∧ lab.arms.get 1 ≠ .reset ∧ fits (.reset 1 (hdr 1 1)) s = true ∧ s.arms.get 1 = .reset := by
  decide +kernel

/-- Each command, at the last number of its range and past it. -/
theorem test_witness_ReadsReturnRecords :
    fits (.identify 1 (hdr 1 1)) lab = true ∧ fits (.readStatus 1 (hdr 1 1)) lab = true ∧
      fits (.readSource 1 (hdr 1 1) 128) lab = true ∧ fits (.readSource 1 (hdr 1 1) 127) lab = true ∧
      fits (.readFormat 1 (hdr 1 1) 16) lab = true ∧ fits (.readFormat 1 (hdr 1 1) 15) lab = true ∧ formatNumber 15 = some 15 ∧
      fits (.readSalvo 1 (hdr 1 1) 32 0) lab = true ∧ fits (.readSalvo 1 (hdr 1 1) 31 2) lab = true ∧
      fits (.readSalvo 1 (hdr 1 1) 31 1) lab = true ∧ slotOperand 31 = some 31 ∧ halfOperand 1 = some false := by decide +kernel

/-- Out of range, a count of 0 and 5, a wrap of 5, no wrap at 126, and a group of 64. -/
theorem test_witness_ReadDestReturnsRange :
    fits (.readDest 1 (hdr 1 1) 128 1 0) lab = true ∧ fits (.readDest 1 (hdr 1 1) 127 0 0) lab = true ∧
      fits (.readDest 1 (hdr 1 1) 127 5 0) lab = true ∧ fits (.readDest 1 (hdr 1 1) 127 1 5) lab = true ∧
      fits (.readDest 1 (hdr 1 1) 126 4 0) lab = true ∧ fits (.readDest 1 (hdr 1 1) 30 4 4) lab = true ∧
      destOperand 126 = some 126 := by decide +kernel

/-- The first and last group of each kind, the first past them, and the clear flag. -/
theorem test_witness_ReadCountersClears :
    fits (.readCounters 1 (hdr 1 1) 19 true) lab = true ∧ fits (.readCounters 1 (hdr 1 1) 7 false) lab = true ∧
      fits (.readCounters 1 (hdr 1 1) 8 false) lab = true ∧ fits (.readCounters 1 (hdr 1 1) 15 true) lab = true ∧
      fits (.readCounters 1 (hdr 1 1) 16 true) lab = true ∧ fits (.readCounters 1 (hdr 1 1) 18 false) lab = true := by decide +kernel

theorem test_witness_DecodeFailureOnlyAnswers :
    let c : Cell := { payloadCell [0x99, 1, 0, 1, 9, 49] with crc := 0 }
    let s := lab.updContext 1 fun x => { x with fifo := [c] }
    (s.contexts.get 1).fifo.head? = some c ∧ decodeCommand 1 c = .commandDecodeFailure 1 0x99 1 1 .lengthError ∧
      (s.returns.get 1).replies.length < 16 := by decide +kernel

/-- The words of the table spell no command: the table gives no bits. -/
theorem test_table_words : decodeTableWord 512 1 = none ∧ lab.withFetchWord 512 1 = lab := by
  refine ⟨rfl, rfl⟩

end Sys2Proof.Tests
end

section
/-! SUPPORT. The Crosspoint Table's protection commands (R49–R53) and the commands that set an arm record (R55, R180). -/

namespace Sys2Proof.Machine

/-! ## The arms of the dispatch -/

theorem exec_lock (t : Trunk) (h : Header) (b : Byte) (s : State) : exec (.lock t h b) s =
    executeCommand t (.lock t h b) .lock h (fun _ => actProtection true lockOutcome h b) s := rfl

theorem exec_unlock (t : Trunk) (h : Header) (b : Byte) (s : State) : exec (.unlock t h b) s =
    executeCommand t (.unlock t h b) .unlock h (fun _ => actProtection false unlockOutcome h b) s := rfl

theorem exec_protect (t : Trunk) (h : Header) (b : Byte) (s : State) : exec (.protect t h b) s =
    executeCommand t (.protect t h b) .protect h (fun _ => actProtection true protectOutcome h b) s := rfl

theorem exec_unprotect (t : Trunk) (h : Header) (b : Byte) (s : State) : exec (.unprotect t h b) s =
    executeCommand t (.unprotect t h b) .unprotect h (fun _ => actProtection false unprotectOutcome h b) s := rfl

theorem exec_armOverride (t : Trunk) (h : Header) (b : Byte) (s : State) : exec (.armOverride t h b) s =
    executeCommand t (.armOverride t h b) .armOverride h (fun _ => actArmOverride t h b) s := rfl

theorem exec_resetArm (t : Trunk) (h : Header) (s : State) : exec (.resetArm t h) s =
    executeCommand t (.resetArm t h) .resetArm h (fun _ s => ⟨s.setArm t .reset, .ok, []⟩) s := rfl

/-! ## Storing a protection -/

@[simp] theorem headTaken_dests (s : State) (t : Trunk) : (headTaken s t).dests = s.dests := rfl

/-- A destination's own protection and owner stored again change nothing and request no DISPLAY entry. -/
theorem storeProtection_self (d : DestNo) (s : State) :
    storeProtection d (s.dests.get d).protection (s.dests.get d).owner s = s := by
  rw [storeProtection, if_pos rfl, State.updDest, Tbl.modify, Tbl.set_get]

/-- Storing another protection is `protectedAs`: the DISPLAY entry is requested (R53). -/
theorem storeProtection_changed {d : DestNo} {p : Protection} {owner : Byte} {s : State}
    (hp : p ≠ (s.dests.get d).protection) : storeProtection d p owner s = protectedAs d p owner s := by
  rw [storeProtection, if_neg hp, protectedAs]

/-! ## A ready protection command, by what its checks and its table say -/

section
variable {t : Trunk} {i : Instr} {k : CommandName} {h : Header} {b : Byte} {d : DestNo} {s : State}
  {needsOwner : Bool} {outcome : Dest → Byte → ProtectionOutcome}

/-- The first check: the destination number. -/
theorem protection_outOfRange (hr : headReady s t i = true) (hb : 128 ≤ b.toNat) :
    executeCommand t i k h (fun _ => actProtection needsOwner outcome h b) s =
      .next (answered t k h .range [] (headTaken s t)) := by
  simp [executeCommand_ready hr, actProtection, destOperand_none.mpr hb]

/-- The second check, of the commands that store their owner (R49, R51). -/
theorem protection_badOwner (hr : headReady s t i = true) (hd : destOperand b = some d)
    (hn : needsOwner = true ∧ (h.owner = 0 ∨ h.owner = 255)) :
    executeCommand t i k h (fun _ => actProtection needsOwner outcome h b) s =
      .next (answered t k h .operandError [] (headTaken s t)) := by
  simp only [executeCommand_ready hr, actProtection, hd, if_pos hn, refuse_eq]

/-- A row of the table that refuses. -/
theorem protection_refused {st : Status} (hr : headReady s t i = true) (hd : destOperand b = some d)
    (hn : ¬(needsOwner = true ∧ (h.owner = 0 ∨ h.owner = 255))) (hx : outcome (s.dests.get d) h.owner = .error st) :
    executeCommand t i k h (fun _ => actProtection needsOwner outcome h b) s = .next (answered t k h st [] (headTaken s t)) := by
  simp only [executeCommand_ready hr, actProtection, hd, if_neg hn, headTaken_dests, hx, refuse_eq]

/-- A row of the table that is marked unchanged. -/
theorem protection_unchanged (hr : headReady s t i = true) (hd : destOperand b = some d)
    (hn : ¬(needsOwner = true ∧ (h.owner = 0 ∨ h.owner = 255)))
    (hx : outcome (s.dests.get d) h.owner = .ok ((s.dests.get d).protection, (s.dests.get d).owner)) :
    executeCommand t i k h (fun _ => actProtection needsOwner outcome h b) s = .next (answered t k h .ok [] (headTaken s t)) := by
  have hself := storeProtection_self d (headTaken s t)
  rw [headTaken_dests] at hself
  simp only [executeCommand_ready hr, actProtection, hd, if_neg hn, headTaken_dests, hx, hself]

/-- A row of the table that changes the protection. -/
theorem protection_changed {p : Protection} {owner : Byte} (hr : headReady s t i = true) (hd : destOperand b = some d)
    (hn : ¬(needsOwner = true ∧ (h.owner = 0 ∨ h.owner = 255))) (hx : outcome (s.dests.get d) h.owner = .ok (p, owner))
    (hp : p ≠ (s.dests.get d).protection) :
    executeCommand t i k h (fun _ => actProtection needsOwner outcome h b) s =
      .next (answered t k h .ok [] (protectedAs d p owner (headTaken s t))) := by
  have hstore : storeProtection d p owner (headTaken s t) = protectedAs d p owner (headTaken s t) := storeProtection_changed hp
  simp only [executeCommand_ready hr, actProtection, hd, if_neg hn, headTaken_dests, hx, hstore]

end

/-! ## The rows of the tables, by the protection found -/

section
variable {x : Dest} {owner : Byte}

theorem lockOutcome_free (hp : x.protection = .free) : lockOutcome x owner = .ok (.locked, owner) := by
  rw [lockOutcome, hp]

theorem lockOutcome_locked (hp : x.protection = .locked) :
    lockOutcome x owner = if owner = x.owner then .ok (x.protection, x.owner) else .error .lockedOut := by
  rw [lockOutcome, hp]

theorem lockOutcome_guarded (hp : x.protection = .guarded) :
    lockOutcome x owner = if owner = x.owner then .ok (.locked, owner) else .error .isProtected := by
  rw [lockOutcome, hp]

theorem unlockOutcome_free (hp : x.protection = .free) : unlockOutcome x owner = .ok (x.protection, x.owner) := by
  rw [unlockOutcome, hp]

theorem unlockOutcome_locked (hp : x.protection = .locked) :
    unlockOutcome x owner = if owner = x.owner ∨ owner = 255 then .ok (.free, 0) else .error .lockedOut := by
  rw [unlockOutcome, hp]

theorem unlockOutcome_guarded (hp : x.protection = .guarded) : unlockOutcome x owner = .error .isProtected := by
  rw [unlockOutcome, hp]

theorem protectOutcome_free (hp : x.protection = .free) : protectOutcome x owner = .ok (.guarded, owner) := by
  rw [protectOutcome, hp]

theorem protectOutcome_locked (hp : x.protection = .locked) :
    protectOutcome x owner = if owner = x.owner then .ok (.guarded, owner) else .error .lockedOut := by
  rw [protectOutcome, hp]

theorem protectOutcome_guarded (hp : x.protection = .guarded) :
    protectOutcome x owner = if owner = x.owner then .ok (x.protection, x.owner) else .error .isProtected := by
  rw [protectOutcome, hp]

theorem unprotectOutcome_free (hp : x.protection = .free) : unprotectOutcome x owner = .ok (x.protection, x.owner) := by
  rw [unprotectOutcome, hp]

theorem unprotectOutcome_locked (hp : x.protection = .locked) : unprotectOutcome x owner = .error .lockedOut := by
  rw [unprotectOutcome, hp]

theorem unprotectOutcome_guarded (hp : x.protection = .guarded) :
    unprotectOutcome x owner = if owner = x.owner ∨ owner = 255 then .ok (.free, 0) else .error .isProtected := by
  rw [unprotectOutcome, hp]

end

/-! ## Setting an arm record (R55, R180) -/

/-- The arm record set at the end of an execution replaces the one cleared when the head was taken (R54, R55). -/
theorem headTaken_setArm (s : State) (t : Trunk) (a : Arm) :
    (headTaken s t).setArm t a = { headTaken s t with arms := s.arms.set t a } := by
  have harms : (s.arms.set t .clear).set t a = s.arms.set t a := Tbl.ext_get fun u => by
    simp only [Tbl.get_set]
    split <;> rfl
  simp [State.setArm, headTaken, harms]

/-! ## The obligations -/

/-- Settles O45: each command's two checks in order, then its table row by row. -/
theorem protectionTables : Obligations.ProtectionTables := by
  unfold Obligations.ProtectionTables
  intro t h b s
  refine ⟨fun hr => ?lock, fun hr => ?unlock, fun hr => ?protect, fun hr => ?unprotect⟩
  case lock =>
    rw [exec_lock]
    refine ⟨fun hb => protection_outOfRange hr hb, fun d hd => ?_⟩
    split
    · next ho => exact protection_badOwner hr hd ⟨rfl, ho⟩
    · next ho =>
      have hn : ¬(true = true ∧ (h.owner = 0 ∨ h.owner = 255)) := fun hbad => ho hbad.2
      cases hp : (s.dests.get d).protection with
      | free => exact protection_changed hr hd hn (lockOutcome_free hp) (by simp [hp])
      | locked =>
        dsimp only
        split
        · next hw => exact protection_unchanged hr hd hn ((lockOutcome_locked hp).trans (if_pos hw))
        · next hw => exact protection_refused hr hd hn ((lockOutcome_locked hp).trans (if_neg hw))
      | guarded =>
        dsimp only
        split
        · next hw => exact protection_changed hr hd hn ((lockOutcome_guarded hp).trans (if_pos hw)) (by simp [hp])
        · next hw => exact protection_refused hr hd hn ((lockOutcome_guarded hp).trans (if_neg hw))
  case unlock =>
    rw [exec_unlock]
    refine ⟨fun hb => protection_outOfRange hr hb, fun d hd => ?_⟩
    have hn : ¬(false = true ∧ (h.owner = 0 ∨ h.owner = 255)) := by simp
    cases hp : (s.dests.get d).protection with
    | free => exact protection_unchanged hr hd hn (unlockOutcome_free hp)
    | locked =>
      dsimp only
      split
      · next hw => exact protection_changed hr hd hn ((unlockOutcome_locked hp).trans (if_pos hw)) (by simp [hp])
      · next hw => exact protection_refused hr hd hn ((unlockOutcome_locked hp).trans (if_neg hw))
    | guarded => exact protection_refused hr hd hn (unlockOutcome_guarded hp)
  case protect =>
    rw [exec_protect]
    refine ⟨fun hb => protection_outOfRange hr hb, fun d hd => ?_⟩
    split
    · next ho => exact protection_badOwner hr hd ⟨rfl, ho⟩
    · next ho =>
      have hn : ¬(true = true ∧ (h.owner = 0 ∨ h.owner = 255)) := fun hbad => ho hbad.2
      cases hp : (s.dests.get d).protection with
      | free => exact protection_changed hr hd hn (protectOutcome_free hp) (by simp [hp])
      | locked =>
        dsimp only
        split
        · next hw => exact protection_changed hr hd hn ((protectOutcome_locked hp).trans (if_pos hw)) (by simp [hp])
        · next hw => exact protection_refused hr hd hn ((protectOutcome_locked hp).trans (if_neg hw))
      | guarded =>
        dsimp only
        split
        · next hw => exact protection_unchanged hr hd hn ((protectOutcome_guarded hp).trans (if_pos hw))
        · next hw => exact protection_refused hr hd hn ((protectOutcome_guarded hp).trans (if_neg hw))
  case unprotect =>
    rw [exec_unprotect]
    refine ⟨fun hb => protection_outOfRange hr hb, fun d hd => ?_⟩
    have hn : ¬(false = true ∧ (h.owner = 0 ∨ h.owner = 255)) := by simp
    cases hp : (s.dests.get d).protection with
    | free => exact protection_unchanged hr hd hn (unprotectOutcome_free hp)
    | locked => exact protection_refused hr hd hn (unprotectOutcome_locked hp)
    | guarded =>
      dsimp only
      split
      · next hw => exact protection_changed hr hd hn ((unprotectOutcome_guarded hp).trans (if_pos hw)) (by simp [hp])
      · next hw => exact protection_refused hr hd hn ((unprotectOutcome_guarded hp).trans (if_neg hw))

/-- Settles O46: both commands end in `setArm` on their own trunk, unless ARM_OVERRIDE's destination is out of range. -/
theorem armCommandsSetTheArm : Obligations.ArmCommandsSetTheArm := by
  unfold Obligations.ArmCommandsSetTheArm
  intro t h b s
  refine ⟨fun hr => ⟨fun hb => ?range, fun d hd => ?override⟩, fun hr => ?reset⟩
  case range => simp [exec_armOverride, executeCommand_ready hr, actArmOverride, destOperand_none.mpr hb]
  case override => simp [exec_armOverride, executeCommand_ready hr, actArmOverride, hd, headTaken_setArm]
  case reset => simp [exec_resetArm, executeCommand_ready hr, headTaken_setArm]

end Sys2Proof.Machine
end

section
/-! SUPPORT. SALVO_CLEAR (R107). -/

namespace Sys2Proof.Machine

theorem exec_salvoClear (t : Trunk) (h : Header) (b : Byte) (s : State) : exec (.salvoClear t h b) s =
    executeCommand t (.salvoClear t h b) .salvoClear h (fun _ => actSalvoClear b) s := rfl

/-- A slot is FIRED exactly while takes of its fire are outstanding (R104). -/
theorem SalvoSlot.state_eq_fired {x : SalvoSlot} : x.state = .fired ↔ 0 < x.outstanding := by
  unfold SalvoSlot.state
  split
  · next hout => simp [hout]
  · next hout => split <;> simp [hout]

/-! ## What SALVO_CLEAR does, by its two checks -/

section
variable {b : Byte} {k : SlotNo} {s : State}

/-- The first check: the slot number. -/
theorem actSalvoClear_outOfRange (hb : 32 ≤ b.toNat) : actSalvoClear b s = ⟨s, .range, []⟩ := by
  rw [actSalvoClear, slotOperand_none.mpr hb, refuse_eq]

/-- The second check: a FIRED slot. -/
theorem actSalvoClear_fired (hk : slotOperand b = some k) (hout : 0 < (s.salvos.get k).outstanding) :
    actSalvoClear b s = ⟨s, .busy, []⟩ := by
  simp only [actSalvoClear, hk, if_pos (SalvoSlot.state_eq_fired.mpr hout), refuse_eq]

/-- A slot that passes both checks is emptied. -/
theorem actSalvoClear_cleared (hk : slotOperand b = some k) (hout : ¬0 < (s.salvos.get k).outstanding) :
    actSalvoClear b s = ⟨{ s with salvos := s.salvos.set k .empty }, .ok, []⟩ := by
  simp only [actSalvoClear, hk, if_neg (mt SalvoSlot.state_eq_fired.mp hout)]
  rfl

end

/-! ## The obligation -/

/-- Settles O43: the two checks in their order, then the slot is the EMPTY one of R104. -/
theorem salvoClearEmpties : Obligations.SalvoClearEmpties := by
  unfold Obligations.SalvoClearEmpties
  intro t h b s hr
  rw [exec_salvoClear, executeCommand_ready hr]
  refine ⟨fun hb => ?range, fun k hk => ?inRange⟩
  case range => rw [actSalvoClear_outOfRange hb]
  case inRange =>
    have hsalvos : (headTaken s t).salvos = s.salvos := by simp
    rw [← hsalvos]
    dsimp only
    split
    · next hout => rw [actSalvoClear_fired hk hout]
    · next hout =>
      rw [actSalvoClear_cleared hk hout]
      rfl

end Sys2Proof.Machine
end

section
/-! SUPPORT. READ_COUNTERS (R172, R173). -/

namespace Sys2Proof

variable {α : Type} {m n : Nat}

/-- The first rows of a table are its first records. -/
theorem Tbl.take_rows (t : Tbl α n) (h : m ≤ n) :
    t.rows.take m = (List.finRange m).map fun i => t.get (i.castLE h) := by
  apply List.ext_getElem
  · simp [h]
  · intro i h₁ h₂
    simp [Tbl.get]

/-- The rows of a table past the first `m` are its records from number `m` on. -/
theorem Tbl.drop_rows (t : Tbl α (m + n)) : t.rows.drop m = (List.finRange n).map fun i => t.get (i.natAdd m) := by
  apply List.ext_getElem
  · simp
  · intro i h₁ h₂
    simp [Tbl.get]

end Sys2Proof

namespace Sys2Proof.Machine

theorem exec_readCounters (t : Trunk) (h : Header) (group : Byte) (clear : Bool) (s : State) :
    exec (.readCounters t h group clear) s =
      executeCommand t (.readCounters t h group clear) .readCounters h (fun _ => actReadCounters group clear) s := rfl

/-! ## The counter groups, by number -/

section
variable {b : Byte} {s : State}

/-- Groups 0 to 7 are the trunks'. -/
theorem groupFields_trunk {v : Trunk} (hb : b.toNat = v.val) : groupFields s b = some (trunkCounters s v) := by
  have hlt : b.toNat < 8 := by omega
  have hv : (⟨b.toNat, hlt⟩ : Trunk) = v := Fin.ext hb
  simp only [groupFields, dif_pos hlt, hv]

/-- Groups 8 to 15 are the drop ports'. -/
theorem groupFields_port {p : Port} (hb : b.toNat = 8 + p.val) : groupFields s b = some (portCounters (s.ports.get p)) := by
  have hge : ¬b.toNat < 8 := by omega
  have hlt : b.toNat < 16 := by omega
  have hp : (⟨b.toNat - 8, by omega⟩ : Port) = p := Fin.ext (by simp [hb])
  simp only [groupFields, dif_neg hge, dif_pos hlt, hp]

/-- Group 16 is the Cell Pool's. -/
theorem groupFields_pool (hb : b.toNat = 16) :
    groupFields s b = some [.counter s.poolExhausted, .word (BitVec.ofNat 16 (poolFree s))] := by
  simp [groupFields, hb]

/-- Group 17 is the first eight formats'. -/
theorem groupFields_lowFormats (hb : b.toNat = 17) :
    groupFields s b = some ((s.formats.rows.take 8).map fun x => .counter x.reanchors) := by
  simp [groupFields, hb]

/-- Group 18 is the last eight formats'. -/
theorem groupFields_highFormats (hb : b.toNat = 18) :
    groupFields s b = some ((s.formats.rows.drop 8).map fun x => .counter x.reanchors) := by
  simp [groupFields, hb]

/-- Groups 17 and 18 give the re-anchor counters record by record. -/
theorem groupFields_formats (hlow : 17 ≤ b.toNat) (hhigh : b.toNat ≤ 18) :
    groupFields s b = some ((List.finRange 8).map fun i : Fin 8 =>
      .counter (s.formats.get (if b.toNat = 17 then i.castLE (by decide) else i.natAdd 8)).reanchors) := by
  by_cases hb : b.toNat = 17
  · rw [groupFields_lowFormats hb, Tbl.take_rows s.formats (by decide), List.map_map]
    simp only [if_pos hb]
    rfl
  · rw [groupFields_highFormats (by omega), Tbl.drop_rows (m := 8) (n := 8) s.formats, List.map_map]
    simp only [if_neg hb]
    rfl

/-- There is no group past 18. -/
theorem groupFields_outOfRange (hb : 18 < b.toNat) : groupFields s b = none := by
  simp only [groupFields]
  rw [dif_neg (by omega), dif_neg (by omega), if_neg (by omega), if_neg (by omega), if_neg (by omega)]

/-- Every group up to 18 has its values. -/
theorem groupFields_inRange (hb : b.toNat ≤ 18) : ∃ fields, groupFields s b = some fields := by
  rcases lt_or_ge b.toNat 8 with h8 | h8
  · exact ⟨_, groupFields_trunk (v := ⟨b.toNat, h8⟩) rfl⟩
  rcases lt_or_ge b.toNat 16 with h16 | h16
  · exact ⟨_, groupFields_port (p := ⟨b.toNat - 8, by omega⟩) (by dsimp only; omega)⟩
  rcases h16.eq_or_lt with h | h
  · exact ⟨_, groupFields_pool h.symm⟩
  · exact ⟨_, groupFields_formats h hb⟩

end

/-! ## The values are those held before the head was taken, and before the clear -/

/-- Taking a FIFO head keeps every trunk's count of dropped commands. -/
theorem headTaken_dropped (s : State) (t v : Trunk) :
    ((headTaken s t).contexts.get v).dropped = (s.contexts.get v).dropped := by
  rw [headTaken_contexts]
  split <;> rfl

/-- The group values that the act reads are those the part held when the head was taken. -/
theorem groupFields_headTaken (s : State) (t : Trunk) (b : Byte) : groupFields (headTaken s t) b = groupFields s b := by
  simp only [groupFields, trunkCounters, headTaken_dropped, headTaken_frame, poolFree]

/-- With the clear flag every counter of the part is 0, and every other field of every record stands. -/
theorem clearCounters_headTaken (s : State) (t : Trunk) : clearCounters (headTaken s t) = { headTaken s t with
    receivers := s.receivers.map fun r => { r with good := 0, errored := 0, undefStream := 0 }
    contexts := (headTaken s t).contexts.map fun x => { x with dropped := 0 }
    returns := s.returns.map fun x => { x with discarded := 0 }
    ports := s.ports.map fun x => { x with sent := 0, refused := 0, coalesced := 0 }
    formats := s.formats.map fun x => { x with reanchors := 0 }
    sources := s.sources.map fun r => { r with gaps := 0 }
    poolExhausted := 0 } := by
  simp only [clearCounters, headTaken_frame]

/-! ## What READ_COUNTERS does, by its one check -/

section
variable {t : Trunk} {h : Header} {b : Byte} {clear : Bool} {s : State}

/-- A ready READ_COUNTERS of a group past 18 is refused. -/
theorem exec_readCounters_outOfRange (hr : headReady s t (.readCounters t h b clear) = true) (hb : 18 < b.toNat) :
    exec (.readCounters t h b clear) s = .next (answered t .readCounters h .range [] (headTaken s t)) := by
  rw [exec_readCounters, executeCommand_ready hr, actReadCounters, groupFields_outOfRange hb, refuse_eq]

/-- A ready READ_COUNTERS of a group that exists answers its values, and then clears when asked. -/
theorem exec_readCounters_inRange {fields : List ReplyField} (hr : headReady s t (.readCounters t h b clear) = true)
    (hf : groupFields s b = some fields) :
    exec (.readCounters t h b clear) s = .next (answered t .readCounters h .ok fields
      (if clear then clearCounters (headTaken s t) else headTaken s t)) := by
  rw [exec_readCounters, executeCommand_ready hr, actReadCounters, groupFields_headTaken, hf]

end

/-! ## The obligation -/

/-- Settles O59: the one check, then the values of the group by its number, and the clear. -/
theorem readCountersClears : Obligations.ReadCountersClears := by
  unfold Obligations.ReadCountersClears
  intro t h b clear s hr
  refine ⟨exec_readCounters_outOfRange hr, fun hb => ?inRange⟩
  obtain ⟨fields, hf⟩ := groupFields_inRange (s := s) hb
  have hvalues {l : List ReplyField} (hl : groupFields s b = some l) : fields = l := Option.some.inj (hf.symm.trans hl)
  refine ⟨fields, _, exec_readCounters_inRange hr hf, ?kept, ?trunk, ?port, ?pool, ?formats, ?cleared⟩
  case kept => exact fun hc => if_neg (by simp [hc])
  case trunk => exact fun v hv => hvalues (groupFields_trunk hv)
  case port => exact fun p hp => hvalues (groupFields_port hp)
  case pool => exact fun hb16 => hvalues (groupFields_pool hb16)
  case formats => exact fun hlow => hvalues (groupFields_formats hlow hb)
  case cleared => exact fun hc => (if_pos hc).trans (clearCounters_headTaken s t)

end Sys2Proof.Machine
end

section
/-! SUPPORT. What one step can do to the state: an effect of the row at the front of the queue, for a command between the taking of its
FIFO head and the queueing of its reply (R156). The invariants are proved effect by effect. -/

namespace Sys2Proof.Machine

/-! ## The arms of the dispatch -/

section
variable (t : Trunk) (h : Header) (s : State)

theorem exec_take (o : TakeOperands) : exec (.take t h o) s =
    executeCommand t (.take t h o) .take h (actTake t h o) s := rfl

theorem exec_probe (o : TakeOperands) : exec (.probe t h o) s =
    executeCommand t (.probe t h o) .probe h (actProbe h o) s := rfl

theorem exec_cancel (b : Byte) : exec (.cancel t h b) s =
    executeCommand t (.cancel t h b) .cancel h (fun _ => actCancel h b) s := rfl

theorem exec_sweep (o : SweepOperands) : exec (.sweep t h o) s =
    executeCommand t (.sweep t h o) .sweep h (fun _ => actSweep t h o) s := rfl

theorem exec_swap (o : SwapOperands) : exec (.swap t h o) s =
    executeCommand t (.swap t h o) .swap h (fun _ => actSwap t h o) s := rfl

theorem exec_salvoLoad (o : LoadOperands) : exec (.salvoLoad t h o) s =
    executeCommand t (.salvoLoad t h o) .salvoLoad h (fun _ => actSalvoLoad o) s := rfl

theorem exec_salvoFire (o : FireOperands) : exec (.salvoFire t h o) s =
    executeCommand t (.salvoFire t h o) .salvoFire h (fun _ => actSalvoFire t h o) s := rfl

theorem exec_recordState (b code : Byte) : exec (.recordState t h b code) s =
    executeCommand t (.recordState t h b code) .recordState h (fun _ => actRecordState b code) s := rfl

theorem exec_sourceDefine (n f : Byte) (label : Tbl Byte 16) : exec (.sourceDefine t h n f label) s =
    executeCommand t (.sourceDefine t h n f label) .sourceDefine h (fun _ => actSourceDefine n f label) s := rfl

theorem exec_sourceTally (n : Byte) (bits : Tally) : exec (.sourceTally t h n bits) s =
    executeCommand t (.sourceTally t h n bits) .sourceTally h (fun _ => actSourceTally n bits) s := rfl

theorem exec_destDefine (o : DestOperands) : exec (.destDefine t h o) s =
    executeCommand t (.destDefine t h o) .destDefine h (fun _ => actDestDefine o) s := rfl

theorem exec_formatDefine (f : Byte) (form : FormatForm) : exec (.formatDefine t h f form) s =
    executeCommand t (.formatDefine t h f form) .formatDefine h (fun _ => actFormatDefine f form) s := rfl

theorem exec_timeset (v : Time) : exec (.timeset t h v) s =
    executeCommand t (.timeset t h v) .timeset h (fun _ => actTimeset v) s := rfl

theorem exec_setMargin (m : BitVec 32) : exec (.setMargin t h m) s =
    executeCommand t (.setMargin t h m) .setMargin h (fun _ => actSetMargin m) s := rfl

theorem exec_setReportMask (m : Byte) : exec (.setReportMask t h m) s =
    executeCommand t (.setReportMask t h m) .setReportMask h (fun _ s => ⟨{ s with reportMask := m }, .ok, [.bits s.reportMask, .bits m]⟩) s := rfl

theorem exec_trunkRelease (b : Byte) : exec (.trunkRelease t h b) s =
    executeCommand t (.trunkRelease t h b) .trunkRelease h (fun _ => actTrunkRelease t b) s := rfl

theorem exec_trunkPolicy (b p : Byte) : exec (.trunkPolicy t h b p) s =
    executeCommand t (.trunkPolicy t h b p) .trunkPolicy h (fun _ => actTrunkPolicy b p) s := rfl

theorem exec_hold : exec (.hold t h) s =
    executeCommand t (.hold t h) .hold h (fun _ => actHold) s := rfl

theorem exec_resume : exec (.resume t h) s =
    executeCommand t (.resume t h) .resume h (fun _ => actResume) s := rfl

theorem exec_reset : exec (.reset t h) s =
    executeCommand t (.reset t h) .reset h actReset s := rfl

theorem exec_identify : exec (.identify t h) s =
    executeCommand t (.identify t h) .identify h (fun _ s => ⟨s, .ok, identifyFields⟩) s := rfl

theorem exec_readStatus : exec (.readStatus t h) s =
    executeCommand t (.readStatus t h) .readStatus h (fun _ s => ⟨s, .ok, statusFields s⟩) s := rfl

theorem exec_readDest (a n w : Byte) : exec (.readDest t h a n w) s =
    executeCommand t (.readDest t h a n w) .readDest h (fun _ => actReadDest a n w) s := rfl

theorem exec_readSource (b : Byte) : exec (.readSource t h b) s =
    executeCommand t (.readSource t h b) .readSource h (fun _ => actReadSource b) s := rfl

theorem exec_readFormat (b : Byte) : exec (.readFormat t h b) s =
    executeCommand t (.readFormat t h b) .readFormat h (fun _ => actReadFormat b) s := rfl

theorem exec_readSalvo (b half : Byte) : exec (.readSalvo t h b half) s =
    executeCommand t (.readSalvo t h b half) .readSalvo h (fun _ => actReadSalvo b half) s := rfl

theorem exec_commandDecodeFailure (code sub : Byte) (tag : Tag) (status : Status) :
    exec (.commandDecodeFailure t code sub tag status) s =
      executeHead t (.commandDecodeFailure t code sub tag status) code sub tag (fun _ s => ⟨s, status, []⟩) s := rfl

end

/-! ## The effects -/

/-- Everything that a row can make of the state `s`, with what its checks have established; for a command without its FIFO head and
reply. -/
inductive Effect (s : State) : State → Prop where
  | same : Effect s s
  | place {owner : Byte} {flag : Bool} {arm : Arm} {r : Request} (t : Trunk) (tag : Tag)
      (checked : requestFailure s owner flag arm r = none) :
      Effect s (displayVacated s
        (placeTake s r.dest (newTake t tag (.fixed r.source) r.guardSource r.target flag) s))
  | cancel (d : DestNo) : Effect s (displayVacated s (cancelPending d (fun _ => false) s))
  | sweep {owner : Byte} {g : Target} {source : Option SourceNo} {taken : List DestNo} (t : Trunk) (tag : Tag)
      (checked : ∀ d ∈ taken, requestFailure s owner false .clear ⟨d, source, none, g⟩ = none) :
      Effect s (displayVacated s
        (taken.foldl (fun s' d => placeTake s d (newTake t tag (.fixed source) none g false) s') s))
  | swap {owner : Byte} {g : Target} {a b : DestNo} (t : Trunk) (tag : Tag) (ne : a ≠ b)
      (checked : swapFailure s owner a b g = none) : Effect s (createPair (newTake t tag .unfixed none g false) a b s)
  | load {k : SlotNo} {start : Nat} (pairs : List Pair) (idle : (s.salvos.get k).state ≠ .fired) (inRange : start < 16) :
      Effect s (s.updSalvo k (·.loaded start pairs))
  | clear {k : SlotNo} (idle : (s.salvos.get k).state ≠ .fired) : Effect s (s.updSalvo k fun _ => .empty)
  | fire {slot : SlotNo} {owner : Byte} {g : Target} {accepted : List (Fin 16 × Pair)} (t : Trunk) (tag : Tag)
      (loaded : (s.salvos.get slot).state = .loaded) (checked : ∀ x ∈ accepted, pairFailure s owner g x = none) :
      Effect s (displayVacated s
        (accepted.foldl (fun s' x => firePair s slot t tag g x.2 s') (s.updSalvo slot (·.fire t tag))))
  | protection {d : DestNo} {p : Protection} {owner : Byte}
      (fits : ownerFits (s.dests.get d) = true → ownerFits { s.dests.get d with protection := p, owner } = true) :
      Effect s (storeProtection d p owner s)
  | arm (t : Trunk) (a : Arm) : Effect s (s.setArm t a)
  | recordOn {d : DestNo} (defined : (s.dests.get d).format.isSome = true) (recorder : (s.dests.get d).cls = .recorder) :
      Effect s (Machine.recordOn d s).state
  | recordOff (d : DestNo) : Effect s (Machine.recordOff d s).state
  | destDefine {d : DestNo} {format : Option FormatNo} (c : DestClass) (offset : Int) (held : s.mode = .held)
      (defined : namesUndefined s format = false) (idle : destInUse s d format = false) :
      Effect s (defineDest d format c offset s).state
  | sourceDefine {n : SourceNo} {f : Option FormatNo} (label : Tbl Byte 16) (defined : namesUndefined s f = false)
      (idle : f ≠ (s.sources.get n).format → sourceInUse s n = false) : Effect s (storeLabel n label (storeFormat n f s))
  | tally (n : SourceNo) (bits : Tally) :
      Effect s (requestDisplays (destsForwarding s n) (s.updSource n fun r => { r with tally := bits }))
  | redefine {f : FormatNo} {c : Cadence} (defined : (s.formats.get f).defined = true)
      (inRange : badPeriod c.pi c.pn c.pd = false) : Effect s (redefineFormat f c s)
  | newFormat {f : FormatNo} {c : Cadence} (undefined : (s.formats.get f).defined = false)
      (inRange : badPeriod c.pi c.pn c.pd = false) : Effect s (s.updFormat f fun _ => Machine.newFormat s.houseTime c)
  | undefine {f : FormatNo} (idle : formatInUse s f = false) : Effect s (s.updFormat f fun _ => Format.undefined)
  | timeset (v : Time) (held : s.mode = .held) : Effect s (shiftTimes v (displayVacated s (cancelAllArmed s)))
  | margin {m : Nat} (bound : m ≤ Config.maxMargin) : Effect s { s with margin := m }
  | mask (m : BitVec 8) : Effect s { s with reportMask := m }
  | release {u : Trunk} (quarantined : (s.receivers.get u).state = .quarantined) :
      Effect s (s.updReceiver u fun r => { r with release := true })
  | policy (u : Trunk) (p : Policy) : Effect s (s.updReceiver u fun r => { r with policy := p })
  | hold : Effect s (holdMode s)
  | resume : Effect s { retargetAll s with mode := .run }
  | warmReset : Effect s (Machine.warmReset s)
  | clearCounters : Effect s (Machine.clearCounters s)
  | goodArrival (t : Trunk) (c : Cell) (pick : PoolNo) : Effect s (Machine.goodArrival t c pick s)
  | erroredArrival (t : Trunk) : Effect s (Machine.erroredArrival t s)
  | dropIdle (p : Port) : Effect s (sendIdle p s)
  | dropOpportunity (p : Port) : Effect s (Machine.dropOpportunity p s)
  | returnIdle (t : Trunk) : Effect s { s with returnLinks := s.returnLinks.set t Cell.idle }
  | returnOpportunity (t : Trunk) : Effect s (Machine.returnOpportunity t s)
  | resetLine (b : Bool) : Effect s { State.reset with pending := s.pending, resetLine := b }
  | commit {d : DestNo} {k : Take} (holds : s.active.get d = some k) (armed : k.state = .armed)
      (single : boundPartner s d = none) : Effect s (commitArmed d k s)
  | commitPair {d p : DestNo} {k q : Take} (holds : s.active.get d = some k) (bound : boundPartner s d = some p)
      (partner : s.active.get p = some q) : Effect s (Machine.commitPair d p k q s)
  | switch {d : DestNo} {k : Take} (x : Time) (holds : s.active.get d = some k) (committed : k.state = .committed)
      (steady : (s.switching.get d).cut.inProgress = false) :
      Effect s (switchCut d k.source.resolved x (setCurrent d k.source.resolved s))
  | lost {n : SourceNo} (watched : (s.sources.get n).frameWatch.isSome = true) : Effect s (enterLost n s)
  | drained {d : DestNo} {old : SourceNo} {tail : Bool} {x : Time} (draining : (s.switching.get d).cut = .draining old tail x) :
      Effect s (s.updSwitching d fun w => { w with cut := .joining (cutExpiry (formatOf s d) s.houseTime) })
  | giveUp {d : DestNo} {x : Time} (joining : (s.switching.get d).cut = .joining x) : Effect s (giveUpJoining d s)
  | fill {d : DestNo} (active : (s.switching.get d).fill.isSome = true) : Effect s (armFillNext d (postFill d s))
  | renormalise {f : FormatNo} (defined : (s.formats.get f).defined = true) : Effect s (s.updFormat f (·.renormalised))
  | tick : Effect s { s with houseTime := s.houseTime + 1 }

/-! ## What each command's act can do -/

section
variable {s : State}

theorem checkTake_ok {h : Header} {o : TakeOperands} {arm : Arm} {r : Request} (e : checkTake h o arm s = .ok r) :
    requestFailure s h.owner o.overrideFlag arm r = none := by
  unfold checkTake at e
  split at e
  · cases e
  · split at e
    · dsimp only at e
      split at e <;> cases e
      assumption
    · cases e

theorem actTake_effect (t : Trunk) (h : Header) (o : TakeOperands) (arm : Arm) : Effect s (actTake t h o arm s).state := by
  unfold actTake
  split
  · exact .same
  · next r e => exact .place t h.tag (checkTake_ok e)

theorem actProbe_effect (h : Header) (o : TakeOperands) (arm : Arm) : Effect s (actProbe h o arm s).state := by
  unfold actProbe
  split <;> exact .same

theorem actCancel_effect (h : Header) (b : Byte) : Effect s (actCancel h b s).state := by
  unfold actCancel
  repeat' split
  any_goals exact .same
  · exact .cancel _

theorem actSweep_effect (t : Trunk) (h : Header) (o : SweepOperands) : Effect s (actSweep t h o s).state := by
  unfold actSweep
  repeat' split
  any_goals exact .same
  · refine .sweep (owner := h.owner) t h.tag fun d hd => ?_
    simpa using (List.mem_filter.mp hd).2

theorem actSwap_effect (t : Trunk) (h : Header) (o : SwapOperands) : Effect s (actSwap t h o s).state := by
  unfold actSwap
  dsimp only
  repeat' split
  any_goals exact .same
  · next ne _ checked => exact .swap t h.tag ne checked

theorem actSalvoLoad_effect (o : LoadOperands) : Effect s (actSalvoLoad o s).state := by
  unfold actSalvoLoad
  repeat' split
  any_goals exact .same
  · next hstart _ _ _ idle => exact .load _ idle (not_le.mp hstart)

theorem actSalvoClear_effect (b : Byte) : Effect s (actSalvoClear b s).state := by
  unfold actSalvoClear
  repeat' split
  any_goals exact .same
  · next idle => exact .clear idle

theorem actSalvoFire_effect (t : Trunk) (h : Header) (o : FireOperands) : Effect s (actSalvoFire t h o s).state := by
  unfold actSalvoFire fireSalvo
  dsimp only
  repeat' split
  any_goals exact .same
  · refine .fire t h.tag ‹_› (owner := h.owner) fun x hx => ?_
    simpa using (List.mem_filter.mp hx).2

theorem actArmOverride_effect (t : Trunk) (h : Header) (b : Byte) : Effect s (actArmOverride t h b s).state := by
  unfold actArmOverride
  split
  · exact .same
  · exact .arm _ _

theorem actRecordState_effect (b code : Byte) : Effect s (actRecordState b code s).state := by
  unfold actRecordState
  repeat' split
  any_goals exact .same
  · next defined _ _ _ recorder _ => 
      exact .recordOn (Option.isSome_iff_ne_none.mpr (by simpa using defined)) (not_not.mp recorder)
  · exact .recordOff _

theorem actDestDefine_effect (o : DestOperands) : Effect s (actDestDefine o s).state := by
  unfold actDestDefine
  repeat' split
  any_goals exact .same
  · next held _ _ _ _ _ _ defined _ _ _ idle => 
      exact .destDefine _ _ (not_not.mp held) (by simpa using defined) (by simpa using idle)

theorem actSourceDefine_effect (source format : Byte) (label : Tbl Byte 16) :
    Effect s (actSourceDefine source format label s).state := by
  unfold actSourceDefine
  repeat' split
  any_goals exact .same
  · next defined idle => 
      exact .sourceDefine _ (by simpa using defined) fun hf => by simpa using fun hu => idle ⟨hf, hu⟩

theorem actSourceTally_effect (source : Byte) (bits : Tally) : Effect s (actSourceTally source bits s).state := by
  unfold actSourceTally
  repeat' split
  any_goals exact .same
  · exact .tally _ _

theorem defineFormat_effect (f : FormatNo) {c : Cadence} (inRange : badPeriod c.pi c.pn c.pd = false) :
    Effect s (defineFormat f c s).state := by
  unfold defineFormat
  split
  · next defined => exact .redefine defined inRange
  · next undefined => exact .newFormat (by simpa using undefined) inRange

theorem undefineFormat_effect (f : FormatNo) : Effect s (undefineFormat f s).state := by
  unfold undefineFormat
  repeat' split
  any_goals exact .same
  · next idle => exact .undefine (by simpa using idle)

theorem actFormatDefine_effect (format : Byte) (form : FormatForm) : Effect s (actFormatDefine format form s).state := by
  unfold actFormatDefine
  repeat' split
  any_goals exact .same
  · exact undefineFormat_effect _
  · next inRange _ _ _ => exact defineFormat_effect _ (by simpa using inRange)

theorem actTimeset_effect (v : Time) : Effect s (actTimeset v s).state := by
  unfold actTimeset
  split
  · exact .same
  · next held => exact .timeset v (not_not.mp held)

theorem actSetMargin_effect (m : BitVec 32) : Effect s (actSetMargin m s).state := by
  unfold actSetMargin
  repeat' split
  any_goals exact .same
  · next bound => exact .margin bound
  · exact .margin le_rfl

theorem actTrunkRelease_effect (t : Trunk) (b : Byte) : Effect s (actTrunkRelease t b s).state := by
  unfold actTrunkRelease
  dsimp only
  repeat' split
  any_goals exact .same
  · next quarantined => exact .release (by simpa using quarantined)

theorem actTrunkPolicy_effect (b policy : Byte) : Effect s (actTrunkPolicy b policy s).state := by
  unfold actTrunkPolicy
  dsimp only
  repeat' split
  any_goals exact .same
  all_goals exact .policy _ _

theorem actResume_effect : Effect s (actResume s).state := by
  unfold actResume
  split
  · exact .same
  · exact .resume

theorem actReset_state (arm : Arm) : (actReset arm s).state = if arm = .reset then warmReset s else s := by
  simp only [actReset, refuse_eq, apply_ite Result.state]

theorem actReset_effect (arm : Arm) : Effect s (actReset arm s).state := by
  rw [actReset_state]
  split
  · exact .warmReset
  · exact .same

theorem actReadDest_effect (start count wrap : Byte) : Effect s (actReadDest start count wrap s).state := by
  unfold actReadDest
  repeat' split
  all_goals exact .same

theorem actReadSource_effect (b : Byte) : Effect s (actReadSource b s).state := by
  unfold actReadSource
  split <;> exact .same

theorem actReadFormat_effect (b : Byte) : Effect s (actReadFormat b s).state := by
  unfold actReadFormat
  split <;> exact .same

theorem actReadSalvo_effect (slot half : Byte) : Effect s (actReadSalvo slot half s).state := by
  unfold actReadSalvo
  repeat' split
  all_goals exact .same

theorem actReadCounters_effect (group : Byte) (clear : Bool) : Effect s (actReadCounters group clear s).state := by
  unfold actReadCounters
  split
  · exact .same
  · cases clear
    · exact .same
    · exact .clearCounters

/-! ### Protection -/

/-- A row of a protection table leaves the destination with an owner that fits its protection (R48). -/
def TableFits (needsOwner : Bool) (outcome : Dest → Byte → ProtectionOutcome) : Prop :=
  ∀ x owner p o, ¬(needsOwner = true ∧ (owner = 0 ∨ owner = 255)) → outcome x owner = .ok (p, o) → ownerFits x = true →
    ownerFits { x with protection := p, owner := o } = true

theorem lockOutcome_fits : TableFits true lockOutcome := by
  intro x owner p o hn hx hf
  simp only [true_and, not_or] at hn
  unfold lockOutcome at hx
  cases hp : x.protection <;> simp only [hp] at hx <;> (try split at hx) <;> cases hx <;> simp_all [ownerFits]

theorem unlockOutcome_fits : TableFits false unlockOutcome := by
  intro x owner p o hn hx hf
  unfold unlockOutcome at hx
  cases hp : x.protection <;> simp only [hp] at hx <;> (try split at hx) <;> cases hx <;> simp_all [ownerFits]

theorem protectOutcome_fits : TableFits true protectOutcome := by
  intro x owner p o hn hx hf
  simp only [true_and, not_or] at hn
  unfold protectOutcome at hx
  cases hp : x.protection <;> simp only [hp] at hx <;> (try split at hx) <;> cases hx <;> simp_all [ownerFits]

theorem unprotectOutcome_fits : TableFits false unprotectOutcome := by
  intro x owner p o hn hx hf
  unfold unprotectOutcome at hx
  cases hp : x.protection <;> simp only [hp] at hx <;> (try split at hx) <;> cases hx <;> simp_all [ownerFits]

theorem actProtection_effect {needsOwner : Bool} {outcome : Dest → Byte → ProtectionOutcome} (fits : TableFits needsOwner outcome)
    (h : Header) (b : Byte) : Effect s (actProtection needsOwner outcome h b s).state := by
  unfold actProtection
  repeat' split
  any_goals exact .same
  · next hn _ _ _ hx => exact .protection (fits _ _ _ _ hn hx)

end

/-! ## What an event row can do -/

section
variable {s s' : State}

theorem execCommitEvent_effect {d : DestNo} (e : execCommitEvent d s = .next s') : Effect s s' := by
  unfold execCommitEvent at e
  (repeat' split at e) <;> cases e
  any_goals exact .same
  · next k holds c => exact .commit holds c.1 c.2.1

theorem execSwapCommitEvent_effect {d : DestNo} (e : execSwapCommitEvent d s = .next s') : Effect s s' := by
  unfold execSwapCommitEvent at e
  (repeat' split at e) <;> cases e
  any_goals exact .same
  · exact .commitPair ‹_› ‹_› ‹_›

theorem execSwitchEvent_effect {d : DestNo} (e : execSwitchEvent d s = .next s') : Effect s s' := by
  unfold execSwitchEvent at e
  (repeat' split at e) <;> cases e
  any_goals exact .same
  · next holds _ _ _ c => exact .switch _ holds c.1 c.2.1

theorem execFrameWatchExpiry_effect {n : SourceNo} (e : execFrameWatchExpiry n s = .next s') : Effect s s' := by
  unfold execFrameWatchExpiry at e
  split at e <;> cases e
  · next due => exact .lost (Option.isSome_of_any due)
  · exact .same

theorem execDrainExpiry_effect {d : DestNo} (e : execDrainExpiry d s = .next s') : Effect s s' := by
  unfold execDrainExpiry at e
  (repeat' split at e) <;> cases e
  any_goals exact .same
  · next draining _ => exact .drained draining

theorem execJoinExpiry_effect {d : DestNo} (e : execJoinExpiry d s = .next s') : Effect s s' := by
  unfold execJoinExpiry at e
  (repeat' split at e) <;> cases e
  any_goals exact .same
  · next joining _ => exact .giveUp joining

theorem execFillFramePoint_effect {d : DestNo} (e : execFillFramePoint d s = .next s') : Effect s s' := by
  unfold execFillFramePoint at e
  split at e <;> cases e
  · next due => exact .fill (Option.isSome_of_any due)
  · exact .same

theorem execRenormalisation_effect {f : FormatNo} (e : execRenormalisation f s = .next s') : Effect s s' := by
  unfold execRenormalisation at e
  split at e <;> cases e
  · next due => exact .renormalise (Bool.and_eq_true_iff.mp due).1
  · exact .same

theorem execTrunkCellArrival_effect {t : Trunk} {c : Cell} {pick : PoolNo} (e : execTrunkCellArrival t c pick s = .next s') :
    Effect s s' := by
  unfold execTrunkCellArrival at e
  (repeat' split at e) <;> cases e
  · exact .same
  · exact .goodArrival t c pick
  · exact .erroredArrival t

theorem execLostDelineation_effect {t : Trunk} (e : execLostDelineation t s = .next s') : Effect s s' := by
  unfold execLostDelineation at e
  split at e <;> cases e
  · exact .same
  · exact .erroredArrival t

theorem execDropTransmitOpportunity_effect {p : Port} (e : execDropTransmitOpportunity p s = .next s') : Effect s s' := by
  unfold execDropTransmitOpportunity at e
  cases e
  split
  · exact .dropIdle p
  · exact .dropOpportunity p

theorem execReturnTransmitOpportunity_effect {t : Trunk} (e : execReturnTransmitOpportunity t s = .next s') : Effect s s' := by
  unfold execReturnTransmitOpportunity at e
  cases e
  split
  · exact .returnIdle t
  · exact .returnOpportunity t

theorem execHouseTick_effect (e : execHouseTick s = .next s') : Effect s s' := by
  unfold execHouseTick at e
  cases e
  split
  · exact .same
  · exact .tick

end

/-! ## What a step can do -/

/-- Everything that a row can do: one effect, or for a command the head taken, one effect, and the reply queued. -/
def Does (s s' : State) : Prop :=
  Effect s s' ∨ ∃ t r s₁, (s.returns.get t).replies.length < Config.replyDepth ∧ Effect (headTaken s t) s₁ ∧
    s' = queueReply t r s₁

theorem executeHead_does {t : Trunk} {i : Instr} {code sub : Byte} {tag : Tag} {act : Arm → State → Result} {s s' : State}
    (h : executeHead t i code sub tag act s = .next s')
    (hact : ∀ s arm, Effect s (act arm s).state) : Does s s' := by
  rcases executeHead_cases h with ⟨hr, rfl⟩ | ⟨-, rfl⟩
  · obtain ⟨-, -, -, room⟩ := headReady_iff.mp hr
    exact .inr ⟨t, _, _, room, hact _ _, rfl⟩
  · exact .inl .same

theorem executeCommand_does {t : Trunk} {i : Instr} {k : CommandName} {hd : Header} {act : Arm → State → Result} {s s' : State}
    (h : executeCommand t i k hd act s = .next s') (hact : ∀ s arm, Effect s (act arm s).state) : Does s s' :=
  executeHead_does h hact

theorem exec_does {c : Instr} {s s' : State} (h : exec c s = .next s') : Does s s' := by
  cases c with
  | trunkCellArrival t c pick => exact .inl (execTrunkCellArrival_effect h)
  | lostDelineation t => exact .inl (execLostDelineation_effect h)
  | dropTransmitOpportunity p => exact .inl (execDropTransmitOpportunity_effect h)
  | returnTransmitOpportunity t => exact .inl (execReturnTransmitOpportunity_effect h)
  | resetLineAsserted => cases h; exact .inl (.resetLine true)
  | resetLineReleased => cases h; exact .inl (.resetLine false)
  | commitEvent d => exact .inl (execCommitEvent_effect h)
  | swapCommitEvent d => exact .inl (execSwapCommitEvent_effect h)
  | switchEvent d => exact .inl (execSwitchEvent_effect h)
  | frameWatchExpiry n => exact .inl (execFrameWatchExpiry_effect h)
  | drainExpiry d => exact .inl (execDrainExpiry_effect h)
  | joinExpiry d => exact .inl (execJoinExpiry_effect h)
  | fillFramePoint d => exact .inl (execFillFramePoint_effect h)
  | renormalisation f => exact .inl (execRenormalisation_effect h)
  | take t hd o => exact executeCommand_does ((exec_take ..).symm.trans h) (fun s arm => actTake_effect t hd o arm)
  | probe t hd o => exact executeCommand_does ((exec_probe ..).symm.trans h) (fun s arm => actProbe_effect hd o arm)
  | cancel t hd b => exact executeCommand_does ((exec_cancel ..).symm.trans h) (fun s arm => actCancel_effect hd b)
  | sweep t hd o => exact executeCommand_does ((exec_sweep ..).symm.trans h) (fun s arm => actSweep_effect t hd o)
  | swap t hd o => exact executeCommand_does ((exec_swap ..).symm.trans h) (fun s arm => actSwap_effect t hd o)
  | salvoLoad t hd o => exact executeCommand_does ((exec_salvoLoad ..).symm.trans h) (fun s arm => actSalvoLoad_effect o)
  | salvoFire t hd o => exact executeCommand_does ((exec_salvoFire ..).symm.trans h) (fun s arm => actSalvoFire_effect t hd o)
  | salvoClear t hd b => exact executeCommand_does ((exec_salvoClear ..).symm.trans h) (fun s arm => actSalvoClear_effect b)
  | lock t hd b => exact executeCommand_does ((exec_lock ..).symm.trans h) (fun s arm => actProtection_effect lockOutcome_fits hd b)
  | unlock t hd b => exact executeCommand_does ((exec_unlock ..).symm.trans h) (fun s arm => actProtection_effect unlockOutcome_fits hd b)
  | protect t hd b => exact executeCommand_does ((exec_protect ..).symm.trans h) (fun s arm => actProtection_effect protectOutcome_fits hd b)
  | unprotect t hd b => exact executeCommand_does ((exec_unprotect ..).symm.trans h) (fun s arm => actProtection_effect unprotectOutcome_fits hd b)
  | armOverride t hd b => exact executeCommand_does ((exec_armOverride ..).symm.trans h) (fun s arm => actArmOverride_effect t hd b)
  | recordState t hd b code => exact executeCommand_does ((exec_recordState ..).symm.trans h) (fun s arm => actRecordState_effect b code)
  | sourceDefine t hd n f label => exact executeCommand_does ((exec_sourceDefine ..).symm.trans h) (fun s arm => actSourceDefine_effect n f label)
  | sourceTally t hd n bits => exact executeCommand_does ((exec_sourceTally ..).symm.trans h) (fun s arm => actSourceTally_effect n bits)
  | destDefine t hd o => exact executeCommand_does ((exec_destDefine ..).symm.trans h) (fun s arm => actDestDefine_effect o)
  | formatDefine t hd f form => exact executeCommand_does ((exec_formatDefine ..).symm.trans h) (fun s arm => actFormatDefine_effect f form)
  | timeset t hd v => exact executeCommand_does ((exec_timeset ..).symm.trans h) (fun s arm => actTimeset_effect v)
  | setMargin t hd m => exact executeCommand_does ((exec_setMargin ..).symm.trans h) (fun s arm => actSetMargin_effect m)
  | setReportMask t hd m => exact executeCommand_does ((exec_setReportMask ..).symm.trans h) (fun s arm => .mask m)
  | trunkRelease t hd b => exact executeCommand_does ((exec_trunkRelease ..).symm.trans h) (fun s arm => actTrunkRelease_effect t b)
  | trunkPolicy t hd b p => exact executeCommand_does ((exec_trunkPolicy ..).symm.trans h) (fun s arm => actTrunkPolicy_effect b p)
  | hold t hd => exact executeCommand_does ((exec_hold ..).symm.trans h) (fun s arm => .hold)
  | resume t hd => exact executeCommand_does ((exec_resume ..).symm.trans h) (fun s arm => actResume_effect)
  | resetArm t hd => exact executeCommand_does ((exec_resetArm ..).symm.trans h) (fun s arm => .arm t .reset)
  | reset t hd => exact executeCommand_does ((exec_reset ..).symm.trans h) (fun s arm => actReset_effect arm)
  | identify t hd => exact executeCommand_does ((exec_identify ..).symm.trans h) (fun s arm => .same)
  | readStatus t hd => exact executeCommand_does ((exec_readStatus ..).symm.trans h) (fun s arm => .same)
  | readDest t hd a n w => exact executeCommand_does ((exec_readDest ..).symm.trans h) (fun s arm => actReadDest_effect a n w)
  | readSource t hd b => exact executeCommand_does ((exec_readSource ..).symm.trans h) (fun s arm => actReadSource_effect b)
  | readFormat t hd b => exact executeCommand_does ((exec_readFormat ..).symm.trans h) (fun s arm => actReadFormat_effect b)
  | readSalvo t hd k half => exact executeCommand_does ((exec_readSalvo ..).symm.trans h) (fun s arm => actReadSalvo_effect k half)
  | readCounters t hd g clear => exact executeCommand_does ((exec_readCounters ..).symm.trans h) (fun s arm => actReadCounters_effect g clear)
  | commandDecodeFailure t code sub tag status => exact executeHead_does ((exec_commandDecodeFailure ..).symm.trans h) (fun s arm => .same)
  | houseTick => exact .inl (execHouseTick_effect h)

/-- A step does nothing, or what the row at the front of the queue does. -/
theorem step_does {s s' : State} (h : step s = .next s') :
    s' = s ∨ ∃ rest, Does { s with pending := rest } s' := by
  unfold step at h
  split at h
  · cases h
    exact .inl rfl
  · exact .inr ⟨_, exec_does h⟩

/-- A property of the state that every effect keeps, and that neither the waiting commands nor the FIFO heads and replies enter, is kept
by every step. -/
theorem step_keeps {P : State → Prop} (pending : ∀ s l, P s → P { s with pending := l })
    (head : ∀ s t, P s → P (headTaken s t)) (reply : ∀ s t r, P s → P (queueReply t r s))
    (effect : ∀ s s', P s → Effect s s' → P s') {s s' : State} (hs : P s) (h : step s = .next s') : P s' := by
  rcases step_does h with rfl | ⟨rest, e | ⟨t, r, s₁, -, e, rfl⟩⟩
  · exact hs
  · exact effect _ _ (pending s rest hs) e
  · exact reply _ _ _ (effect _ _ (head _ t (pending s rest hs)) e)

end Sys2Proof.Machine
end

section
/-! SUPPORT. Cuts in progress and COMMITTED takes under every operation, and the law of the device mode (R174, R176). -/

namespace Sys2Proof.Machine

/-- Two states with the same records are equal. -/
theorem State.ext {s u : State}
    (pending : s.pending = u.pending) (resetLine : s.resetLine = u.resetLine) (houseTime : s.houseTime = u.houseTime)
    (margin : s.margin = u.margin) (formats : s.formats = u.formats) (sources : s.sources = u.sources) (dests : s.dests =
    u.dests) (arms : s.arms = u.arms) (active : s.active = u.active) (follow : s.follow = u.follow) (switching : s.switching
    = u.switching) (salvos : s.salvos = u.salvos) (pool : s.pool = u.pool) (poolExhausted : s.poolExhausted =
    u.poolExhausted) (ports : s.ports = u.ports) (receivers : s.receivers = u.receivers) (contexts : s.contexts =
    u.contexts) (returns : s.returns = u.returns) (mode : s.mode = u.mode) (reportMask : s.reportMask = u.reportMask)
    (dropLinks : s.dropLinks = u.dropLinks) (returnLinks : s.returnLinks = u.returnLinks) :
    s = u := by
  cases s
  cases u
  simp_all

/-! ## Cuts in progress -/

theorem cut_inProgress_iff {c : Cut} : c.inProgress = false ↔ ∃ n flag, c = .steady n flag := by
  cases c <;> simp [Cut.inProgress]

@[simp] theorem Cut.inProgress_steady (n : Option SourceNo) (flag : FwdFlag) : (Cut.steady n flag).inProgress = false := rfl
@[simp] theorem Cut.inProgress_draining (n : SourceNo) (b : Bool) (x : Time) : (Cut.draining n b x).inProgress = true := rfl
@[simp] theorem Cut.inProgress_joining (x : Time) : (Cut.joining x).inProgress = true := rfl

@[simp] theorem armFill_cut (d : DestNo) (x : Time) (s : State) (e : DestNo) :
    ((armFill d x s).switching.get e).cut = (s.switching.get e).cut := by
  rw [armFill_get]
  split <;> rfl

@[simp] theorem armFillNext_cut (d : DestNo) (s : State) (e : DestNo) :
    ((armFillNext d s).switching.get e).cut = (s.switching.get e).cut := armFill_cut ..

@[simp] theorem armFillLater_cut (d : DestNo) (s : State) (e : DestNo) :
    ((armFillLater d s).switching.get e).cut = (s.switching.get e).cut := armFill_cut ..

theorem updSwitching_cut (d : DestNo) (g : Switching → Switching) (s : State) (e : DestNo) :
    ((s.updSwitching d g).switching.get e).cut = if d = e then (g (s.switching.get d)).cut else (s.switching.get e).cut := by
  rw [State.updSwitching_switching, Tbl.get_modify]
  split
  · next h => rw [h]
  · rfl

@[simp] theorem breakForwarding_inProgress (d : DestNo) (s : State) (e : DestNo) :
    ((breakForwarding d s).switching.get e).cut.inProgress = (s.switching.get e).cut.inProgress := by
  unfold breakForwarding
  split
  · next n hc =>
    rw [armFillLater_cut, updSwitching_cut]
    split
    · next h => rw [← h, hc]; rfl
    · rfl
  · rfl

@[simp] theorem breakNotices_inProgress (n : SourceNo) (s : State) (e : DestNo) :
    ((breakNotices n s).switching.get e).cut.inProgress = (s.switching.get e).cut.inProgress :=
  foldl_keeps _ (fun s => (s.switching.get e).cut.inProgress) (fun s d => breakForwarding_inProgress d s e) _ s

@[simp] theorem lossNotices_inProgress (n : SourceNo) (s : State) (e : DestNo) :
    ((lossNotices n s).switching.get e).cut.inProgress = (s.switching.get e).cut.inProgress := by
  rw [lossNotices_cut]
  cases (s.switching.get e).cut with
  | steady | joining => rfl
  | draining =>
    dsimp only
    split <;> rfl

@[simp] theorem sourceChanged_inProgress (n : SourceNo) (previous : SourceState) (s : State) (e : DestNo) :
    ((sourceChanged n previous s).switching.get e).cut.inProgress = (s.switching.get e).cut.inProgress := by
  unfold sourceChanged
  dsimp only
  (repeat' split) <;> simp

@[simp] theorem enterLost_inProgress (n : SourceNo) (s : State) (e : DestNo) :
    ((enterLost n s).switching.get e).cut.inProgress = (s.switching.get e).cut.inProgress := by
  simp [enterLost]

@[simp] theorem sequenceCheck_inProgress (n : SourceNo) (q : BitVec 16) (s : State) (e : DestNo) :
    ((sequenceCheck n q s).switching.get e).cut.inProgress = (s.switching.get e).cut.inProgress := by
  unfold sequenceCheck
  dsimp only
  (repeat' split) <;> simp

@[simp] theorem reanchor_cut (f : FormatNo) (c : Time) (x : FrameNo) (v : Int) (s : State) (e : DestNo) :
    ((reanchor f c x v s).switching.get e).cut = (s.switching.get e).cut := by
  simp [reanchor]

@[simp] theorem reanchorCheck_cut (n : SourceNo) (s : State) (e : DestNo) :
    ((reanchorCheck n s).switching.get e).cut = (s.switching.get e).cut := by
  unfold reanchorCheck
  dsimp only
  (repeat' split) <;> simp

@[simp] theorem captureFrame_inProgress (n : SourceNo) (s : State) (e : DestNo) :
    ((captureFrame n s).switching.get e).cut.inProgress = (s.switching.get e).cut.inProgress := by
  simp [captureFrame]

@[simp] theorem trackCell_inProgress (n : SourceNo) (c : Cell) (s : State) (e : DestNo) :
    ((trackCell n c s).switching.get e).cut.inProgress = (s.switching.get e).cut.inProgress := by
  unfold trackCell
  dsimp only
  split <;> simp

@[simp] theorem endDraining_inProgress (n : SourceNo) (s : State) (e : DestNo) :
    ((endDraining n s).switching.get e).cut.inProgress = (s.switching.get e).cut.inProgress := by
  rw [endDraining_get]
  split
  · next h =>
    split
    · rw [h]; rfl
    · rfl
  · rfl

@[simp] theorem quarantineSources_inProgress (t : Trunk) (s : State) (e : DestNo) :
    ((quarantineSources t s).switching.get e).cut.inProgress = (s.switching.get e).cut.inProgress :=
  foldl_keeps _ (fun s => (s.switching.get e).cut.inProgress)
    (fun s n => by unfold quarantineSource; split <;> simp) _ s

@[simp] theorem enterQuarantine_inProgress (t : Trunk) (s : State) (e : DestNo) :
    ((enterQuarantine t s).switching.get e).cut.inProgress = (s.switching.get e).cut.inProgress := by
  simp [enterQuarantine]

@[simp] theorem erroredArrival_inProgress (t : Trunk) (s : State) (e : DestNo) :
    ((erroredArrival t s).switching.get e).cut.inProgress = (s.switching.get e).cut.inProgress := by
  unfold erroredArrival erroredCell
  dsimp only
  (repeat' split) <;> simp

@[simp] theorem storeFormat_inProgress (n : SourceNo) (f : Option FormatNo) (s : State) (e : DestNo) :
    ((storeFormat n f s).switching.get e).cut.inProgress = (s.switching.get e).cut.inProgress := by
  unfold storeFormat
  dsimp only
  split <;> simp

theorem recordOn_state (d : DestNo) (s : State) : (recordOn d s).state =
    displayVacated s (displayRecording d (s.dests.get d).recording true
      (cancelPending d (·.overrideUsed) (storeRecording d true s))) := rfl

theorem recordOff_state (d : DestNo) (s : State) : (recordOff d s).state =
    displayRecording d (s.dests.get d).recording false (storeRecording d false s) := rfl

@[simp] theorem offsetMoved_cut (d : DestNo) (s : State) (e : DestNo) :
    ((offsetMoved d s).switching.get e).cut = (s.switching.get e).cut := by simp [offsetMoved]

@[simp] theorem undefineDest_cut (d : DestNo) (s : State) (e : DestNo) :
    ((undefineDest d s).switching.get e).cut = (s.switching.get e).cut := by
  rw [undefineDest, updSwitching_cut]
  split
  · next h => rw [← h]; rfl
  · rfl

@[simp] theorem formatDest_cut (d : DestNo) (f : FormatNo) (o : Int) (s : State) (e : DestNo) :
    ((formatDest d f o s).switching.get e).cut = (s.switching.get e).cut := by
  unfold formatDest
  dsimp only
  (repeat' split) <;> simp

/-- An accepted DEST_DEFINE stores the class and then undefines the destination, or gives it its format and offset (log 8). -/
theorem defineDest_state (d : DestNo) (format : Option FormatNo) (c : DestClass) (offset : Int) (s : State) :
    (defineDest d format c offset s).state = match format with
      | none => if (s.dests.get d).format.isSome then undefineDest d (storeClass d c s) else storeClass d c s
      | some f => formatDest d f (clampOffset (s.formats.get f) offset) (storeClass d c s) := by
  cases format <;> rfl

@[simp] theorem defineDest_cut (d : DestNo) (format : Option FormatNo) (c : DestClass) (offset : Int) (s : State) (e : DestNo) :
    ((defineDest d format c offset s).state.switching.get e).cut = (s.switching.get e).cut := by
  rw [defineDest_state]
  cases format with
  | none =>
    dsimp only
    split <;> simp
  | some f => simp

@[simp] theorem defineDest_mode (d : DestNo) (format : Option FormatNo) (c : DestClass) (offset : Int) (s : State) :
    (defineDest d format c offset s).state.mode = s.mode := by
  rw [defineDest_state]
  cases format with
  | none =>
    dsimp only
    split <;> simp
  | some f => simp

@[simp] theorem redefineFormat_cut (f : FormatNo) (c : Cadence) (s : State) (e : DestNo) :
    ((redefineFormat f c s).switching.get e).cut = (s.switching.get e).cut := by simp [redefineFormat]

@[simp] theorem shiftTimes_inProgress (v : Time) (s : State) (e : DestNo) :
    ((shiftTimes v s).switching.get e).cut.inProgress = (s.switching.get e).cut.inProgress := by
  simp only [shiftTimes, Tbl.get_map]
  cases (s.switching.get e).cut <;> rfl

/-! ## COMMITTED takes -/

@[simp] theorem isCommitted_none : isCommitted none = false := rfl

@[simp] theorem isCommitted_some (k : Take) : isCommitted (some k) = true ↔ k.state = .committed := by simp [isCommitted]

theorem isCommitted_iff {o : Option Take} : isCommitted o = true ↔ ∃ k, o = some k ∧ k.state = .committed := by
  cases o <;> simp

/-- A take that is ARMED is not COMMITTED. -/
theorem not_committed_of_armed {k : Take} (h : k.state = .armed) : isCommitted (some k) = false := by
  simp [isCommitted, h]

/-- Taking an armed SWAP pair, or a single take that is not COMMITTED, out of its position removes no COMMITTED take. -/
theorem removeArmed_committed {d : DestNo} (out : TakeOutcome) {s : State} (h : isCommitted (s.active.get d) = false) (e : DestNo) :
    isCommitted ((removeArmed d out s).active.get e) = isCommitted (s.active.get e) := by
  rw [removeArmed_get]
  split
  · next he =>
    rcases he with rfl | hb
    · rw [h]; rfl
    · obtain ⟨-, q, -, hq, -, qs, -⟩ := boundPartner_some hb
      rw [hq, not_committed_of_armed qs]; rfl
  · rfl

@[simp] theorem recomputed_state (s : State) (d : DestNo) (k : Take) : (recomputed s d k).state = .armed := by
  unfold recomputed retargeted armedTake
  split <;> rfl

@[simp] theorem recomputeTakes_committed (p : DestNo → Bool) (s : State) (e : DestNo) :
    isCommitted ((recomputeTakes p s).active.get e) = isCommitted (s.active.get e) := by
  rw [recomputeTakes_get]
  split
  · cases s.active.get e with
    | none => rfl
    | some k =>
      by_cases h : k.state = .armed <;> simp [isCommitted, h]
  · rfl

/-- Placement makes no take COMMITTED and removes none (R63). -/
@[simp] theorem placeTake_committed (b : State) (d : DestNo) (k : Take) (s : State) (e : DestNo) :
    isCommitted ((placeTake b d k s).active.get e) = isCommitted (s.active.get e) := by
  rw [placeTake_active_get]
  split
  · rfl
  · next hf =>
    split
    · next he =>
      subst he
      cases hk : s.active.get d with
      | none => rfl
      | some q =>
        have : q.state = .armed := by simpa [placesFollow, hk] using hf
        simp [isCommitted, armedTake, this]
    · split
      · next hb =>
        obtain ⟨-, q, -, hq, -, qs, -⟩ := boundPartner_some hb
        rw [hq, not_committed_of_armed qs]; rfl
      · rfl

theorem removesArmed_iff {s : State} {d : DestNo} {spare : Take → Bool} :
    removesArmed s d spare = true ↔ ∃ k, s.active.get d = some k ∧ k.state = .armed ∧ spare k = false := by
  unfold removesArmed
  cases s.active.get d <;> simp

theorem isArmed_iff {o : Option Take} : isArmed o = true ↔ ∃ k, o = some k ∧ k.state = .armed := by
  cases o <;> simp [isArmed]

/-- The removal of pending takes removes no COMMITTED one either. -/
@[simp] theorem cancelPending_committed (d : DestNo) (spare : Take → Bool) (s : State) (e : DestNo) :
    isCommitted ((cancelPending d spare s).active.get e) = isCommitted (s.active.get e) := by
  have key : isCommitted ((if removesArmed s d spare then removeArmed d .cancelled s else s).active.get e) =
      isCommitted (s.active.get e) := by
    split
    · next h =>
      refine removeArmed_committed _ ?_ e
      obtain ⟨k, hk, ks, -⟩ := removesArmed_iff.mp h
      rw [hk]
      exact not_committed_of_armed ks
    · rfl
  unfold cancelPending
  dsimp only
  split
  · simpa using key
  · exact key

@[simp] theorem cancelAllArmed_committed (s : State) (e : DestNo) :
    isCommitted ((cancelAllArmed s).active.get e) = isCommitted (s.active.get e) := by
  have step (s : State) (d : DestNo) :
      isCommitted ((if isArmed (s.active.get d) then removeArmed d .cancelled s else s).active.get e) =
        isCommitted (s.active.get e) := by
    split
    · next h =>
      obtain ⟨k, hk, ks⟩ := isArmed_iff.mp h
      exact removeArmed_committed _ (by rw [hk, not_committed_of_armed ks]) e
    · rfl
  have := foldl_keeps _ (fun s => isCommitted (s.active.get e)) step (List.finRange 128) s
  exact this

@[simp] theorem formatDest_committed (d : DestNo) (f : FormatNo) (o : Int) (s : State) (e : DestNo) :
    isCommitted ((formatDest d f o s).active.get e) = isCommitted (s.active.get e) := by
  unfold formatDest offsetMoved
  dsimp only
  (repeat' split) <;> simp

@[simp] theorem defineDest_committed (d : DestNo) (format : Option FormatNo) (c : DestClass) (offset : Int) (s : State) (e : DestNo) :
    isCommitted ((defineDest d format c offset s).state.active.get e) = isCommitted (s.active.get e) := by
  rw [defineDest_state]
  cases format with
  | none =>
    dsimp only
    split <;> simp
  | some f => simp

@[simp] theorem redefineFormat_committed (f : FormatNo) (c : Cadence) (s : State) (e : DestNo) :
    isCommitted ((redefineFormat f c s).active.get e) = isCommitted (s.active.get e) := by simp [redefineFormat]

/-- RESUME re-targets ARMED takes alone (R178). -/
theorem resumes_armed {s : State} {d : DestNo} (h : resumes s d = true) : ∃ k, s.active.get d = some k ∧ k.state = .armed := by
  unfold resumes at h
  rcases Bool.or_eq_true_iff.mp h with h | h
  · unfold resumesAlone at h
    cases hk : s.active.get d with
    | none => simp [hk] at h
    | some k =>
      simp only [hk, Option.any_some, Bool.and_eq_true, beq_iff_eq] at h
      exact ⟨k, rfl, h.1⟩
  · cases hb : boundPartner s d with
    | none => simp [hb] at h
    | some p =>
      obtain ⟨k, -, hk, -, ks, -⟩ := boundPartner_some hb
      exact ⟨k, hk, ks⟩

theorem retargetAll_get (s : State) (d : DestNo) : (retargetAll s).active.get d =
    if resumes s d then (s.active.get d).map fun k => retargeted s d { k with deferred := false } else s.active.get d := by
  simp [retargetAll]

@[simp] theorem retargetAll_committed (s : State) (e : DestNo) :
    isCommitted ((retargetAll s).active.get e) = isCommitted (s.active.get e) := by
  rw [retargetAll_get]
  split
  · next h =>
    obtain ⟨k, hk, ks⟩ := resumes_armed h
    rw [hk]
    simp [isCommitted, retargeted, armedTake, ks]
  · rfl

theorem eitherFails_none {a b : DestNo} {fails : DestNo → Option Status} :
    eitherFails a b fails = none ↔ fails a = none ∧ fails b = none := by
  unfold eitherFails
  cases fails a <;> simp

theorem failsWith_none {st : Status} {b : Bool} : failsWith st b = none ↔ b = false := by
  cases b <;> simp [failsWith]

/-- What the checks 4 to 6 of SWAP establish (R119): both destinations are defined, of one format, and hold no COMMITTED take. -/
theorem swapFailure_none {s : State} {owner : Byte} {a b : DestNo} {g : Target} (h : swapFailure s owner a b g = none) :
    (s.dests.get a).format.isSome = true ∧ (s.dests.get a).format = (s.dests.get b).format ∧
      isCommitted (s.active.get a) = false ∧ isCommitted (s.active.get b) = false := by
  simp only [swapFailure, Option.or_eq_none_iff, eitherFails_none, failsWith_none] at h
  obtain ⟨⟨hu, -⟩, hf, ⟨ha, hb⟩, -⟩ := h
  refine ⟨by simpa using hu, ?_, ha, hb⟩
  by_contra hn
  simp [hn] at hf

@[simp] theorem placeHalf_active_get (k : Take) (d p : DestNo) (s : State) (e : DestNo) : (placeHalf k d p s).active.get e =
    if d = e then some (armedTake s d { k with partner := some p }) else s.active.get e := by
  simp [placeHalf, Tbl.get_set]

theorem createPair_committed {k : Take} {a b : DestNo} {s : State} (ha : isCommitted (s.active.get a) = false)
    (hb : isCommitted (s.active.get b) = false) (e : DestNo) :
    isCommitted ((createPair k a b s).active.get e) = isCommitted (s.active.get e) := by
  simp only [createPair, displayVacated_frame, displayPlaced_frame, placeHalf_active_get]
  split
  · next h => rw [← h, hb]; rfl
  · split
    · next h => rw [← h, ha]; rfl
    · rw [removeArmed_committed _ (by rw [removeArmed_committed _ ha]; exact hb), removeArmed_committed _ ha]

@[simp] theorem captureFrame_committed (n : SourceNo) (s : State) (e : DestNo) :
    isCommitted ((captureFrame n s).active.get e) = isCommitted (s.active.get e) := by
  unfold captureFrame reanchorCheck reanchor
  dsimp only
  (repeat' split) <;> simp

@[simp] theorem trackCell_committed (n : SourceNo) (c : Cell) (s : State) (e : DestNo) :
    isCommitted ((trackCell n c s).active.get e) = isCommitted (s.active.get e) := by
  unfold trackCell
  dsimp only
  split <;> simp

/-! ## The law of the device mode -/

/-- No cut in progress, in words of the records (R176). -/
theorem noCutInProgress_iff {s : State} : noCutInProgress s = true ↔
    (∀ d, isCommitted (s.active.get d) = false) ∧ ∀ d, (s.switching.get d).cut.inProgress = false := by
  simp [noCutInProgress, committedCount, cutCount, Tbl.count_eq_zero]

/-- The same destinations hold COMMITTED takes, and the same ones are in a cut. -/
structure SameCuts (s s' : State) : Prop where
  committed : ∀ d, isCommitted (s'.active.get d) = isCommitted (s.active.get d)
  inProgress : ∀ d, (s'.switching.get d).cut.inProgress = (s.switching.get d).cut.inProgress

theorem SameCuts.noCut {s s' : State} (h : SameCuts s s') : noCutInProgress s' = noCutInProgress s := by
  rw [Bool.eq_iff_iff, noCutInProgress_iff, noCutInProgress_iff]
  simp only [h.committed, h.inProgress]

theorem ModeLaw.of_sameCuts {s s' : State} (h : ModeLaw s) (c : SameCuts s s') (m : s'.mode = s.mode) : ModeLaw s' where
  cutHasTake d := by
    rw [c.inProgress, c.committed]
    exact h.cutHasTake d
  held := by
    rw [c.noCut, m]
    exact h.held
  holding := by
    rw [c.noCut, m]
    exact h.holding

/-- In RUN the law of modes says that every cut has its take, and no more. -/
theorem modeLaw_of_run {s : State} (m : s.mode = .run)
    (h : ∀ d, (s.switching.get d).cut.inProgress = true → isCommitted (s.active.get d) = true) : ModeLaw s :=
  ⟨h, fun e => by simp [m] at e, fun e => by simp [m] at e⟩

/-- A part without cuts meets the law of modes outside HOLDING. -/
theorem modeLaw_of_noCut {s : State} (m : s.mode ≠ .holding) (h : noCutInProgress s = true) : ModeLaw s :=
  ⟨fun d hd => by simp [(noCutInProgress_iff.mp h).2 d] at hd, fun _ => h, fun e => absurd e m⟩

/-- A COMMITTED take keeps the part out of HELD. -/
theorem ModeLaw.not_held {s : State} (h : ModeLaw s) {d : DestNo} (hd : isCommitted (s.active.get d) = true) : s.mode ≠ .held :=
  fun m => by simp [(noCutInProgress_iff.mp (h.held m)).1 d] at hd

/-- With its take COMMITTED, a destination may enter or leave a cut. -/
theorem ModeLaw.updSwitching {s : State} (h : ModeLaw s) {d : DestNo} (hd : isCommitted (s.active.get d) = true)
    (g : Switching → Switching) : ModeLaw (s.updSwitching d g) where
  cutHasTake e he := by
    rw [updSwitching_cut] at he
    split at he
    · next hde => exact hde ▸ hd
    · exact h.cutHasTake e he
  held m := absurd m (h.not_held hd)
  holding _ := Bool.eq_false_iff.mpr fun hn => by
    rw [noCutInProgress_iff] at hn
    exact absurd (hn.1 d) (by simp [hd])

/-- FOLLOW promotion makes no take COMMITTED. -/
theorem promote_committed {d : DestNo} {s : State} (h : s.active.get d = none) (e : DestNo) :
    isCommitted ((promote d s).active.get e) = isCommitted (s.active.get e) := by
  by_cases he : d = e
  · subst he
    cases hf : s.follow.get d with
    | none => rw [promote_none hf]
    | some k =>
      rw [promote_active_self hf, h]
      rfl
  · rw [promote_active_ne _ _ he]

@[simp] theorem modeNotice_noCut (s : State) : noCutInProgress (modeNotice s) = noCutInProgress s :=
  SameCuts.noCut ⟨fun d => by simp, fun d => by simp⟩

/-- A completion outside a cut keeps the law of modes: the Mode Controller is told of it (R72, R176). -/
theorem ModeLaw.complete {s : State} (h : ModeLaw s) {d : DestNo} (hd : (s.switching.get d).cut.inProgress = false)
    (ended : JoinEnd) : ModeLaw (complete d ended s) := by
  by_cases hc : isCommitted (s.active.get d) = true
  · obtain ⟨k, hk, ks⟩ := isCommitted_iff.mp hc
    rw [complete_committed hk ks]
    set x := promote d (requestDisplay d (notifyEnd d k (outcomeOf ended k.late) (s.setActive d none))) with hx
    have cuts : ∀ e, isCommitted (x.active.get e) = if d = e then false else isCommitted (s.active.get e) := by
      intro e
      rw [hx, promote_committed (by simp)]
      simp only [requestDisplay_frame, notifyEnd_frame, State.setActive, Tbl.get_set]
      split <;> rfl
    have switching : x.switching = s.switching := by simp [hx]
    have mode : x.mode = s.mode := by simp [hx]
    refine ⟨fun e he => ?_, fun m => ?_, fun m => ?_⟩
    · rw [show (modeNotice x).switching = s.switching by simp [switching]] at he
      have hne : d ≠ e := by rintro rfl; simp [hd] at he
      simpa [cuts, hne] using h.cutHasTake e he
    · rw [modeNotice_noCut]
      rw [modeNotice_mode] at m
      split at m
      · next hm => exact hm.2
      · exact absurd (mode.symm.trans m) (h.not_held hc)
    · rw [modeNotice_noCut]
      rw [modeNotice_mode] at m
      split at m
      · cases m
      · next hm => exact Bool.eq_false_iff.mpr fun hn => hm ⟨m, hn⟩
  · rw [complete_idle (by simpa using hc)]
    exact h


/-- What every receiver of a cell meets, before the cell is settled for it: a joining destination completes outside its cut. -/
theorem ModeLaw.receiveCell {s : State} (h : ModeLaw s) (n : SourceNo) (locked : Bool) (d : DestNo) :
    ModeLaw (receiveCell n locked d s) := by
  unfold Machine.receiveCell
  split
  · next hc =>
    refine h.of_sameCuts ⟨fun _ => rfl, fun e => ?_⟩ rfl
    rw [updSwitching_cut]
    split
    · next he => rw [← he, hc]; rfl
    · rfl
  · next hc => exact (h.updSwitching (h.cutHasTake d (by rw [hc]; rfl)) _).complete (by simp) _
  · exact h

theorem ModeLaw.missCell {s : State} (h : ModeLaw s) (n : SourceNo) (locked : Bool) (d : DestNo) :
    ModeLaw (missCell n locked d s) := by
  unfold Machine.missCell
  split
  · exact h.of_sameCuts ⟨fun e => by simp, fun e => by simp⟩ (by simp)
  · exact h
  · next hc => exact h.updSwitching (h.cutHasTake d (by rw [hc]; rfl)) _
  · next hc =>
    have joined := h.updSwitching (h.cutHasTake d (by rw [hc]; rfl)) fun w => { w with cut := .steady (some n) .waiting }
    exact ModeLaw.complete (joined.of_sameCuts ⟨fun e => by simp, fun e => by simp⟩ (by simp)) (by simp) _

/-- A fold keeps a property that every step keeps. -/
theorem foldl_invariant {σ α : Type} {P : σ → Prop} {f : σ → α → σ} (l : List α) (h : ∀ s, ∀ a ∈ l, P s → P (f s a)) {s : σ}
    (hs : P s) : P (l.foldl f s) := by
  induction l generalizing s with
  | nil => exact hs
  | cons a l ih => exact ih (fun s b hb => h s b (List.mem_cons_of_mem _ hb)) (h s a List.mem_cons_self hs)

theorem ModeLaw.settleReceivers {s : State} (h : ModeLaw s) (n : SourceNo) (locked : Bool) (got receivers : List DestNo) :
    ModeLaw (settleReceivers n locked got receivers s) :=
  foldl_invariant receivers (fun s d _ hs => by
    split
    · exact hs.receiveCell n locked d
    · exact hs.missCell n locked d) h

/-- The state in which a cell of source `n` is replicated: a frame start has ended the draining of `n` (R82). -/
def drainEnded (n : SourceNo) (frameStart : Bool) (s : State) : State := if frameStart then endDraining n s else s

@[simp] theorem drainEnded_frame (n : SourceNo) (b : Bool) (s : State) :
    (drainEnded n b s).pending = s.pending ∧ (drainEnded n b s).houseTime = s.houseTime ∧ (drainEnded n b s).margin = s.margin ∧
    (drainEnded n b s).formats = s.formats ∧ (drainEnded n b s).sources = s.sources ∧ (drainEnded n b s).dests = s.dests ∧
    (drainEnded n b s).arms = s.arms ∧ (drainEnded n b s).active = s.active ∧ (drainEnded n b s).follow = s.follow ∧
    (drainEnded n b s).salvos = s.salvos ∧ (drainEnded n b s).pool = s.pool ∧ (drainEnded n b s).ports = s.ports ∧
    (drainEnded n b s).receivers = s.receivers ∧ (drainEnded n b s).contexts = s.contexts ∧
    (drainEnded n b s).returns = s.returns ∧ (drainEnded n b s).mode = s.mode ∧
    (drainEnded n b s).poolExhausted = s.poolExhausted ∧ (drainEnded n b s).reportMask = s.reportMask := by
  unfold drainEnded
  split <;> simp

/-- Everything that replication can do (R91–R95): the refusals counted, the cell stored for the admitted destinations, or for none when
there is none or no slot is free, and then every receiver settled. -/
theorem replicate_cases (n : SourceNo) (c : Cell) (pick : PoolNo) (s : State) :
    ∃ s₁ locked receivers admitted refused, s₁ = drainEnded n c.frameStart s ∧ locked = ((s.sources.get n).state == .locked) ∧
      receivers = receivingSet s₁ n c.frameStart ∧ admitted = admittedSet s₁ receivers [] ∧
      refused = receivers.filter (· ∉ admitted) ∧
      ((admitted = [] ∧ replicate n c pick s = settleReceivers n locked [] receivers (countRefusals refused s₁)) ∨
        (∃ k, admitted ≠ [] ∧ takeSlot s.pool pick = some k ∧ replicate n c pick s =
          settleReceivers n locked admitted receivers (storeCell k c admitted (countRefusals refused s₁))) ∨
        (admitted ≠ [] ∧ takeSlot s.pool pick = none ∧ replicate n c pick s = settleReceivers n locked [] receivers
          { countRefusals refused s₁ with poolExhausted := bump s.poolExhausted })) := by
  refine ⟨_, _, _, _, _, rfl, rfl, rfl, rfl, rfl, ?_⟩
  unfold replicate
  dsimp only
  rw [show (if c.frameStart = true then endDraining n s else s) = drainEnded n c.frameStart s from rfl]
  split
  · next h => exact .inl ⟨h, by simp⟩
  · next h =>
    split
    · next k hk => exact .inr (.inl ⟨k, h, by simpa using hk, by simp⟩)
    · next hk => exact .inr (.inr ⟨h, by simpa using hk, by simp⟩)

/-- The switching side of replication: the receivers settled from a state that differs from the drained one in the pool and the ports
alone. -/
theorem replicate_settles (n : SourceNo) (c : Cell) (pick : PoolNo) (s : State) :
    ∃ got s₂, replicate n c pick s = settleReceivers n ((s.sources.get n).state == .locked) got
        (receivingSet (drainEnded n c.frameStart s) n c.frameStart) s₂ ∧
      s₂ = { drainEnded n c.frameStart s with pool := s₂.pool, poolExhausted := s₂.poolExhausted, ports := s₂.ports } := by
  obtain ⟨s₁, locked, receivers, admitted, refused, rfl, rfl, rfl, -, -, ⟨-, e⟩ | ⟨k, -, -, e⟩ | ⟨-, -, e⟩⟩ := replicate_cases n c pick s
  all_goals exact ⟨_, _, e, by apply State.ext <;> simp⟩

theorem SameCuts.drainEnded (n : SourceNo) (b : Bool) (s : State) : SameCuts s (drainEnded n b s) := by
  refine ⟨fun e => by simp, fun e => ?_⟩
  unfold Machine.drainEnded
  split <;> simp

theorem ModeLaw.replicate {s : State} (h : ModeLaw s) (n : SourceNo) (c : Cell) (pick : PoolNo) :
    ModeLaw (replicate n c pick s) := by
  obtain ⟨got, s₂, e, hs⟩ := replicate_settles n c pick s
  have drained : ModeLaw (drainEnded n c.frameStart s) := h.of_sameCuts (.drainEnded n _ s) (by simp)
  rw [e]
  refine ModeLaw.settleReceivers ?_ ..
  rw [hs]
  exact drained.of_sameCuts ⟨fun e => rfl, fun e => rfl⟩ rfl

theorem ModeLaw.goodArrival {s : State} (h : ModeLaw s) (t : Trunk) (c : Cell) (pick : PoolNo) :
    ModeLaw (goodArrival t c pick s) := by
  unfold Machine.goodArrival
  dsimp only
  (repeat' split)
  case isFalse.isTrue =>
    unfold essenceArrival
    dsimp only
    split
    · exact h.of_sameCuts ⟨fun e => by simp, fun e => by simp⟩ (by simp)
    · exact ModeLaw.replicate (h.of_sameCuts ⟨fun e => by simp, fun e => by simp⟩ (by simp)) ..
  all_goals exact h.of_sameCuts ⟨fun e => by simp, fun e => by simp⟩ (by simp)

/-- A take that is not COMMITTED may be changed to one that is not, or removed. -/
theorem sameCuts_setActive {s : State} {d : DestNo} {o : Option Take} (hd : isCommitted (s.active.get d) = false)
    (ho : isCommitted o = false) : SameCuts s (s.setActive d o) where
  committed e := by
    simp only [State.setActive_active, Tbl.get_set]
    split
    · next he => rw [ho, ← he, hd]
    · rfl
  inProgress _ := rfl

theorem ModeLaw.commitArmed {s : State} (h : ModeLaw s) {d : DestNo} {k : Take} (hk : s.active.get d = some k)
    (ka : k.state = .armed) : ModeLaw (commitArmed d k s) := by
  have hd : isCommitted (s.active.get d) = false := by rw [hk, not_committed_of_armed ka]
  unfold Machine.commitArmed
  split
  · exact h.of_sameCuts (sameCuts_setActive hd (not_committed_of_armed ka)) rfl
  · next m =>
    have run : s.mode = .run := not_not.mp m
    split
    · refine modeLaw_of_run run fun e he => ?_
      simp only [commitTake, State.setActive_active, Tbl.get_set]
      split
      · simp
      · exact h.cutHasTake e he
    · refine modeLaw_of_run (by simp [run]) fun e he => ?_
      simp only [displayVacated_frame, removeActive_frame, removeActive_get] at he ⊢
      rw [if_neg (by rintro rfl; simp [h.cutHasTake _ he] at hd)]
      exact h.cutHasTake e he

theorem ModeLaw.commitPair {s : State} (h : ModeLaw s) {d p : DestNo} {k q : Take} (hk : s.active.get d = some k)
    (hq : s.active.get p = some q) (hb : boundPartner s d = some p) : ModeLaw (commitPair d p k q s) := by
  obtain ⟨k', q', hk', hq', ka, qa, -⟩ := boundPartner_some hb
  cases hk.symm.trans hk'
  cases hq.symm.trans hq'
  unfold Machine.commitPair
  split
  · next run =>
    refine modeLaw_of_run run fun e he => ?_
    simp only [commitTake, State.setActive_active, Tbl.get_set]
    (repeat' split)
    · simp
    · simp
    · exact h.cutHasTake e he
  · have defer (s : State) (d : DestNo) {k : Take} (hs : ModeLaw s) (hd : isCommitted (s.active.get d) = false)
        (ka : k.state = .armed) : ModeLaw (deferTake d k s) :=
      hs.of_sameCuts (sameCuts_setActive hd (not_committed_of_armed ka)) rfl
    have first := defer s d h (by rw [hk, not_committed_of_armed ka]) ka
    refine defer _ p first ?_ qa
    simp only [deferTake, State.setActive_active, Tbl.get_set]
    split
    · exact not_committed_of_armed ka
    · rw [hq, not_committed_of_armed qa]

theorem ModeLaw.switchCut {s : State} (h : ModeLaw s) {d : DestNo} (hd : isCommitted (s.active.get d) = true)
    (new : Option SourceNo) (x : Time) : ModeLaw (switchCut d new x s) := by
  unfold Machine.switchCut
  split
  · split
    · have joined := h.updSwitching hd fun w => { w with cut := .steady none .waiting }
      exact ModeLaw.complete (joined.of_sameCuts ⟨fun e => by simp, fun e => by simp⟩ (by simp)) (by simp) _
    · split
      · exact h.updSwitching hd _
      · split <;> exact h.updSwitching hd _
  · exact h

theorem ModeLaw.giveUpJoining {s : State} (h : ModeLaw s) {d : DestNo} (hd : isCommitted (s.active.get d) = true) :
    ModeLaw (giveUpJoining d s) := by
  have joined := h.updSwitching hd fun w => { w with cut := .steady (s.dests.get d).current .waiting }
  exact ModeLaw.complete (joined.of_sameCuts ⟨fun e => by simp, fun e => by simp⟩ (by simp)) (by simp) _

theorem ModeLaw.holdMode {s : State} (h : ModeLaw s) : ModeLaw (holdMode s) := by
  unfold Machine.holdMode
  split
  · exact h
  · split
    · next hn =>
      exact modeLaw_of_noCut (by simp [reachHeld])
        ((SameCuts.noCut ⟨fun e => by simp [reachHeld], fun e => by simp [reachHeld]⟩).trans hn)
    · next hn => exact ⟨h.cutHasTake, fun m => by simp at m, fun _ => Bool.eq_false_iff.mpr hn⟩

/-- A part without takes and cuts, in RUN or HELD, meets the law of modes. -/
theorem modeLaw_of_empty {s : State} (m : s.mode ≠ .holding) (ha : ∀ d, s.active.get d = none)
    (hc : ∀ d, (s.switching.get d).cut.inProgress = false) : ModeLaw s :=
  modeLaw_of_noCut m (noCutInProgress_iff.mpr ⟨fun d => by rw [ha]; rfl, hc⟩)

theorem warmReset_switching (s : State) (d : DestNo) :
    (warmReset s).switching.get d = warmSwitching (warmRecords s) d := by
  simp [warmReset, warmBlocks, clearCounters]

theorem warmReset_active (s : State) (d : DestNo) : (warmReset s).active.get d = none := by
  simp [warmReset, warmRecords]

theorem warmReset_mode (s : State) : (warmReset s).mode = s.mode.warm := by
  simp [warmReset, warmBlocks]

theorem modeLaw_warmReset (s : State) : ModeLaw (warmReset s) :=
  modeLaw_of_empty (by rw [warmReset_mode]; cases s.mode <;> simp [Mode.warm]) (warmReset_active s)
    fun d => by rw [warmReset_switching]; rfl

theorem ModeLaw.displayVacated {s : State} (h : ModeLaw s) (before : State) : ModeLaw (displayVacated before s) :=
  h.of_sameCuts ⟨fun e => by simp, fun e => by simp⟩ (by simp)

theorem ModeLaw.effect {s s' : State} (h : ModeLaw s) (e : Effect s s') : ModeLaw s' := by
  cases e with
  | same => exact h
  | place => exact h.of_sameCuts ⟨fun e => by simp, fun e => by simp⟩ (by simp)
  | cancel => exact h.of_sameCuts ⟨fun e => by simp, fun e => by simp⟩ (by simp)
  | swap t tag ne checked =>
    obtain ⟨-, -, ha, hb⟩ := swapFailure_none checked
    exact h.of_sameCuts ⟨createPair_committed ha hb, fun e => by simp⟩ (by simp)
  | sweep =>
    exact (foldl_invariant _ (fun s d _ hs => hs.of_sameCuts ⟨fun e => by simp, fun e => by simp⟩ (by simp)) h).displayVacated _
  | fire =>
    refine ModeLaw.displayVacated (foldl_invariant _ (fun s d _ hs => ?_) ?_) _
    · exact hs.of_sameCuts ⟨fun e => by simp [firePair], fun e => by simp⟩ (by simp)
    · exact h.of_sameCuts ⟨fun e => by simp, fun e => by simp⟩ (by simp)
  | goodArrival t c pick => exact h.goodArrival t c pick
  | resetLine b => exact modeLaw_of_empty (by simp [State.reset]) (by simp [State.reset]) (by simp [State.reset, Switching.reset])
  | commit holds armed _ => exact h.commitArmed holds armed
  | commitPair holds bound partner => exact h.commitPair holds partner bound
  | switch x holds committed _ =>
    exact ModeLaw.switchCut (h.of_sameCuts ⟨fun e => by simp, fun e => by simp⟩ (by simp)) (by simp [holds, committed]) ..
  | drained hc => exact h.updSwitching (h.cutHasTake _ (by rw [hc]; rfl)) _
  | giveUp hc => exact h.giveUpJoining (h.cutHasTake _ (by rw [hc]; rfl))
  | hold => exact h.holdMode
  | resume => exact modeLaw_of_run rfl fun e he => by simpa using h.cutHasTake e (by simpa using he)
  | warmReset => exact modeLaw_warmReset s
  | recordOn =>
    rw [recordOn_state]
    exact h.of_sameCuts ⟨fun e => by simp, fun e => by simp⟩ (by simp)
  | recordOff =>
    rw [recordOff_state]
    exact h.of_sameCuts ⟨fun e => by simp, fun e => by simp⟩ (by simp)
  | destDefine => exact h.of_sameCuts ⟨fun e => by simp, fun e => by simp⟩ (by simp)
  | _ => exact h.of_sameCuts ⟨fun e => by simp, fun e => by simp⟩ (by simp)

/-- Settles O5: no effect leaves a cut without its COMMITTED take, and every completion tells the Mode Controller. -/
theorem modeLawKept : Obligations.ModeLawKept := by
  unfold Obligations.ModeLawKept
  exact fun s s' h => step_keeps (fun s l h => ⟨h.1, h.2, h.3⟩) (fun s t h => h.of_sameCuts ⟨fun e => by simp, fun e => by simp⟩ (by simp))
    (fun s t r h => h.of_sameCuts ⟨fun e => by simp, fun e => by simp⟩ (by simp)) (fun s s' => ModeLaw.effect) h

end Sys2Proof.Machine
end

section
/-! SUPPORT. The law of the switching records (5.1, R37, R39, R80, R87, R89): STEADY destinations and their fill timers, and UNDEFINED
destinations on NONE without takes. -/

namespace Sys2Proof.Machine

/-! ## The two halves of the law -/

/-- Every switching record fits its destination. -/
def SteadyLaw (s : State) : Prop := ∀ d, steadyFits (s.dests.get d) (s.switching.get d) = true

/-- UNDEFINED destinations stand on NONE and hold no take. -/
def IdleLaw (s : State) : Prop := ∀ d, (s.dests.get d).format = none →
  (s.dests.get d).current = none ∧ s.active.get d = none ∧ s.follow.get d = none

theorem switchLaw_iff {s : State} : SwitchLaw s ↔ SteadyLaw s ∧ IdleLaw s := ⟨fun h => ⟨h.1, h.2⟩, fun h => ⟨h.1, h.2⟩⟩

theorem steadyFits_steady {x : Dest} {w : Switching} {n : Option SourceNo} {flag : FwdFlag} (h : w.cut = .steady n flag) :
    steadyFits x w = true ↔
      n = x.current ∧ (n.isSome = true ∨ flag = .waiting) ∧ w.fill.isSome = (x.format.isSome && flag == .waiting) := by
  unfold steadyFits
  simp [h, and_assoc]

theorem steadyFits_inProgress {x : Dest} {w : Switching} (h : w.cut.inProgress = true) :
    steadyFits x w = x.format.isSome := by
  unfold steadyFits
  cases hc : w.cut with
  | steady => simp [hc] at h
  | draining | joining => rfl

/-- Of a destination only the current source enters the law, and whether it is defined. -/
theorem steadyFits_congr {x y : Dest} (hf : y.format.isSome = x.format.isSome) (hc : y.current = x.current) (w : Switching) :
    steadyFits y w = steadyFits x w := by
  unfold steadyFits
  rw [hf, hc]

/-! ## What keeps the law of UNDEFINED destinations -/

/-- The same destinations are defined, and current sources stand. -/
def SameRoutes (s s' : State) : Prop :=
  ∀ d, (s'.dests.get d).format.isSome = (s.dests.get d).format.isSome ∧ (s'.dests.get d).current = (s.dests.get d).current

theorem sameRoutes_of_dests {s s' : State} (h : s'.dests = s.dests) : SameRoutes s s' := fun d => by rw [h]; exact ⟨rfl, rfl⟩

theorem IdleLaw.mono {s s' : State} (h : IdleLaw s) (routes : SameRoutes s s')
    (active : ∀ d, (s.dests.get d).format = none → s.active.get d = none → s'.active.get d = none)
    (follow : ∀ d, (s.dests.get d).format = none → s.follow.get d = none → s'.follow.get d = none) : IdleLaw s' := by
  intro d hd
  rw [← Option.isNone_iff_eq_none, ← Option.not_isSome, (routes d).1, Option.not_isSome, Option.isNone_iff_eq_none] at hd
  obtain ⟨hc, ha, hf⟩ := h d hd
  exact ⟨(routes d).2.trans hc, active d hd ha, follow d hd hf⟩

theorem SteadyLaw.of_routes {s s' : State} (h : SteadyLaw s) (routes : SameRoutes s s')
    (fits : ∀ d, steadyFits (s.dests.get d) (s.switching.get d) = true → steadyFits (s.dests.get d) (s'.switching.get d) = true) :
    SteadyLaw s' := fun d => by
  rw [steadyFits_congr (routes d).1 (routes d).2]
  exact fits d (h d)

theorem SteadyLaw.of_same {s s' : State} (h : SteadyLaw s) (dests : s'.dests = s.dests) (switching : s'.switching = s.switching) :
    SteadyLaw s' := fun d => by rw [dests, switching]; exact h d

/-- A change of one switching record keeps the law when the record fits. -/
theorem SteadyLaw.at {s s' : State} (h : SteadyLaw s) (d : DestNo) (routes : SameRoutes s s')
    (others : ∀ e, d ≠ e → s'.switching.get e = s.switching.get e)
    (this : steadyFits (s.dests.get d) (s'.switching.get d) = true) : SteadyLaw s' :=
  h.of_routes routes fun e he => by
    by_cases hde : d = e
    · exact hde ▸ this
    · rw [others e hde]
      exact he

@[simp] theorem armFill_fill_isSome (d : DestNo) (x : Time) (s : State) :
    ((armFill d x s).switching.get d).fill.isSome = ((s.dests.get d).format.isSome || (s.switching.get d).fill.isSome) := by
  rw [armFill_get]
  by_cases h : (s.dests.get d).format.isSome = true <;> simp [h]

@[simp] theorem armFill_get_ne (d : DestNo) (x : Time) (s : State) {e : DestNo} (h : d ≠ e) :
    (armFill d x s).switching.get e = s.switching.get e := by
  rw [armFill_get, if_neg fun hn => h hn.2]

/-- A posting does not enter the fill timers. -/
@[simp] theorem armFillNext_postFill_switching (d : DestNo) (s : State) :
    (armFillNext d (postFill d s)).switching = (armFillNext d s).switching := by
  simp only [armFillNext, armFill, pointFrom, formatOf, postFill_frame]
  split <;> simp

/-- A change of a source's state enters or leaves LOCKED (R33). -/
def lockChanges (previous new : SourceState) : Bool := (previous == .locked) != (new == .locked)

/-- A change of a source's state enters LOST (R33). -/
def entersLost (previous new : SourceState) : Bool := previous != .lost && new == .lost

/-- A change of a source's state made known, before the Switch Unit is given notice of a loss (R33): tracking, SOURCE_STATE and DISPLAY
entries. -/
def sourceAnnounced (n : SourceNo) (previous : SourceState) (s : State) : State :=
  let r := s.sources.get n
  if lockChanges previous r.state || entersLost previous r.state then
    requestDisplays (destsForwarding s n) (queueMasked (.sourceState n previous r.state r.format r.phase s.houseTime)
      (if lockChanges previous r.state then evaluateTracking n s else s))
  else s

@[simp] theorem sourceAnnounced_frame (n : SourceNo) (x : SourceState) (s : State) :
    (sourceAnnounced n x s).pending = s.pending ∧ (sourceAnnounced n x s).resetLine = s.resetLine ∧
    (sourceAnnounced n x s).houseTime = s.houseTime ∧ (sourceAnnounced n x s).margin = s.margin ∧
    (sourceAnnounced n x s).sources = s.sources ∧ (sourceAnnounced n x s).dests = s.dests ∧
    (sourceAnnounced n x s).arms = s.arms ∧ (sourceAnnounced n x s).active = s.active ∧
    (sourceAnnounced n x s).follow = s.follow ∧ (sourceAnnounced n x s).switching = s.switching ∧
    (sourceAnnounced n x s).salvos = s.salvos ∧ (sourceAnnounced n x s).pool = s.pool ∧
    (sourceAnnounced n x s).poolExhausted = s.poolExhausted ∧ (sourceAnnounced n x s).receivers = s.receivers ∧
    (sourceAnnounced n x s).contexts = s.contexts ∧ (sourceAnnounced n x s).mode = s.mode ∧
    (sourceAnnounced n x s).reportMask = s.reportMask ∧ (sourceAnnounced n x s).dropLinks = s.dropLinks ∧
    (sourceAnnounced n x s).returnLinks = s.returnLinks := by
  unfold sourceAnnounced
  dsimp only
  (repeat' split) <;> simp

theorem destsForwarding_congr {s s' : State} (h : s'.switching = s.switching) (n : SourceNo) :
    destsForwarding s' n = destsForwarding s n := by
  unfold destsForwarding
  rw [h]

/-- A change of a source's state is made known, and on entry into LOST the Switch Unit is then given notice (R33). -/
theorem sourceChanged_eq (n : SourceNo) (previous : SourceState) (s : State) :
    sourceChanged n previous s =
      if entersLost previous (s.sources.get n).state then lossNotices n (sourceAnnounced n previous s)
      else sourceAnnounced n previous s := by
  have displays (b : Bool) (r : Report) : destsForwarding (queueMasked r (if b then evaluateTracking n s else s)) n =
      destsForwarding s n := destsForwarding_congr (by cases b <;> simp) n
  have time (b : Bool) : (if b then evaluateTracking n s else s).houseTime = s.houseTime := by cases b <;> simp
  unfold sourceChanged sourceAnnounced lockChanges entersLost
  dsimp only
  rw [displays, time]
  by_cases hl : (previous != .lost && (s.sources.get n).state == .lost) = true
  · simp only [hl, Bool.or_true, if_true]
  · simp only [hl, Bool.or_false, Bool.false_eq_true, if_false]
    split <;> rfl

@[simp] theorem realignFill_fill_isSome (p : DestNo → Bool) (s : State) (e : DestNo) :
    ((realignFill p s).switching.get e).fill.isSome = (s.switching.get e).fill.isSome := by
  rw [realignFill_get]
  split
  · next h => simp [h.2]
  · rfl

/-- A switching record whose cut stands and whose fill timer stays active or inactive fits as before. -/
theorem steadyFits_of_cut {x : Dest} {w v : Switching} (hc : v.cut = w.cut) (hf : v.fill.isSome = w.fill.isSome) :
    steadyFits x v = steadyFits x w := by
  unfold steadyFits
  rw [hc, hf]

theorem SteadyLaw.realignFill {s : State} (h : SteadyLaw s) (p : DestNo → Bool) : SteadyLaw (realignFill p s) :=
  h.of_routes (sameRoutes_of_dests (by simp)) fun d hd => by
    rwa [steadyFits_of_cut (realignFill_cut p s d) (realignFill_fill_isSome p s d)]

/-- A defined STEADY destination that waits with its fill timer started fits. -/
theorem SteadyLaw.wait {s : State} (h : SteadyLaw s) {d : DestNo} (x : Time) {n : Option SourceNo}
    (hn : n = (s.dests.get d).current) (hf : (s.dests.get d).format.isSome = true ∨ (s.switching.get d).fill = none) :
    SteadyLaw (armFill d x (s.updSwitching d fun w => { w with cut := .steady n .waiting })) := by
  refine h.at d (sameRoutes_of_dests (by simp)) (fun e he => by simp [he, Tbl.get_modify_ne]) ?_
  rw [steadyFits_steady (n := n) (flag := .waiting) (by simp)]
  refine ⟨hn, .inr rfl, ?_⟩
  rcases hf with hf | hf <;> simp [hf]

theorem SteadyLaw.breakForwarding {s : State} (h : SteadyLaw s) (d : DestNo) : SteadyLaw (breakForwarding d s) := by
  unfold Machine.breakForwarding
  split
  · next n hc =>
    obtain ⟨hn, -, hf⟩ := (steadyFits_steady hc).mp (h d)
    exact h.wait _ hn (.inr (by simpa [show (FwdFlag.forwarding == FwdFlag.waiting) = false from rfl] using hf))
  · exact h

theorem SteadyLaw.breakNotices {s : State} (h : SteadyLaw s) (n : SourceNo) : SteadyLaw (breakNotices n s) :=
  foldl_invariant _ (fun _ d _ hs => hs.breakForwarding d) h

/-- A defined destination may enter or change its cut. -/
theorem SteadyLaw.enterCut {s : State} (h : SteadyLaw s) {d : DestNo} (hf : (s.dests.get d).format.isSome = true) {c : Cut}
    (hc : c.inProgress = true) : SteadyLaw (s.updSwitching d fun w => { w with cut := c }) := by
  refine h.at d (sameRoutes_of_dests rfl) (fun e he => by simp [he, Tbl.get_modify_ne]) ?_
  rwa [steadyFits_inProgress (by simpa using hc)]

/-- A destination in a cut is defined. -/
theorem SteadyLaw.defined {s : State} (h : SteadyLaw s) {d : DestNo} (hc : (s.switching.get d).cut.inProgress = true) :
    (s.dests.get d).format.isSome = true := by
  rw [← steadyFits_inProgress hc]
  exact h d

theorem SteadyLaw.lossNotice {s : State} (h : SteadyLaw s) (i : IdleLaw s) (n : SourceNo) (d : DestNo) :
    SteadyLaw (lossNotice n d s) := by
  unfold Machine.lossNotice
  split
  · next m _ hc =>
    split
    · next hm =>
      obtain ⟨hn, -⟩ := (steadyFits_steady hc).mp (h d)
      have hf : (s.dests.get d).format.isSome = true := by
        rw [Option.isSome_iff_ne_none]
        intro hnone
        rw [(i d hnone).1] at hn
        cases hn
      have waits := h.wait (s.houseTime + 1) (n := some n) (hm ▸ hn) (.inl hf)
      exact waits.of_same (by simp [armFillNext]) (armFillNext_postFill_switching ..)
    · exact h
  · next hc =>
    split
    · exact h.enterCut (h.defined (by rw [hc]; rfl)) rfl
    · exact h
  · exact h

theorem SteadyLaw.lossNotices {s : State} (h : SteadyLaw s) (i : IdleLaw s) (n : SourceNo) : SteadyLaw (lossNotices n s) :=
  (foldl_invariant (P := fun s => SteadyLaw s ∧ IdleLaw s) (List.finRange 128)
    (fun s d _ hs => ⟨hs.1.lossNotice hs.2 n d, hs.2.mono (sameRoutes_of_dests (by simp)) (fun e _ => by simp) (fun e _ => by simp)⟩)
    ⟨h, i⟩).1

theorem IdleLaw.of_same {s s' : State} (h : IdleLaw s) (dests : s'.dests = s.dests) (active : s'.active = s.active)
    (follow : s'.follow = s.follow) : IdleLaw s' := fun d => by rw [dests, active, follow]; exact h d

theorem SteadyLaw.sourceChanged {s : State} (h : SteadyLaw s) (i : IdleLaw s) (n : SourceNo) (previous : SourceState) :
    SteadyLaw (sourceChanged n previous s) := by
  have announced : SteadyLaw (sourceAnnounced n previous s) := h.of_same (by simp) (by simp)
  rw [sourceChanged_eq]
  split
  · exact announced.lossNotices (i.of_same (by simp) (by simp) (by simp)) n
  · exact announced


theorem SteadyLaw.enterLost {s : State} (h : SteadyLaw s) (i : IdleLaw s) (n : SourceNo) : SteadyLaw (enterLost n s) :=
  SteadyLaw.sourceChanged (s := s.updSource n _) (h.of_same rfl rfl) (i.of_same rfl rfl rfl) n _

/-! ## A cell of a source -/

theorem recomputeTakes_active_none (p : DestNo → Bool) (s : State) {d : DestNo} (h : s.active.get d = none) :
    (recomputeTakes p s).active.get d = none := by simp [recomputeTakes_get, h]

@[simp] theorem reanchorCheck_fill_isSome (n : SourceNo) (s : State) (e : DestNo) :
    ((reanchorCheck n s).switching.get e).fill.isSome = (s.switching.get e).fill.isSome := by
  unfold reanchorCheck reanchor
  dsimp only
  (repeat' split) <;> simp

theorem SteadyLaw.reanchorCheck {s : State} (h : SteadyLaw s) (n : SourceNo) : SteadyLaw (reanchorCheck n s) :=
  h.of_routes (sameRoutes_of_dests (by simp)) fun d hd => by
    rwa [steadyFits_of_cut (reanchorCheck_cut n s d) (reanchorCheck_fill_isSome n s d)]

theorem SteadyLaw.captureFrame {s : State} (h : SteadyLaw s) (i : IdleLaw s) (n : SourceNo) : SteadyLaw (captureFrame n s) := by
  unfold Machine.captureFrame
  dsimp only
  have changed := SteadyLaw.sourceChanged (s := s.updSource n fun r => r.captured (sourceFormat s n) s.houseTime)
    (h.of_same rfl rfl) (i.of_same rfl rfl rfl) n (s.sources.get n).state
  exact (changed.reanchorCheck n).of_same rfl rfl

theorem SteadyLaw.sequenceCheck {s : State} (h : SteadyLaw s) (n : SourceNo) (q : BitVec 16) : SteadyLaw (sequenceCheck n q s) := by
  unfold Machine.sequenceCheck
  dsimp only
  (repeat' split)
  case h_2.isFalse =>
    exact (SteadyLaw.breakNotices (s := s.updSource n fun r => { r with gaps := bump r.gaps }) (h.of_same rfl rfl) n).of_same rfl rfl
  all_goals exact h.of_same rfl rfl

theorem IdleLaw.trackCell {s : State} (i : IdleLaw s) (n : SourceNo) (c : Cell) : IdleLaw (trackCell n c s) := by
  refine i.mono (sameRoutes_of_dests (by simp)) (fun d _ hd => ?_) (fun d _ => by simp)
  unfold Machine.trackCell captureFrame Machine.reanchorCheck reanchor
  dsimp only
  (repeat' split) <;> simp [hd, recomputeTakes_active_none]

theorem SteadyLaw.trackCell {s : State} (h : SteadyLaw s) (i : IdleLaw s) (n : SourceNo) (c : Cell) :
    SteadyLaw (trackCell n c s) := by
  have checked := h.sequenceCheck n c.seq
  unfold Machine.trackCell
  dsimp only
  split
  · exact SteadyLaw.captureFrame (s := (Machine.sequenceCheck n c.seq s).updSource n _) (checked.of_same rfl rfl)
      (i.of_same (by simp) (by simp) (by simp)) n
  · exact checked.of_same rfl rfl

theorem SteadyLaw.drainEnded {s : State} (h : SteadyLaw s) (n : SourceNo) (b : Bool) : SteadyLaw (drainEnded n b s) := by
  refine h.of_routes (sameRoutes_of_dests (by simp)) fun d hd => ?_
  unfold Machine.drainEnded
  split
  · rw [endDraining_get]
    split
    · next hc =>
      split
      · rw [steadyFits_inProgress rfl]
        rwa [steadyFits_inProgress (by rw [hc]; rfl)] at hd
      · exact hd
    · exact hd
  · exact hd

/-- A completion leaves an UNDEFINED destination without a take: only a FOLLOW take can fill its active position. -/
theorem complete_active_none {d : DestNo} {ended : JoinEnd} {s : State} {e : DestNo} (ha : s.active.get e = none) :
    (complete d ended s).active.get e = none := by
  by_cases hde : d = e
  · subst hde
    rw [complete_idle (by rw [ha]; rfl), ha]
  · rw [complete_active_ne _ _ _ hde, ha]

theorem complete_follow_none {d : DestNo} {ended : JoinEnd} {s : State} {e : DestNo} (hf : s.follow.get e = none) :
    (complete d ended s).follow.get e = none := by
  unfold complete
  split
  · exact hf
  · split
    · rw [(show ∀ x, (modeNotice x).follow = x.follow by simp), promote_follow]
      split
      · rfl
      · simpa using hf
    · exact hf


theorem SteadyLaw.complete {s : State} (h : SteadyLaw s) (d : DestNo) (ended : JoinEnd) : SteadyLaw (complete d ended s) :=
  h.of_same (by simp) (by simp)

theorem IdleLaw.complete {s : State} (i : IdleLaw s) (d : DestNo) (ended : JoinEnd) : IdleLaw (complete d ended s) :=
  i.mono (sameRoutes_of_dests (by simp)) (fun _ _ => complete_active_none) fun _ _ => complete_follow_none

/-- A STEADY destination is on `n`, and a JOINING one joins it. -/
def OnSource (n : SourceNo) (s : State) (d : DestNo) : Prop :=
  match (s.switching.get d).cut with
  | .steady o _ => o = some n
  | .joining _ => (s.dests.get d).current = some n
  | .draining _ _ _ => True

theorem OnSource.congr {n : SourceNo} {s s' : State} {d : DestNo} (h : OnSource n s d)
    (switching : s'.switching.get d = s.switching.get d) (dests : s'.dests = s.dests) : OnSource n s' d := by
  unfold OnSource at *
  rwa [switching, dests]

theorem receives_onSource {s : State} {n : SourceNo} {frameStart : Bool} {d : DestNo} (h : receives s n frameStart d = true) :
    OnSource n s d := by
  unfold receives at h
  unfold OnSource
  split at h
  · next hc => simp only [Bool.and_eq_true, beq_iff_eq] at h; rw [hc, h.1]
  · cases h
  · next hc => rw [hc]; trivial
  · next hc => rw [hc]; simpa using (Bool.and_eq_true_iff.mp h).2

theorem SteadyLaw.forward {s : State} (h : SteadyLaw s) {n : SourceNo} {d : DestNo} (hn : (s.dests.get d).current = some n) :
    SteadyLaw (s.updSwitching d fun _ => { cut := .steady (some n) .forwarding, fill := none }) := by
  refine h.at d (sameRoutes_of_dests rfl) (fun e he => by simp [he, Tbl.get_modify_ne]) ?_
  rw [State.updSwitching_switching, Tbl.get_modify_self, steadyFits_steady rfl]
  exact ⟨hn.symm, .inl rfl, by simp [show (FwdFlag.forwarding == FwdFlag.waiting) = false from rfl]⟩

theorem SteadyLaw.receiveCell {s : State} (h : SteadyLaw s) {n : SourceNo} (locked : Bool) {d : DestNo} (hd : OnSource n s d) :
    SteadyLaw (receiveCell n locked d s) := by
  unfold Machine.receiveCell
  unfold OnSource at hd
  split
  · next hc =>
    rw [hc] at hd
    exact h.forward (((steadyFits_steady hc).mp (h d)).1.symm.trans hd)
  · next hc =>
    rw [hc] at hd
    exact (h.forward hd).complete d _
  · exact h

theorem SteadyLaw.missCell {s : State} (h : SteadyLaw s) {n : SourceNo} (locked : Bool) {d : DestNo} (hd : OnSource n s d) :
    SteadyLaw (missCell n locked d s) := by
  unfold Machine.missCell
  unfold OnSource at hd
  split
  · exact h.breakForwarding d
  · exact h
  · next hc => exact h.enterCut (h.defined (by rw [hc]; rfl)) rfl
  · next hc =>
    rw [hc] at hd
    exact (h.wait _ hd.symm (.inl (h.defined (by rw [hc]; rfl)))).complete d _

theorem SteadyLaw.settleReceivers {s : State} (h : SteadyLaw s) {n : SourceNo} (locked : Bool) (got : List DestNo)
    {receivers : List DestNo} (nodup : receivers.Nodup) (on : ∀ d ∈ receivers, OnSource n s d) :
    SteadyLaw (settleReceivers n locked got receivers s) := by
  induction receivers generalizing s with
  | nil => exact h
  | cons d rest ih =>
    rw [List.nodup_cons] at nodup
    have hd := on d List.mem_cons_self
    unfold Machine.settleReceivers at *
    rw [List.foldl_cons]
    refine ih ?_ nodup.2 fun e he => ?_
    · split
      · exact h.receiveCell locked hd
      · exact h.missCell locked hd
    · have hne : d ≠ e := fun hde => nodup.1 (hde ▸ he)
      have he := on e (List.mem_cons_of_mem _ he)
      split
      · exact he.congr (receiveCell_ne n locked d s hne).1 (by simp)
      · exact he.congr (missCell_ne n locked d s hne).1 (by simp)

theorem IdleLaw.settleReceivers {s : State} (i : IdleLaw s) (n : SourceNo) (locked : Bool) (got receivers : List DestNo) :
    IdleLaw (settleReceivers n locked got receivers s) :=
  foldl_invariant receivers (fun s d _ i => by
    split
    · unfold receiveCell
      split
      · exact i.of_same rfl rfl rfl
      · exact IdleLaw.complete (s := s.updSwitching d _) (i.of_same rfl rfl rfl) d _
      · exact i
    · unfold missCell
      split
      · exact i.of_same (by simp) (by simp) (by simp)
      · exact i
      · exact i.of_same rfl rfl rfl
      · exact IdleLaw.complete (s := armFillLater d (s.updSwitching d _)) (i.of_same (by simp) (by simp) (by simp)) d _) i

/-- Both halves of the law hold. -/
def RestLaw (s : State) : Prop := SteadyLaw s ∧ IdleLaw s

theorem RestLaw.replicate {s : State} (h : RestLaw s) (n : SourceNo) (c : Cell) (pick : PoolNo) : RestLaw (replicate n c pick s) := by
  obtain ⟨got, s₂, e, hs⟩ := replicate_settles n c pick s
  have drained := h.1.drainEnded n c.frameStart
  have hdests : s₂.dests = (drainEnded n c.frameStart s).dests := by rw [hs]
  have hswitching : s₂.switching = (drainEnded n c.frameStart s).switching := by rw [hs]
  rw [e]
  refine ⟨SteadyLaw.settleReceivers (drained.of_same hdests hswitching) _ _ (receivingSet_nodup ..) fun d hd => ?_,
    IdleLaw.settleReceivers (s := s₂) ?_ _ _ _ _⟩
  · exact (receives_onSource (mem_receivingSet.mp hd)).congr (by rw [hswitching]) hdests
  · rw [hs]
    exact h.2.of_same (by simp) (by simp) (by simp)

theorem RestLaw.of_same {s s' : State} (h : RestLaw s) (dests : s'.dests = s.dests) (switching : s'.switching = s.switching)
    (active : s'.active = s.active) (follow : s'.follow = s.follow) : RestLaw s' :=
  ⟨h.1.of_same dests switching, h.2.of_same dests active follow⟩

theorem RestLaw.goodArrival {s : State} (h : RestLaw s) (t : Trunk) (c : Cell) (pick : PoolNo) : RestLaw (goodArrival t c pick s) := by
  have counted : RestLaw (goodCell t (s.updReceiver t fun r => { r with good := bump r.good })) :=
    h.of_same (by simp) (by simp) (by simp) (by simp)
  unfold Machine.goodArrival
  dsimp only
  (repeat' split)
  case isFalse.isTrue =>
    unfold essenceArrival
    dsimp only
    split
    · exact counted.of_same (by simp) (by simp) (by simp) (by simp)
    · exact RestLaw.replicate ⟨counted.1.trackCell counted.2 _ c, counted.2.trackCell _ c⟩ ..
  all_goals exact h.of_same (by simp) (by simp) (by simp) (by simp)

theorem RestLaw.quarantineSources {s : State} (h : RestLaw s) (t : Trunk) : RestLaw (quarantineSources t s) :=
  foldl_invariant _ (fun s n _ h => by
    unfold quarantineSource
    split
    · exact ⟨h.1.enterLost h.2 n, h.2.of_same (by simp) (by simp) (by simp)⟩
    · exact h) h

/-- The record, the FIFO and the arm of a trunk that enters QUARANTINED (R139, stages 1 to 3). -/
def quarantineStages (t : Trunk) (s : State) : State :=
  ((s.updReceiver t fun r => { r with
    state := .quarantined, errors := Config.maxErrors, runLength := 0, runCount := 0, release := false,
    inForce := some r.policy }).updContext t fun x => { x with fifo := [] }).setArm t .clear

/-- Its sources are then lost, and the change is reported (R139, stages 4 and 5). -/
theorem enterQuarantine_eq (t : Trunk) (s : State) : enterQuarantine t s =
    trunkChanged t (s.receivers.get t).state (quarantineSources t (quarantineStages t s)) := rfl

/-- Everything that an errored cell can do: the receive record changes, with its report, or a trunk enters QUARANTINED
(R136, R139–R141). -/
theorem erroredArrival_cases (t : Trunk) (s : State) :
    ∃ s₁, s₁ = { s with receivers := s₁.receivers, contexts := s₁.contexts, arms := s₁.arms, returns := s₁.returns } ∧
      (erroredArrival t s = s₁ ∨ ∃ previous, erroredArrival t s = trunkChanged t previous (quarantineSources t s₁)) := by
  unfold erroredArrival
  dsimp only
  split
  · exact ⟨_, rfl, .inl rfl⟩
  · unfold erroredCell
    dsimp only
    split
    · exact ⟨quarantineStages t (s.updReceiver t fun r => { r with errored := bump r.errored }), rfl, .inr ⟨_, enterQuarantine_eq t _⟩⟩
    · split
      · exact ⟨_, by apply State.ext <;> simp, .inl rfl⟩
      · exact ⟨_, rfl, .inl rfl⟩

theorem RestLaw.erroredArrival {s : State} (h : RestLaw s) (t : Trunk) : RestLaw (erroredArrival t s) := by
  obtain ⟨s₁, hs, e⟩ := erroredArrival_cases t s
  have recorded : RestLaw s₁ := by rw [hs]; exact h
  rcases e with e | ⟨previous, e⟩
  · rwa [e]
  · rw [e]
    exact (recorded.quarantineSources t).of_same (by simp) (by simp) (by simp) (by simp)

/-! ## Takes on defined destinations -/

theorem firstFailure_none {checks : List (Bool × Status)} : firstFailure checks = none ↔ ∀ c ∈ checks, c.1 = false := by
  simp [firstFailure]

/-- What the checks 3 to 5 of R60 establish: the destination is defined, and the source and the guard, unless they are NONE, are
defined and carry its format. -/
theorem requestFailure_none {s : State} {owner : Byte} {flag : Bool} {arm : Arm} {r : Request}
    (h : requestFailure s owner flag arm r = none) :
    (s.dests.get r.dest).format.isSome = true ∧ sourceCarries s (s.dests.get r.dest).format r.source = true ∧
      sourceCarries s (s.dests.get r.dest).format r.guardSource.join = true := by
  simp only [requestFailure, Option.or_eq_none_iff, firstFailure_none, List.mem_cons, List.not_mem_nil, or_false,
    forall_eq_or_imp, forall_eq, Bool.not_eq_false', Bool.and_eq_true] at h
  obtain ⟨⟨hu, -, hc, -⟩, -⟩ := h
  exact ⟨by simpa [← Option.not_isSome] using hu, hc⟩

theorem removeArmed_active_none (d : DestNo) (out : TakeOutcome) {s : State} {e : DestNo} (h : s.active.get e = none) :
    (removeArmed d out s).active.get e = none := by
  rw [removeArmed_get]
  split
  · rfl
  · exact h

theorem removeFollow_follow_none (d : DestNo) (out : TakeOutcome) {s : State} {e : DestNo} (h : s.follow.get e = none) :
    (removeFollow d out s).follow.get e = none := by
  rw [removeFollow_get]
  split
  · rfl
  · exact h

theorem IdleLaw.placeTake {s : State} (i : IdleLaw s) (b : State) {d : DestNo} (hd : (s.dests.get d).format.isSome = true) (k : Take) :
    IdleLaw (placeTake b d k s) := by
  have other {e : DestNo} (he : (s.dests.get e).format = none) : d ≠ e := by rintro rfl; simp [he] at hd
  refine i.mono (sameRoutes_of_dests (by simp)) (fun e he hn => ?_) (fun e he hn => ?_)
  · rw [placeTake_active_get, if_neg (other he), hn]
    split
    · rfl
    · split <;> rfl
  · rw [placeTake_follow_get, if_neg (fun h => other he h.2), hn]

theorem cancelPending_active_none (d : DestNo) (spare : Take → Bool) {s : State} {e : DestNo} (h : s.active.get e = none) :
    (cancelPending d spare s).active.get e = none := by
  unfold cancelPending
  dsimp only
  (repeat' split) <;> simp [h, removeArmed_active_none]

theorem cancelPending_follow_none (d : DestNo) (spare : Take → Bool) {s : State} {e : DestNo} (h : s.follow.get e = none) :
    (cancelPending d spare s).follow.get e = none := by
  unfold cancelPending
  dsimp only
  (repeat' split) <;> simp [h, removeFollow_follow_none]

theorem IdleLaw.cancelPending {s : State} (i : IdleLaw s) (d : DestNo) (spare : Take → Bool) : IdleLaw (cancelPending d spare s) :=
  i.mono (sameRoutes_of_dests (by simp)) (fun _ _ => cancelPending_active_none d spare) fun _ _ => cancelPending_follow_none d spare

theorem cancelAllArmed_active_none {s : State} {e : DestNo} (h : s.active.get e = none) :
    (cancelAllArmed s).active.get e = none := by
  have step (s : State) (d : DestNo) (h : s.active.get e = none) :
      (if isArmed (s.active.get d) then removeArmed d .cancelled s else s).active.get e = none := by
    split
    · exact removeArmed_active_none d _ h
    · exact h
  exact foldl_invariant (P := fun s : State => s.active.get e = none) (List.finRange 128) (fun s d _ => step s d) h

theorem createPair_active_none {k : Take} {a b : DestNo} {s : State} {e : DestNo} (ha : a ≠ e) (hb : b ≠ e)
    (h : s.active.get e = none) : (createPair k a b s).active.get e = none := by
  simp [createPair, ha, hb, h, removeArmed_active_none]

theorem IdleLaw.setActive {s : State} (i : IdleLaw s) {d : DestNo} (hd : (s.dests.get d).format.isSome = true) (o : Option Take) :
    IdleLaw (s.setActive d o) :=
  i.mono (sameRoutes_of_dests rfl) (fun e he hn => by
    have : d ≠ e := by rintro rfl; simp [he] at hd
    simpa [Tbl.get_set, this] using hn) fun _ _ h => h

/-- A destination that holds a take is defined. -/
theorem IdleLaw.defined {s : State} (i : IdleLaw s) {d : DestNo} {k : Take} (h : s.active.get d = some k) :
    (s.dests.get d).format.isSome = true := by
  rw [Option.isSome_iff_ne_none]
  intro hn
  rw [(i d hn).2.1] at h
  cases h

theorem IdleLaw.commitArmed {s : State} (i : IdleLaw s) {d : DestNo} {k : Take} (hk : s.active.get d = some k) :
    IdleLaw (commitArmed d k s) := by
  unfold Machine.commitArmed
  (repeat' split)
  · exact i.setActive (i.defined hk) _
  · exact i.setActive (i.defined hk) _
  · refine i.mono (sameRoutes_of_dests (by simp)) (fun e _ hn => ?_) (fun e _ => by simp)
    simp [removeActive_get, hn]

theorem IdleLaw.commitPair {s : State} (i : IdleLaw s) {d p : DestNo} {k q : Take} (hk : s.active.get d = some k)
    (hq : s.active.get p = some q) : IdleLaw (commitPair d p k q s) := by
  unfold Machine.commitPair
  split
  · exact IdleLaw.setActive (s := s.setActive d _) (i.setActive (i.defined hk) _) (i.defined hq) _
  · exact IdleLaw.setActive (s := s.setActive d _) (i.setActive (i.defined hk) _) (i.defined hq) _

/-! ## The switch event -/

/-- A destination and its switching record replaced by ones that fit. -/
theorem SteadyLaw.replace {s s' : State} (h : SteadyLaw s) (d : DestNo) (dests : ∀ e, d ≠ e → s'.dests.get e = s.dests.get e)
    (switching : ∀ e, d ≠ e → s'.switching.get e = s.switching.get e)
    (this : steadyFits (s'.dests.get d) (s'.switching.get d) = true) : SteadyLaw s' := fun e => by
  by_cases hde : d = e
  · exact hde ▸ this
  · rw [dests e hde, switching e hde]
    exact h e

theorem setCurrent_dests (d : DestNo) (new : Option SourceNo) (s : State) :
    (setCurrent d new s).dests = s.dests.modify d fun x => { x with current := new } := by
  unfold setCurrent moveUsage
  dsimp only
  (repeat' split) <;> rfl

theorem IdleLaw.setCurrent {s : State} (i : IdleLaw s) {d : DestNo} (hd : (s.dests.get d).format.isSome = true)
    (new : Option SourceNo) : IdleLaw (setCurrent d new s) := by
  intro e he
  rw [setCurrent_dests, Tbl.get_modify] at he
  have hne : d ≠ e := by
    rintro rfl
    simp [show (s.dests.get d).format = none by simpa using he] at hd
  rw [if_neg hne] at he
  rw [setCurrent_dests, Tbl.get_modify_ne _ _ hne]
  simpa using i e he

theorem IdleLaw.switchCut {s : State} (i : IdleLaw s) (d : DestNo) (new : Option SourceNo) (x : Time) :
    IdleLaw (switchCut d new x s) := by
  unfold Machine.switchCut
  split
  · split
    · exact IdleLaw.complete (s := armFillNext d _) (i.of_same (by simp) (by simp) (by simp)) d _
    · (repeat' split) <;> exact i.of_same rfl rfl rfl
  · exact i

theorem SteadyLaw.switchCut {s : State} (h : SteadyLaw s) {d : DestNo} (hd : (s.dests.get d).format.isSome = true)
    (steady : (s.switching.get d).cut.inProgress = false) (new : Option SourceNo) (x : Time) :
    SteadyLaw (switchCut d new x (setCurrent d new s)) := by
  have dests (e : DestNo) (he : d ≠ e) : (setCurrent d new s).dests.get e = s.dests.get e := by
    rw [setCurrent_dests, Tbl.get_modify_ne _ _ he]
  have this : (setCurrent d new s).dests.get d = { s.dests.get d with current := new } := by
    rw [setCurrent_dests, Tbl.get_modify_self]
  have enters (c : Cut) (hc : c.inProgress = true) :
      SteadyLaw ((setCurrent d new s).updSwitching d fun w => { w with cut := c }) := by
    refine h.replace d dests (fun e he => by simp [he, Tbl.get_modify_ne]) ?_
    rw [steadyFits_inProgress (by simpa using hc), State.updSwitching_dests, this]
    exact hd
  obtain ⟨old, flag, hc⟩ := cut_inProgress_iff.mp steady
  unfold Machine.switchCut
  rw [show (setCurrent d new s).switching = s.switching by simp, hc]
  dsimp only
  (repeat' split)
  · refine SteadyLaw.complete (h.replace d (fun e he => ?_) (fun e he => ?_) ?_) d _
    · simpa using dests e he
    · simp [armFillNext, he, Tbl.get_modify_ne]
    · rw [steadyFits_steady (n := none) (flag := .waiting) (by simp)]
      simp [armFillNext, this, hd]
  · exact enters _ rfl
  · exact enters _ rfl
  · exact enters _ rfl

theorem RestLaw.switch {s : State} (h : RestLaw s) {d : DestNo} {k : Take} (hk : s.active.get d = some k)
    (steady : (s.switching.get d).cut.inProgress = false) (new : Option SourceNo) (x : Time) :
    RestLaw (switchCut d new x (setCurrent d new s)) :=
  ⟨h.1.switchCut (h.2.defined hk) steady new x, (h.2.setCurrent (h.2.defined hk) new).switchCut d new x⟩

theorem RestLaw.giveUpJoining {s : State} (h : RestLaw s) {d : DestNo} (hd : (s.dests.get d).format.isSome = true) :
    RestLaw (giveUpJoining d s) := by
  unfold Machine.giveUpJoining
  have waits := h.1.wait (s.houseTime + 1) (n := (s.dests.get d).current) rfl (.inl hd)
  refine ⟨SteadyLaw.complete (waits.of_same (by simp [armFillNext]) (armFillNext_postFill_switching ..)) d _,
    IdleLaw.complete (s := armFillNext d _) (h.2.of_same (by simp) (by simp) (by simp)) d _⟩

/-! ## Definitions and resets -/

theorem destInUse_false {s : State} {d : DestNo} {format : Option FormatNo} (h : destInUse s d format = false)
    (hf : (s.dests.get d).format ≠ format) :
    (s.dests.get d).current = none ∧ s.active.get d = none ∧ s.follow.get d = none := by
  simpa [destInUse, hf, and_assoc] using h

@[simp] theorem storeClass_dests (d : DestNo) (c : DestClass) (s : State) : (storeClass d c s).dests =
    s.dests.modify d fun x => { x with cls := c, recording := recordingFails x && c == .recorder } := by
  unfold storeClass
  dsimp only
  split <;> simp

theorem storeClass_routes (d : DestNo) (c : DestClass) (s : State) : SameRoutes s (storeClass d c s) := fun e => by
  rw [storeClass_dests, Tbl.get_modify]
  split <;> exact ⟨rfl, rfl⟩

theorem RestLaw.of_routes {s s' : State} (h : RestLaw s) (routes : SameRoutes s s') (switching : s'.switching = s.switching)
    (active : s'.active = s.active) (follow : s'.follow = s.follow) : RestLaw s' :=
  ⟨h.1.of_routes routes fun d hd => by rwa [switching], h.2.mono routes (fun d _ hd => by rwa [active]) fun d _ hd => by rwa [follow]⟩


/-- The law of modes keeps a destination without a take out of a cut. -/
theorem ModeLaw.steady {s : State} (m : ModeLaw s) {d : DestNo} (h : s.active.get d = none) :
    (s.switching.get d).cut.inProgress = false := by
  by_contra hc
  have := m.cutHasTake d (by simpa using hc)
  rw [h] at this
  cases this

theorem RestLaw.undefineDest {s : State} (h : RestLaw s) (m : ModeLaw s) {d : DestNo} (hc : (s.dests.get d).current = none)
    (ha : s.active.get d = none) (hf : s.follow.get d = none) : RestLaw (undefineDest d s) := by
  refine ⟨h.1.replace d (fun e he => ?_) (fun e he => ?_) ?_, fun e he => ?_⟩
  · simp [Machine.undefineDest, he, Tbl.get_modify_ne]
  · simp [Machine.undefineDest, he, Tbl.get_modify_ne]
  · obtain ⟨n, flag, hn⟩ := cut_inProgress_iff.mp (m.steady ha)
    obtain ⟨hcur, hw, -⟩ := (steadyFits_steady hn).mp (h.1 d)
    rw [steadyFits_steady (n := n) (flag := flag) (by simpa using hn)]
    simp [Machine.undefineDest, hcur, hc] at hw ⊢
    exact hw
  · by_cases hde : d = e
    · subst hde
      simp [Machine.undefineDest, hc, ha, hf]
    · simp only [Machine.undefineDest, State.updSwitching_dests, State.updDest_dests, Tbl.get_modify_ne _ _ hde] at he ⊢
      simpa using h.2 e he

/-- The destination as `formatDest` stores it. -/
theorem formatDest_dests (d : DestNo) (f : FormatNo) (o : Int) (s : State) : (formatDest d f o s).dests =
    s.dests.modify d fun x => { x with format := some f, offset := o } := by
  unfold formatDest
  dsimp only
  (repeat' split) <;> simp

@[simp] theorem formatDest_follow (d : DestNo) (f : FormatNo) (o : Int) (s : State) : (formatDest d f o s).follow = s.follow := by
  simp

theorem formatDest_active_none (d : DestNo) (f : FormatNo) (o : Int) {s : State} {e : DestNo} (h : s.active.get e = none) :
    (formatDest d f o s).active.get e = none := by
  unfold formatDest offsetMoved
  dsimp only
  (repeat' split) <;> simp [h, recomputeTakes_active_none]

/-- An UNDEFINED destination that is given a format starts its fill timer; another keeps it as it is, active or not. -/
theorem formatDest_fill_isSome (d : DestNo) (f : FormatNo) (o : Int) (s : State) (e : DestNo) :
    ((formatDest d f o s).switching.get e).fill.isSome =
      ((s.switching.get e).fill.isSome || (d == e && (s.dests.get d).format.isNone)) := by
  unfold formatDest
  dsimp only
  split
  · next hf =>
    by_cases hde : d = e
    · subst hde
      simp [armFillNext, hf]
    · simp [armFillNext, hf, hde]
  · next g hf =>
    (repeat' split) <;> simp [hf, offsetMoved]

theorem RestLaw.formatDest {s : State} (h : RestLaw s) (d : DestNo) (f : FormatNo) (o : Int) : RestLaw (formatDest d f o s) := by
  have dests (e : DestNo) (he : d ≠ e) : (Machine.formatDest d f o s).dests.get e = s.dests.get e := by
    rw [formatDest_dests, Tbl.get_modify_ne _ _ he]
  have this : (Machine.formatDest d f o s).dests.get d = { s.dests.get d with format := some f, offset := o } := by
    rw [formatDest_dests, Tbl.get_modify_self]
  constructor
  · intro e
    by_cases hde : d = e
    · subst hde
      rw [this]
      cases hc : (s.switching.get d).cut.inProgress with
      | true => rw [steadyFits_inProgress (by simpa using hc)]; rfl
      | false =>
        obtain ⟨n, flag, hn⟩ := cut_inProgress_iff.mp hc
        obtain ⟨hcur, hw, hfill⟩ := (steadyFits_steady hn).mp (h.1 d)
        rw [steadyFits_steady (n := n) (flag := flag) (by simpa using hn), formatDest_fill_isSome, hfill]
        refine ⟨hcur, hw, ?_⟩
        cases hf : (s.dests.get d).format with
        | some g => simp
        | none =>
          have : flag = .waiting := by
            rcases hw with hw | hw
            · rw [hcur, (h.2 d hf).1] at hw
              cases hw
            · exact hw
          simp [this]
    · rw [dests e hde, steadyFits_of_cut (formatDest_cut d f o s e) (by simp [formatDest_fill_isSome, hde])]
      exact h.1 e
  · intro e he
    have hne : d ≠ e := by rintro rfl; rw [this] at he; cases he
    rw [dests e hne] at he ⊢
    obtain ⟨hc, ha, hf⟩ := h.2 e he
    exact ⟨hc, formatDest_active_none d f o ha, by rw [formatDest_follow, hf]⟩

theorem RestLaw.defineDest {s : State} (h : RestLaw s) (m : ModeLaw s) {d : DestNo} {format : Option FormatNo} (c : DestClass)
    (offset : Int) (idle : destInUse s d format = false) : RestLaw (defineDest d format c offset s).state := by
  have stored : RestLaw (storeClass d c s) := h.of_routes (storeClass_routes d c s) (by simp) (by simp) (by simp)
  rw [defineDest_state]
  cases format with
  | some f => exact stored.formatDest d f _
  | none =>
    dsimp only
    split
    · next hf =>
      obtain ⟨hc, ha, hw⟩ := destInUse_false idle (Option.isSome_iff_ne_none.mp hf)
      refine stored.undefineDest (m.of_sameCuts ⟨fun e => by simp, fun e => by simp⟩ (by simp)) ?_ ?_ ?_
      · rw [(storeClass_routes d c s d).2, hc]
      · simpa using ha
      · simpa using hw
    · exact stored

theorem warmRecords_dests (s : State) : (warmRecords s).dests = s.dests := by simp

theorem RestLaw.warmReset {s : State} (h : RestLaw s) : RestLaw (warmReset s) := by
  constructor
  · intro d
    rw [show (Machine.warmReset s).dests = s.dests by simp, warmReset_switching, steadyFits_steady rfl, warmRecords_dests]
    cases hf : (s.dests.get d).format with
    | none => simp [warmSwitching, warmFill, hf, (h.2 d hf).1]
    | some f => cases hc : (s.dests.get d).current <;> simp [warmSwitching, warmFill, hf, hc]
  · intro d hd
    rw [show (Machine.warmReset s).dests = s.dests by simp] at hd ⊢
    refine ⟨(h.2 d hd).1, ?_, ?_⟩ <;> simp [Machine.warmReset, warmRecords]

theorem RestLaw.storeFormat {s : State} (h : RestLaw s) (n : SourceNo) (f : Option FormatNo) : RestLaw (storeFormat n f s) := by
  unfold Machine.storeFormat
  dsimp only
  split
  · exact h
  · have redefined : RestLaw (s.updSource n (·.redefined f)) := h.of_same rfl rfl rfl rfl
    have changed : RestLaw (sourceChanged n (s.sources.get n).state (s.updSource n (·.redefined f))) :=
      ⟨redefined.1.sourceChanged redefined.2 n _, redefined.2.of_same (by simp) (by simp) (by simp)⟩
    exact changed.of_same (by simp) (by simp) (by simp) (by simp)

theorem RestLaw.displayVacated {s : State} (h : RestLaw s) (before : State) : RestLaw (displayVacated before s) :=
  h.of_same (by simp) (by simp) (by simp) (by simp)

theorem RestLaw.placeTake {s : State} (h : RestLaw s) (b : State) {d : DestNo} (hd : (s.dests.get d).format.isSome = true) (k : Take) :
    RestLaw (placeTake b d k s) :=
  ⟨h.1.of_same (by simp) (by simp), h.2.placeTake b hd k⟩

theorem RestLaw.cancelPending {s : State} (h : RestLaw s) (d : DestNo) (spare : Take → Bool) : RestLaw (cancelPending d spare s) :=
  ⟨h.1.of_same (by simp) (by simp), h.2.cancelPending d spare⟩

theorem RestLaw.createPair {s : State} (h : RestLaw s) (k : Take) {a b : DestNo} (ha : (s.dests.get a).format.isSome = true)
    (hb : (s.dests.get b).format.isSome = true) : RestLaw (createPair k a b s) := by
  refine ⟨h.1.of_same (by simp) (by simp), h.2.mono (sameRoutes_of_dests (by simp)) (fun e he hn => ?_) fun e _ => by simp⟩
  refine createPair_active_none ?_ ?_ hn
  · rintro rfl; simp [he] at ha
  · rintro rfl; simp [he] at hb

/-- A fold of placements on defined destinations. -/
theorem RestLaw.foldl_place {α : Type} {l : List α} {s : State} (h : RestLaw s) (place : State → α → State)
    (step : ∀ s₁, ∀ x ∈ l, RestLaw s₁ → s₁.dests = s.dests → RestLaw (place s₁ x))
    (dests : ∀ s₁ x, (place s₁ x).dests = s₁.dests) : RestLaw (l.foldl place s) :=
  (foldl_invariant (P := fun s₁ => RestLaw s₁ ∧ s₁.dests = s.dests) l
    (fun s₁ x hx hs => ⟨step s₁ x hx hs.1 hs.2, (dests s₁ x).trans hs.2⟩) ⟨h, rfl⟩).1

@[simp] theorem Cut.shifted_steady (n : Option SourceNo) (flag : FwdFlag) (x : Time) :
    (Cut.steady n flag).shifted x = .steady n flag := rfl

theorem steadyFits_shifted (x : Dest) (w : Switching) (y : Time) :
    steadyFits x { cut := w.cut.shifted y, fill := w.fill.map (· + y) } = steadyFits x w := by
  unfold steadyFits
  cases w.cut <;> simp [Cut.shifted]

theorem RestLaw.timeset {s : State} (h : RestLaw s) (v : Time) : RestLaw (shiftTimes v (Machine.displayVacated s (cancelAllArmed s))) := by
  refine ⟨h.1.of_routes (sameRoutes_of_dests (by simp)) fun d hd => ?_,
    h.2.mono (sameRoutes_of_dests (by simp)) (fun d _ hn => ?_) fun d _ => by simp⟩
  · simpa [shiftTimes, steadyFits_shifted] using hd
  · simpa using cancelAllArmed_active_none hn

theorem clampOffsets_routes (f : FormatNo) (s : State) : SameRoutes s (clampOffsets f s) := fun d => by
  simp only [clampOffsets, Tbl.get_map]
  split <;> exact ⟨rfl, rfl⟩

/-- A format given new values, with its tracking state and the offsets of its destinations (R7). -/
def formatStored (f : FormatNo) (c : Cadence) (s : State) : State :=
  clampOffsets f ((s.updFormat f (·.redefined c)).updFormat f fun x => { x with tracking := isTracking s.sources f x })

/-- Then the ARMED takes and the active fill timers of its destinations follow (R7). -/
theorem redefineFormat_eq (f : FormatNo) (c : Cadence) (s : State) : redefineFormat f c s =
    realignFill (hasFormat (formatStored f c s) f) (recomputeTakes (hasFormat (formatStored f c s) f) (formatStored f c s)) := rfl

theorem RestLaw.redefineFormat {s : State} (h : RestLaw s) (f : FormatNo) (c : Cadence) : RestLaw (redefineFormat f c s) := by
  have stored : RestLaw (formatStored f c s) :=
    RestLaw.of_routes (s := (s.updFormat f _).updFormat f _) (h.of_same rfl rfl rfl rfl) (clampOffsets_routes f _) rfl rfl rfl
  rw [redefineFormat_eq]
  have recomputed : RestLaw (recomputeTakes (hasFormat (formatStored f c s) f) (formatStored f c s)) :=
    ⟨stored.1.of_same (by simp) (by simp), stored.2.mono (sameRoutes_of_dests (by simp))
      (fun d _ => recomputeTakes_active_none _ _) fun d _ => by simp⟩
  exact ⟨recomputed.1.realignFill _, recomputed.2.of_same (by simp) (by simp) (by simp)⟩

theorem updDest_routes (d : DestNo) {g : Dest → Dest} (s : State) (hg : ∀ x, (g x).format = x.format ∧ (g x).current = x.current) :
    SameRoutes s (s.updDest d g) := fun e => by
  rw [State.updDest_dests, Tbl.get_modify]
  split
  · rw [(hg _).1, (hg _).2]; exact ⟨rfl, rfl⟩
  · exact ⟨rfl, rfl⟩

@[simp] theorem storeProtection_dests (d : DestNo) (p : Protection) (owner : Byte) (s : State) :
    (storeProtection d p owner s).dests = s.dests.modify d fun x => { x with protection := p, owner } := by
  unfold storeProtection
  dsimp only
  split <;> simp

theorem storeProtection_routes (d : DestNo) (p : Protection) (owner : Byte) (s : State) :
    SameRoutes s (storeProtection d p owner s) := fun e => by
  rw [storeProtection_dests, Tbl.get_modify]
  split <;> exact ⟨rfl, rfl⟩

theorem RestLaw.displayRecording {s : State} (h : RestLaw s) (d : DestNo) (was on : Bool) : RestLaw (displayRecording d was on s) :=
  h.of_same (by simp) (by simp) (by simp) (by simp)

theorem RestLaw.storeRecording {s : State} (h : RestLaw s) (d : DestNo) (on : Bool) : RestLaw (storeRecording d on s) :=
  h.of_routes (updDest_routes d s fun _ => ⟨rfl, rfl⟩) rfl rfl rfl

theorem RestLaw.fill {s : State} (h : RestLaw s) {d : DestNo} (active : (s.switching.get d).fill.isSome = true) :
    RestLaw (armFillNext d (postFill d s)) := by
  refine ⟨h.1.of_routes (sameRoutes_of_dests (by simp)) fun e he => ?_, h.2.of_same (by simp) (by simp) (by simp)⟩
  rw [armFillNext_postFill_switching]
  rwa [steadyFits_of_cut (armFillNext_cut d s e)]
  by_cases hde : d = e
  · subst hde
    simp [armFillNext, active]
  · simp [armFillNext, hde]

/-! ## Every effect -/

theorem RestLaw.effect {s s' : State} (h : RestLaw s) (m : ModeLaw s) (e : Effect s s') : RestLaw s' := by
  cases e with
  | same => exact h
  | place t tag checked => exact (h.placeTake s (requestFailure_none checked).1 _).displayVacated s
  | cancel d => exact (h.cancelPending d _).displayVacated s
  | sweep t tag checked =>
    refine RestLaw.displayVacated (h.foldl_place _ (fun s₁ d hd h₁ hs => ?_) fun s₁ d => by simp) s
    exact h₁.placeTake s (by rw [hs]; exact (requestFailure_none (checked d hd)).1) _
  | swap t tag ne checked =>
    obtain ⟨ha, hab, -⟩ := swapFailure_none checked
    exact h.createPair _ ha (hab ▸ ha)
  | fire t tag loaded checked =>
    refine RestLaw.displayVacated (RestLaw.foldl_place (s := s.updSalvo _ _) (h.of_same rfl rfl rfl rfl) _
      (fun s₁ x hx h₁ hs => ?_) fun s₁ x => by simp) s
    refine RestLaw.placeTake (s := s₁.updSalvo _ _) (h₁.of_same rfl rfl rfl rfl) s ?_ _
    rw [State.updSalvo_dests, hs]
    exact (requestFailure_none (checked x hx)).1
  | destDefine c offset held defined idle => exact h.defineDest m c offset idle
  | goodArrival t c pick => exact h.goodArrival t c pick
  | erroredArrival t => exact h.erroredArrival t
  | commit holds armed _ => exact ⟨h.1.of_same (by simp) (by simp), h.2.commitArmed holds⟩
  | commitPair holds bound partner => exact ⟨h.1.of_same (by simp) (by simp), h.2.commitPair holds partner⟩
  | switch x holds committed steady => exact h.switch holds steady _ x
  | lost => exact ⟨h.1.enterLost h.2 _, h.2.of_same (by simp) (by simp) (by simp)⟩
  | drained hc => exact ⟨h.1.enterCut (h.1.defined (by rw [hc]; rfl)) rfl, h.2.of_same rfl rfl rfl⟩
  | giveUp hc => exact h.giveUpJoining (h.1.defined (by rw [hc]; rfl))
  | fill active => exact h.fill active
  | warmReset => exact h.warmReset
  | resetLine b => exact ⟨fun d => by simp [State.reset]; rfl, fun d _ => by simp [State.reset, Dest.reset]⟩
  | timeset v held => exact h.timeset v
  | redefine => exact h.redefineFormat _ _
  | resume =>
    refine ⟨h.1.of_same (by simp) (by simp), h.2.mono (sameRoutes_of_dests (by simp)) (fun d _ hn => ?_) fun d _ => by simp⟩
    simp [retargetAll, hn]
  | protection fits => exact h.of_routes (storeProtection_routes _ _ _ _) (by simp) (by simp) (by simp)
  | recordOn =>
    rw [recordOn_state]
    exact (((h.storeRecording _ true).cancelPending _ _).displayRecording _ _ _).displayVacated s
  | recordOff =>
    rw [recordOff_state]
    exact (h.storeRecording _ false).displayRecording _ _ _
  | @sourceDefine n f label => exact (h.storeFormat n f).of_same (by simp) (by simp) (by simp) (by simp)
  | _ => exact h.of_same (by simp) (by simp) (by simp) (by simp)

/-- Settles O9: with the law of modes, no effect leaves a STEADY destination off its source, or a fill timer out of step. -/
theorem switchLawKept : Obligations.SwitchLawKept := by
  unfold Obligations.SwitchLawKept
  intro s s' m h hs
  have kept := step_keeps (P := fun s => ModeLaw s ∧ RestLaw s) (fun s l h => ⟨⟨h.1.1, h.1.2, h.1.3⟩, h.2⟩)
    (fun s t h => ⟨h.1.of_sameCuts ⟨fun e => by simp, fun e => by simp⟩ (by simp), h.2.of_same (by simp) (by simp) (by simp) (by simp)⟩)
    (fun s t r h => ⟨h.1.of_sameCuts ⟨fun e => by simp, fun e => by simp⟩ (by simp), h.2.of_same (by simp) (by simp) (by simp) (by simp)⟩)
    (fun s s' h e => ⟨h.1.effect e, h.2.effect h.1 e⟩) ⟨m, switchLaw_iff.mp h⟩ hs
  exact switchLaw_iff.mpr kept.2

end Sys2Proof.Machine
end

section
/-! SUPPORT. The take positions (4.1, R58, R63, R120) and the salvo slots (6.1, R104) under every operation that places, moves, ends or
removes takes. -/

namespace Sys2Proof.Machine

/-! ## The law of takes, destination by destination -/

/-- The two positions of one destination fit (R58, R63, R119, R120). -/
structure TakeFits (s : State) (d : DestNo) : Prop where
  active : ∀ k, s.active.get d = some k → activeFits k = true
  follow : ∀ k, s.follow.get d = some k → followFits k = true ∧ isCommitted (s.active.get d) = true
  bound : ∀ k p, s.active.get d = some k → k.state = .armed → k.partner = some p →
    boundPartner s d = some p ∧ p ≠ d ∧ (s.dests.get p).format = (s.dests.get d).format

theorem takeLaw_iff {s : State} : TakeLaw s ↔ ∀ d, TakeFits s d :=
  ⟨fun h d => ⟨h.active d, h.follow d, h.bound d⟩, fun h => ⟨fun d => (h d).active, fun d => (h d).follow, fun d => (h d).bound⟩⟩

theorem boundPartner_iff {s : State} {d p : DestNo} : boundPartner s d = some p ↔
    ∃ k q, s.active.get d = some k ∧ s.active.get p = some q ∧ k.state = .armed ∧ q.state = .armed ∧ k.partner = some p ∧
      q.partner = some d :=
  ⟨boundPartner_some, fun ⟨k, q, hk, hq, ka, qa, kp, qp⟩ => by simp [boundPartner, hk, hq, ka, qa, kp, qp]⟩

theorem boundPartner_congr {s s' : State} (h : s'.active = s.active) (d : DestNo) : boundPartner s' d = boundPartner s d := by
  unfold boundPartner
  rw [h]

/-- Only an ARMED take is bound. -/
theorem boundPartner_not_armed {s : State} {d : DestNo} (h : isArmed (s.active.get d) = false) : boundPartner s d = none := by
  by_contra hn
  obtain ⟨p, hp⟩ := Option.ne_none_iff_exists'.mp hn
  obtain ⟨k, -, hk, -, ka, -⟩ := boundPartner_some hp
  rw [Bool.eq_false_iff] at h
  exact h (isArmed_iff.mpr ⟨k, hk, ka⟩)

theorem isArmed_of_committed {o : Option Take} (h : isCommitted o = true) : isArmed o = false := by
  obtain ⟨k, rfl, hk⟩ := isCommitted_iff.mp h
  simp [isArmed, hk]

theorem TakeLaw.of_same {s s' : State} (h : TakeLaw s) (active : s'.active = s.active) (follow : s'.follow = s.follow)
    (format : ∀ d, (s'.dests.get d).format = (s.dests.get d).format) : TakeLaw s' where
  active := by rw [active]; exact h.active
  follow := by rw [active, follow]; exact h.follow
  bound d k p := by rw [active, boundPartner_congr active, format, format]; exact h.bound d k p

/-- A FOLLOW take stands behind a COMMITTED one alone. -/
theorem TakeLaw.follow_none {s : State} (h : TakeLaw s) {d : DestNo} (hd : isCommitted (s.active.get d) = false) :
    s.follow.get d = none := by
  by_contra hn
  obtain ⟨k, hk⟩ := Option.ne_none_iff_exists'.mp hn
  rw [(h.follow d k hk).2] at hd
  cases hd

/-- A change of some destinations, bound to no others, keeps the law when they fit afterwards. -/
theorem TakeLaw.change {s s' : State} (h : TakeLaw s) (D : DestNo → Prop) (closed : ∀ d e, D d → boundPartner s d = some e → D e)
    (active : ∀ e, ¬D e → s'.active.get e = s.active.get e) (follow : ∀ e, ¬D e → s'.follow.get e = s.follow.get e)
    (format : ∀ e, ¬D e → (s'.dests.get e).format = (s.dests.get e).format) (inside : ∀ d, D d → TakeFits s' d) : TakeLaw s' := by
  rw [takeLaw_iff]
  intro d
  by_cases hd : D d
  · exact inside d hd
  · refine ⟨by rw [active d hd]; exact h.active d, by rw [active d hd, follow d hd]; exact h.follow d, fun k p hk ka kp => ?_⟩
    rw [active d hd] at hk
    obtain ⟨hb, hne, hf⟩ := h.bound d k p hk ka kp
    have hp : ¬D p := fun hp => hd (closed p d hp (boundPartner_symm hb))
    refine ⟨?_, hne, by rw [format p hp, format d hd, hf]⟩
    rw [boundPartner_iff, active d hd, active p hp]
    exact boundPartner_iff.mp hb

/-- The same for one destination that is bound to none. -/
theorem TakeLaw.change_one {s s' : State} (h : TakeLaw s) (d : DestNo) (unbound : boundPartner s d = none)
    (active : ∀ e, d ≠ e → s'.active.get e = s.active.get e) (follow : ∀ e, d ≠ e → s'.follow.get e = s.follow.get e)
    (format : ∀ e, d ≠ e → (s'.dests.get e).format = (s.dests.get e).format) (this : TakeFits s' d) : TakeLaw s' :=
  h.change (d = ·) (fun _ e hd he => by subst hd; rw [unbound] at he; cases he) active follow format fun _ he => he ▸ this

/-- An empty destination fits. -/
theorem TakeFits.empty {s : State} {d : DestNo} (ha : s.active.get d = none) (hf : s.follow.get d = none) : TakeFits s d :=
  ⟨fun k hk => by simp [ha] at hk, fun k hk => by simp [hf] at hk, fun k p hk => by simp [ha] at hk⟩

/-- A destination with a single take and no FOLLOW take fits. -/
theorem TakeFits.single {s : State} {d : DestNo} {k : Take} (ha : s.active.get d = some k) (hf : s.follow.get d = none)
    (fits : activeFits k = true) (single : k.state = .armed → k.partner = none) : TakeFits s d where
  active q hq := by rw [ha] at hq; cases hq; exact fits
  follow q hq := by rw [hf] at hq; cases hq
  bound q p hq qa qp := by rw [ha] at hq; cases hq; rw [single qa] at qp; cases qp

/-! ## Changes that keep every take's role -/

/-- A take changed in nothing that the law or a salvo slot looks at. -/
structure SameRole (k k' : Take) : Prop where
  state : k'.state = k.state
  partner : k'.partner = k.partner
  salvo : k'.salvo = k.salvo
  fits : activeFits k = true → activeFits k' = true

theorem SameRole.refl (k : Take) : SameRole k k := ⟨rfl, rfl, rfl, id⟩

/-- Every active position holds a take of the same role, or none as before. -/
def SameRoles (s s' : State) : Prop := ∀ d, ∃ f : Take → Take, s'.active.get d = (s.active.get d).map f ∧
  ∀ k, s.active.get d = some k → SameRole k (f k)

theorem SameRoles.role {s s' : State} (h : SameRoles s s') {d : DestNo} {k' : Take} (hk : s'.active.get d = some k') :
    ∃ k, s.active.get d = some k ∧ SameRole k k' := by
  obtain ⟨f, hf, hr⟩ := h d
  rw [hf, Option.map_eq_some_iff] at hk
  obtain ⟨k, hk, rfl⟩ := hk
  exact ⟨k, hk, hr k hk⟩

theorem SameRoles.image {s s' : State} (h : SameRoles s s') {d : DestNo} {k : Take} (hk : s.active.get d = some k) :
    ∃ k', s'.active.get d = some k' ∧ SameRole k k' := by
  obtain ⟨f, hf, hr⟩ := h d
  exact ⟨f k, by rw [hf, hk]; rfl, hr k hk⟩

theorem TakeLaw.of_roles {s s' : State} (h : TakeLaw s) (roles : SameRoles s s') (follow : s'.follow = s.follow)
    (format : ∀ d k, s.active.get d = some k → (s'.dests.get d).format = (s.dests.get d).format) : TakeLaw s' where
  active d k' hk' := by
    obtain ⟨k, hk, r⟩ := roles.role hk'
    exact r.fits (h.active d k hk)
  follow d q hq := by
    rw [follow] at hq
    obtain ⟨fits, hc⟩ := h.follow d q hq
    obtain ⟨k, hk, ks⟩ := isCommitted_iff.mp hc
    obtain ⟨k', hk', r⟩ := roles.image hk
    exact ⟨fits, isCommitted_iff.mpr ⟨k', hk', r.state.trans ks⟩⟩
  bound d k' p hk' ka kp := by
    obtain ⟨k, hk, r⟩ := roles.role hk'
    obtain ⟨hb, hne, hf⟩ := h.bound d k p hk (r.state.symm.trans ka) (r.partner.symm.trans kp)
    obtain ⟨-, q, -, hq, -, qs, -, qp⟩ := boundPartner_some hb
    obtain ⟨q', hq', t⟩ := roles.image hq
    refine ⟨boundPartner_iff.mpr ⟨k', q', hk', hq', ka, t.state.trans qs, kp, t.partner.trans qp⟩, hne, ?_⟩
    rw [format p q hq, format d k hk, hf]

theorem armedTake_role {s : State} {d : DestNo} {k k₀ : Take} (ha : k₀.state = .armed) (hp : k.partner = k₀.partner)
    (hs : k.salvo = k₀.salvo) (hn : k.source = k₀.source) : SameRole k₀ (armedTake s d k) where
  state := ha.symm
  partner := hp
  salvo := hs
  fits h := by simp_all [activeFits, armedTake]

theorem recomputed_role {s : State} {d : DestNo} {k : Take} (ha : k.state = .armed) : SameRole k (recomputed s d k) := by
  unfold recomputed retargeted
  split <;> exact armedTake_role ha rfl rfl rfl

theorem recomputeTakes_roles (p : DestNo → Bool) (s : State) : SameRoles s (recomputeTakes p s) := fun d => by
  rw [recomputeTakes_get]
  split
  · refine ⟨_, rfl, fun k _ => ?_⟩
    split
    · exact recomputed_role ‹_›
    · exact .refl k
  · exact ⟨id, by simp, fun k _ => .refl k⟩

theorem retargetAll_roles (s : State) : SameRoles s (retargetAll s) := fun d => by
  rw [retargetAll_get]
  split
  · next hr =>
    obtain ⟨k₀, hk₀, ka⟩ := resumes_armed hr
    refine ⟨_, rfl, fun k hk => ?_⟩
    cases hk₀.symm.trans hk
    exact armedTake_role ka rfl rfl rfl
  · exact ⟨id, by simp, fun k _ => .refl k⟩

theorem setActive_roles {s : State} {d : DestNo} {k k' : Take} (hk : s.active.get d = some k) (r : SameRole k k') :
    SameRoles s (s.setActive d (some k')) := fun e => by
  rw [State.setActive_active, Tbl.get_set]
  split
  · next hde =>
    subst hde
    refine ⟨fun _ => k', by rw [hk]; rfl, fun q hq => ?_⟩
    cases hk.symm.trans hq
    exact r
  · exact ⟨id, by simp, fun k _ => .refl k⟩

theorem sameRoles_of_active {s s' : State} (h : s'.active = s.active) : SameRoles s s' := fun d =>
  ⟨id, by rw [h]; simp, fun k _ => .refl k⟩

theorem SameRoles.trans {s s' s'' : State} (h : SameRoles s s') (h' : SameRoles s' s'') : SameRoles s s'' := fun d => by
  obtain ⟨f, hf, hr⟩ := h d
  obtain ⟨g, hg, ht⟩ := h' d
  refine ⟨g ∘ f, by rw [hg, hf, Option.map_map], fun k hk => ?_⟩
  have t := ht (f k) (by rw [hf, hk]; rfl)
  have r := hr k hk
  exact ⟨t.state.trans r.state, t.partner.trans r.partner, t.salvo.trans r.salvo, t.fits ∘ r.fits⟩

/-! ## Removal -/

theorem TakeLaw.removeActive {s : State} (h : TakeLaw s) {d : DestNo} (unbound : boundPartner s d = none)
    (hd : isCommitted (s.active.get d) = false) (out : TakeOutcome) : TakeLaw (removeActive d out s) :=
  h.change_one d unbound (fun e he => by rw [removeActive_get, if_neg he]) (fun e _ => by simp) (fun e _ => by simp)
    (.empty (by simp [removeActive_get]) (by simpa using h.follow_none hd))

theorem TakeLaw.removeArmed {s : State} (h : TakeLaw s) {d : DestNo} (hd : isCommitted (s.active.get d) = false) (out : TakeOutcome) :
    TakeLaw (removeArmed d out s) := by
  refine h.change (fun e => d = e ∨ boundPartner s d = some e) (fun x e hx he => ?_) (fun e he => ?_) (fun e _ => by simp)
    (fun e _ => by simp) (fun e he => ?_)
  · rcases hx with rfl | hx
    · exact .inr he
    · rw [boundPartner_symm hx] at he
      cases he
      exact .inl rfl
  · rw [removeArmed_get, if_neg he]
  · refine .empty (by rw [removeArmed_get, if_pos he]) ?_
    rw [show (Machine.removeArmed d out s).follow = s.follow by simp]
    refine h.follow_none ?_
    rcases he with rfl | he
    · exact hd
    · obtain ⟨-, q, -, hq, -, qa, -⟩ := boundPartner_some he
      rw [hq, not_committed_of_armed qa]

/-- After a removal nothing is bound to the destination. -/
theorem removeArmed_unbound (d : DestNo) (out : TakeOutcome) (s : State) : boundPartner (removeArmed d out s) d = none :=
  boundPartner_empty (by rw [removeArmed_get, if_pos (.inl rfl)])

theorem TakeLaw.removeFollow {s : State} (h : TakeLaw s) (d : DestNo) (out : TakeOutcome) : TakeLaw (removeFollow d out s) where
  active := by simpa using h.active
  follow e k hk := by
    rw [removeFollow_get] at hk
    split at hk
    · cases hk
    · simpa using h.follow e k hk
  bound e k p := by
    rw [boundPartner_congr (s := s) (by simp)]
    simpa using h.bound e k p

theorem TakeLaw.cancelPending {s : State} (h : TakeLaw s) (d : DestNo) (spare : Take → Bool) : TakeLaw (cancelPending d spare s) := by
  have removed : TakeLaw (if removesArmed s d spare then Machine.removeArmed d .cancelled s else s) := by
    split
    · next hr =>
      obtain ⟨k, hk, ka, -⟩ := removesArmed_iff.mp hr
      exact h.removeArmed (by rw [hk, not_committed_of_armed ka]) _
    · exact h
  unfold Machine.cancelPending
  dsimp only
  split
  · exact removed.removeFollow d _
  · exact removed

theorem TakeLaw.cancelAllArmed {s : State} (h : TakeLaw s) : TakeLaw (cancelAllArmed s) :=
  foldl_invariant (List.finRange 128) (fun s d _ h => by
    split
    · next ha =>
      obtain ⟨k, hk, ka⟩ := isArmed_iff.mp ha
      exact h.removeArmed (by rw [hk, not_committed_of_armed ka]) _
    · exact h) h

/-! ## Placement -/

/-- A take fit to be placed on its own, ARMED or FOLLOW: with a source, no SWAP half, not deferred. -/
structure Placeable (k : Take) : Prop where
  source : k.source ≠ .unfixed
  partner : k.partner = none
  deferred : k.deferred = false

theorem newTake_placeable (t : Trunk) (tag : Tag) (n : Option SourceNo) (g : Option (Option SourceNo)) (x : Target) (b : Bool)
    (slot : Option SlotNo) : Placeable { newTake t tag (.fixed n) g x b with salvo := slot } := ⟨by simp [newTake], rfl, rfl⟩

theorem armedTake_fits {s : State} {d : DestNo} {k : Take} (hs : k.source ≠ .unfixed) (hp : k.partner = none) :
    activeFits (armedTake s d k) = true := by simp [activeFits, armedTake, hs, hp]

/-- A destination behind whose active take a new one is placed as FOLLOW holds a COMMITTED take. -/
theorem TakeLaw.committed_of_placesFollow {s : State} (h : TakeLaw s) {d : DestNo} (hf : placesFollow s d = true) :
    isCommitted (s.active.get d) = true := by
  unfold placesFollow at hf
  cases hk : s.active.get d with
  | none => simp [hk] at hf
  | some k =>
    have fits := h.active d k hk
    cases ks : k.state <;> simp_all [activeFits, isCommitted]

theorem not_committed_of_placesFollow {s : State} {d : DestNo} (hf : placesFollow s d = false) :
    isCommitted (s.active.get d) = false := by
  unfold placesFollow at hf
  cases hk : s.active.get d with
  | none => rfl
  | some k => exact not_committed_of_armed (by simpa [hk] using hf)

theorem placeTake_eq_follow {b : State} {d : DestNo} {k : Take} {s : State} (hf : placesFollow s d = true) :
    placeTake b d k s = (removeFollow d .superseded s).setFollow d (some { k with state := .following, placed := none }) := by
  rw [placeTake, if_pos hf]

theorem placeTake_eq_armed {b : State} {d : DestNo} {k : Take} {s : State} (hf : placesFollow s d = false) :
    placeTake b d k s = displayPlaced b d ((removeArmed d .superseded s).setActive d (some (armedTake s d k))) := by
  rw [placeTake, if_neg (by simp [hf])]
  rfl

theorem TakeLaw.placeTake {s : State} (h : TakeLaw s) (b : State) (d : DestNo) {k : Take} (hk : Placeable k) :
    TakeLaw (placeTake b d k s) := by
  cases hf : placesFollow s d with
  | true =>
    have hc := h.committed_of_placesFollow hf
    rw [placeTake_eq_follow hf]
    refine (h.removeFollow d .superseded).change_one d
      ((boundPartner_congr (by simp) d).trans (boundPartner_not_armed (isArmed_of_committed hc))) (fun e _ => rfl)
      (fun e he => by simp [Tbl.get_set, he]) (fun e _ => rfl) ⟨fun q hq => ?_, fun q hq => ?_, fun q p hq qa => ?_⟩
    · exact h.active d q (by simpa using hq)
    · simp only [State.setFollow_follow, Tbl.get_set_self, Option.some.injEq] at hq
      subst hq
      exact ⟨by simp [followFits, hk.source, hk.partner, hk.deferred], by simpa using hc⟩
    · obtain ⟨q', hq', qs⟩ := isCommitted_iff.mp hc
      rw [show q' = q from by simpa [hq'] using hq] at qs
      rw [qs] at qa
      cases qa
  | false =>
    rw [placeTake_eq_armed hf]
    have removed := h.removeArmed (not_committed_of_placesFollow hf) .superseded
    refine removed.change_one d (removeArmed_unbound d _ s) (fun e he => by simp [Tbl.get_set, he]) (fun e _ => by simp)
      (fun e _ => by simp) (.single (k := armedTake s d k) (by simp) ?_ (armedTake_fits hk.source hk.partner) fun _ => hk.partner)
    have := removed.follow_none (d := d) (by rw [removeArmed_get, if_pos (.inl rfl)]; rfl)
    simpa using this

/-! ## SWAP pairs -/

theorem TakeLaw.createPair {s : State} (h : TakeLaw s) {k : Take} {a b : DestNo} (ne : a ≠ b)
    (ha : isCommitted (s.active.get a) = false) (hb : isCommitted (s.active.get b) = false)
    (hf : (s.dests.get a).format = (s.dests.get b).format) (hs : k.salvo = none) : TakeLaw (createPair k a b s) := by
  have first := h.removeArmed ha .superseded
  have hb' : isCommitted ((Machine.removeArmed a .superseded s).active.get b) = false := by rw [removeArmed_committed _ ha, hb]
  have second := first.removeArmed hb' .superseded
  set x := Machine.removeArmed b .superseded (Machine.removeArmed a .superseded s) with hx
  have xa : x.active.get a = none := by
    rw [hx]
    exact removeArmed_active_none b _ (by rw [removeArmed_get, if_pos (.inl rfl)])
  have xb : x.active.get b = none := by rw [hx, removeArmed_get, if_pos (.inl rfl)]
  have get (e : DestNo) : (Machine.createPair k a b s).active.get e =
      if b = e then some (armedTake (placeHalf k a b x) b { k with partner := some a })
      else if a = e then some (armedTake x a { k with partner := some b }) else x.active.get e := by
    simp [Machine.createPair, hx]
  have fits (y : State) (d p : DestNo) : activeFits (armedTake y d { k with partner := some p }) = true := by
    simp [activeFits, armedTake, hs]
  have bound : boundPartner (Machine.createPair k a b s) a = some b :=
    boundPartner_iff.mpr ⟨_, _, by rw [get, if_neg ne.symm, if_pos rfl], by rw [get, if_pos rfl], rfl, rfl, rfl, rfl⟩
  have hfollow (d : DestNo) (hd : x.active.get d = none) : (Machine.createPair k a b s).follow.get d = none := by
    have := second.follow_none (d := d) (by rw [hd]; rfl)
    rw [hx] at this
    simpa using this
  refine second.change (fun e => e = a ∨ e = b) (fun d e hd he => ?_) (fun e he => ?_) (fun e _ => by simp [hx]) (fun e _ => by simp [hx])
    fun d hd => ?_
  · rcases hd with rfl | rfl
    · rw [boundPartner_empty xa] at he; cases he
    · rw [boundPartner_empty xb] at he; cases he
  · rw [get, if_neg fun hbe => he (.inr hbe.symm), if_neg fun hae => he (.inl hae.symm)]
  · rcases hd with rfl | rfl
    · refine ⟨fun q hq => ?_, fun q hq => absurd hq (by rw [hfollow _ xa]; simp), fun q p hq _ qp => ?_⟩
      · rw [get, if_neg ne.symm, if_pos rfl] at hq
        cases hq
        exact fits ..
      · rw [get, if_neg ne.symm, if_pos rfl] at hq
        cases hq
        cases qp
        exact ⟨bound, ne.symm, by simpa using hf.symm⟩
    · refine ⟨fun q hq => ?_, fun q hq => absurd hq (by rw [hfollow _ xb]; simp), fun q p hq _ qp => ?_⟩
      · rw [get, if_pos rfl] at hq
        cases hq
        exact fits ..
      · rw [get, if_pos rfl] at hq
        cases hq
        cases qp
        exact ⟨boundPartner_symm bound, ne, by simpa using hf⟩

/-! ## Commitment and completion -/

/-- A take with its source fixed fits when COMMITTED. -/
theorem committed_fits {k : Take} (h : activeFits k = true) (hs : k.source ≠ .unfixed) :
    activeFits { k with state := .committed } = true := by
  simp_all [activeFits]

theorem TakeLaw.commitArmed {s : State} (h : TakeLaw s) {d : DestNo} {k : Take} (hk : s.active.get d = some k)
    (ka : k.state = .armed) (unbound : boundPartner s d = none) : TakeLaw (commitArmed d k s) := by
  have hd : isCommitted (s.active.get d) = false := by rw [hk, not_committed_of_armed ka]
  have single : k.partner = none := by
    by_contra hn
    obtain ⟨p, hp⟩ := Option.ne_none_iff_exists'.mp hn
    rw [(h.bound d k p hk ka hp).1] at unbound
    cases unbound
  have source : k.source ≠ .unfixed := by
    have := h.active d k hk
    intro hs
    simp [activeFits, hs, single] at this
  unfold Machine.commitArmed
  split
  · exact h.of_roles (setActive_roles hk ⟨rfl, rfl, rfl, fun hf => hf⟩) rfl fun _ _ _ => rfl
  · split
    · refine h.change_one d unbound (fun e he => by simp [commitTake, Tbl.get_set, he]) (fun _ _ => rfl) (fun _ _ => rfl)
        (.single (k := { k with state := .committed }) (by simp [commitTake]) (h.follow_none hd) (committed_fits (h.active d k hk) source)
          fun hc => by cases hc)
    · exact (h.removeActive unbound hd .guardFail).of_same (by simp) (by simp) (by simp)

theorem TakeLaw.commitPair {s : State} (h : TakeLaw s) {d p : DestNo} {k q : Take} (hk : s.active.get d = some k)
    (hq : s.active.get p = some q) (hb : boundPartner s d = some p) : TakeLaw (commitPair d p k q s) := by
  obtain ⟨k', q', hk', hq', ka, qa, kp, qp⟩ := boundPartner_some hb
  cases hk.symm.trans hk'
  cases hq.symm.trans hq'
  obtain ⟨-, ne, -⟩ := h.bound d k p hk ka kp
  unfold Machine.commitPair
  split
  · refine h.change (fun e => e = d ∨ e = p) (fun x e hx he => ?_) (fun e he => ?_) (fun _ _ => rfl) (fun _ _ => rfl) fun e he => ?_
    · rcases hx with rfl | rfl
      · rw [hb] at he; cases he; exact .inr rfl
      · rw [boundPartner_symm hb] at he; cases he; exact .inl rfl
    · simp only [commitTake, State.setActive_active, Tbl.get_set]
      rw [if_neg fun hpe => he (.inr hpe.symm), if_neg fun hde => he (.inl hde.symm)]
    · have commits (x : Take) (y : DestNo) {z : DestNo} (hz : s.active.get z = some x) (xa : x.state = .armed) :
          activeFits { x with source := .fixed (s.dests.get y).current, state := .committed } = true := by
        have := h.active z x hz
        simp_all [activeFits]
      rcases he with rfl | rfl
      · refine .single (k := { k with source := .fixed (s.dests.get p).current, state := .committed }) ?_
          (h.follow_none (by rw [hk, not_committed_of_armed ka])) (commits k p hk ka) fun hc => by cases hc
        simp [commitTake, Tbl.get_set, ne]
      · refine .single (k := { q with source := .fixed (s.dests.get d).current, state := .committed }) ?_
          (h.follow_none (by rw [hq, not_committed_of_armed qa])) (commits q d hq qa) fun hc => by cases hc
        simp [commitTake]
  · have first := setActive_roles (s := s) hk (k' := { k with deferred := true }) ⟨rfl, rfl, rfl, fun hf => hf⟩
    have second := setActive_roles (s := s.setActive d (some { k with deferred := true })) (d := p) (k := q)
      (k' := { q with deferred := true }) (by simp [Tbl.get_set, ne.symm, hq]) ⟨rfl, rfl, rfl, fun hf => hf⟩
    exact h.of_roles (first.trans second) rfl fun _ _ _ => rfl

/-- A completion is the removal of the COMMITTED take, its DISPLAY entry, the FOLLOW promotion and the notice to the Mode Controller. -/
theorem complete_eq {d : DestNo} {ended : JoinEnd} {s : State} {k : Take} (hk : s.active.get d = some k) (ks : k.state = .committed) :
    complete d ended s = modeNotice (promote d (requestDisplay d (removeActive d (outcomeOf ended k.late) s))) := by
  rw [complete_committed hk ks, removeActive_some hk]

theorem TakeLaw.complete {s : State} (h : TakeLaw s) (d : DestNo) (ended : JoinEnd) : TakeLaw (complete d ended s) := by
  by_cases hc : isCommitted (s.active.get d) = true
  · obtain ⟨k, hk, ks⟩ := isCommitted_iff.mp hc
    rw [complete_eq hk ks]
    set x := requestDisplay d (Machine.removeActive d (outcomeOf ended k.late) s) with hx
    have xfollow : x.follow = s.follow := by simp [hx]
    have xactive (e : DestNo) : x.active.get e = if d = e then none else s.active.get e := by simp [hx, removeActive_get]
    refine h.change_one d (boundPartner_not_armed (isArmed_of_committed hc)) (fun e he => ?_) (fun e he => ?_) (fun e _ => by simp [hx]) ?_
    · rw [show ∀ y, (modeNotice y).active = y.active by simp, promote_active_ne _ _ he, xactive, if_neg he]
    · rw [show ∀ y, (modeNotice y).follow = y.follow by simp, promote_follow, if_neg he, xfollow]
    · have hf : (modeNotice (promote d x)).follow.get d = none := by
        rw [show ∀ y, (modeNotice y).follow = y.follow by simp, promote_follow, if_pos rfl]
      cases hq : s.follow.get d with
      | none =>
        refine .empty ?_ hf
        rw [promote_none (by rw [xfollow, hq])]
        simp [xactive]
      | some q =>
        obtain ⟨fits, -⟩ := h.follow d q hq
        simp only [followFits, Bool.and_eq_true, bne_iff_ne, beq_iff_eq] at fits
        obtain ⟨⟨⟨-, hs⟩, hp⟩, -⟩ := fits
        refine .single ?_ hf (armedTake_fits (s := x) (d := d) (k := { q with
          target := if isBefore q.target x.houseTime then x.houseTime else q.target
          late := q.late || (q.mode == .atTime && isBefore q.target x.houseTime) }) hs hp) fun _ => hp
        rw [show ∀ y, (modeNotice y).active = y.active by simp, promote_active_self (by rw [xfollow, hq])]
  · rw [complete_idle (by simpa using hc)]
    exact h


/-! ## Counting the takes that name a slot (R104) -/

theorem count_set {α : Type} {n : Nat} (t : Tbl α n) (i : Fin n) (a : α) (p : α → Bool) :
    (t.set i a).count p + (if p (t.get i) then 1 else 0) = t.count p + (if p a then 1 else 0) := by
  have hi : i.val < t.rows.length := by rw [t.size]; exact i.isLt
  have hg : t.rows[i.val] = t.get i := rfl
  have hpos : p (t.get i) = true → 0 < t.rows.countP p := fun hp =>
    List.countP_pos_iff.mpr ⟨t.get i, hg ▸ List.getElem_mem hi, hp⟩
  simp only [Tbl.count, Tbl.set, List.countP_set hi, hg]
  split
  · have := hpos ‹_›
    omega
  · omega

/-- The take, if there is one, names the slot. -/
def names (j : SlotNo) (o : Option Take) : Bool := o.any (·.salvo == some j)

@[simp] theorem names_none (j : SlotNo) : names j none = false := rfl

@[simp] theorem names_some (j : SlotNo) (k : Take) : names j (some k) = (k.salvo == some j) := rfl

theorem takesNaming_eq (s : State) (j : SlotNo) : takesNaming s j = s.active.count (names j) + s.follow.count (names j) := rfl

theorem takesNaming_setActive (s : State) (d : DestNo) (o : Option Take) (j : SlotNo) :
    takesNaming (s.setActive d o) j + (if names j (s.active.get d) then 1 else 0) =
      takesNaming s j + (if names j o then 1 else 0) := by
  have := count_set s.active d o (names j)
  simp only [takesNaming_eq, State.setActive_active, State.setActive_follow]
  omega

theorem takesNaming_setFollow (s : State) (d : DestNo) (o : Option Take) (j : SlotNo) :
    takesNaming (s.setFollow d o) j + (if names j (s.follow.get d) then 1 else 0) =
      takesNaming s j + (if names j o then 1 else 0) := by
  have := count_set s.follow d o (names j)
  simp only [takesNaming_eq, State.setFollow_active, State.setFollow_follow]
  omega

theorem takesNaming_of_same {s s' : State} (active : s'.active = s.active) (follow : s'.follow = s.follow) (j : SlotNo) :
    takesNaming s' j = takesNaming s j := by rw [takesNaming_eq, takesNaming_eq, active, follow]

theorem takesNaming_of_roles {s s' : State} (roles : SameRoles s s') (follow : s'.follow = s.follow) (j : SlotNo) :
    takesNaming s' j = takesNaming s j := by
  have (d : DestNo) : names j (s'.active.get d) = names j (s.active.get d) := by
    obtain ⟨f, hf, hr⟩ := roles d
    rw [hf]
    cases hk : s.active.get d with
    | none => rfl
    | some k => simp [(hr k hk).salvo]
  rw [takesNaming_eq, takesNaming_eq, follow]
  simp only [Tbl.count_eq, this]

/-- Every slot's outstanding count is the number of takes that name it, with one more for a take about to be placed. -/
def Balanced (s : State) (extra : Option SlotNo) : Prop :=
  ∀ j, (s.salvos.get j).outstanding = takesNaming s j + (if extra = some j then 1 else 0)

/-- Slots keep their pairs and their firing, and none has more takes outstanding. -/
def SlotsEnd (s s' : State) : Prop := ∀ j,
  (s'.salvos.get j).count = (s.salvos.get j).count ∧ (s'.salvos.get j).positions = (s.salvos.get j).positions ∧
    (s'.salvos.get j).firingTrunk = (s.salvos.get j).firingTrunk ∧ (s'.salvos.get j).firingTag = (s.salvos.get j).firingTag ∧
    (s'.salvos.get j).outstanding ≤ (s.salvos.get j).outstanding

theorem SlotsEnd.of_salvos {s s' : State} (h : s'.salvos = s.salvos) : SlotsEnd s s' := fun j => by simp [h]

theorem SlotsEnd.trans {s s' s'' : State} (h : SlotsEnd s s') (h' : SlotsEnd s' s'') : SlotsEnd s s'' := fun j => by
  obtain ⟨a, b, c, d, e⟩ := h j
  obtain ⟨a', b', c', d', e'⟩ := h' j
  exact ⟨a'.trans a, b'.trans b, c'.trans c, d'.trans d, e'.trans e⟩

/-- Every slot's record fits. -/
def SlotLaw (s : State) : Prop := ∀ j, slotFits (s.salvos.get j) = true

theorem salvoLaw_iff {s : State} : SalvoLaw s ↔ SlotLaw s ∧ Balanced s none :=
  ⟨fun h => ⟨h.record, fun j => by simpa using h.outstanding j⟩, fun h => ⟨h.1, fun j => by simpa using h.2 j⟩⟩

theorem SlotLaw.mono {s s' : State} (h : SlotLaw s) (e : SlotsEnd s s') : SlotLaw s' := fun j => by
  obtain ⟨a, b, c, d, e⟩ := e j
  have := h j
  simp only [slotFits, Bool.and_eq_true, Bool.or_eq_true, beq_iff_eq] at this ⊢
  obtain ⟨hcount, hout⟩ := this
  refine ⟨by rwa [a, b], ?_⟩
  rw [c, d]
  rcases hout with hout | hout
  · exact .inl (by omega)
  · exact .inr hout

/-! ## Ends of takes -/

theorem notifyEnd_outstanding (d : DestNo) (k : Take) (out : TakeOutcome) (s : State) (j : SlotNo) :
    ((notifyEnd d k out s).salvos.get j).outstanding =
      if k.salvo = some j then (s.salvos.get j).outstanding - 1 else (s.salvos.get j).outstanding := by
  rw [notifyEnd_salvos]
  cases hs : k.salvo with
  | none => simp
  | some slot =>
    simp only [Tbl.get_modify, Option.some.injEq]
    split <;> rfl

theorem notifyEnd_slotsEnd (d : DestNo) (k : Take) (out : TakeOutcome) (s : State) : SlotsEnd s (notifyEnd d k out s) := fun j => by
  rw [notifyEnd_salvos]
  cases k.salvo with
  | none => simp
  | some slot =>
    simp only [Tbl.get_modify]
    split <;> simp [SalvoSlot.ended]

theorem removeActive_slotsEnd (d : DestNo) (out : TakeOutcome) (s : State) : SlotsEnd s (removeActive d out s) := by
  unfold removeActive
  split
  · exact .of_salvos rfl
  · exact SlotsEnd.trans (s' := s.setActive d none) (.of_salvos rfl) (notifyEnd_slotsEnd _ _ _ _)

theorem removeArmed_slotsEnd (d : DestNo) (out : TakeOutcome) (s : State) : SlotsEnd s (removeArmed d out s) := by
  unfold removeArmed
  split
  · exact removeActive_slotsEnd d out s
  · exact (removeActive_slotsEnd d out s).trans (removeActive_slotsEnd _ out _)

theorem removeFollow_slotsEnd (d : DestNo) (out : TakeOutcome) (s : State) : SlotsEnd s (removeFollow d out s) := by
  unfold removeFollow
  split
  · exact .of_salvos rfl
  · exact SlotsEnd.trans (s' := s.setFollow d none) (.of_salvos rfl) (notifyEnd_slotsEnd _ _ _ _)

theorem placeTake_slotsEnd (b : State) (d : DestNo) (k : Take) (s : State) : SlotsEnd s (placeTake b d k s) := by
  cases hf : placesFollow s d with
  | true =>
    rw [placeTake_eq_follow hf]
    exact (removeFollow_slotsEnd d .superseded s).trans (.of_salvos rfl)
  | false =>
    rw [placeTake_eq_armed hf]
    exact (removeArmed_slotsEnd d .superseded s).trans (.of_salvos (by simp))

theorem cancelPending_slotsEnd (d : DestNo) (spare : Take → Bool) (s : State) : SlotsEnd s (cancelPending d spare s) := by
  have removed : SlotsEnd s (if removesArmed s d spare then removeArmed d .cancelled s else s) := by
    split
    · exact removeArmed_slotsEnd _ _ _
    · exact .of_salvos rfl
  unfold cancelPending
  dsimp only
  split
  · exact removed.trans (removeFollow_slotsEnd _ _ _)
  · exact removed

theorem cancelAllArmed_slotsEnd (s : State) : SlotsEnd s (cancelAllArmed s) :=
  foldl_invariant (P := SlotsEnd s) (List.finRange 128) (fun s₁ d _ h => by
    split
    · exact h.trans (removeArmed_slotsEnd _ _ _)
    · exact h) (.of_salvos rfl)

theorem promote_salvos (d : DestNo) (s : State) : (promote d s).salvos = s.salvos := by simp

theorem complete_slotsEnd (d : DestNo) (ended : JoinEnd) (s : State) : SlotsEnd s (complete d ended s) := by
  by_cases hc : isCommitted (s.active.get d) = true
  · obtain ⟨k, hk, ks⟩ := isCommitted_iff.mp hc
    rw [complete_eq hk ks]
    exact (removeActive_slotsEnd d (outcomeOf ended k.late) s).trans (.of_salvos (by simp))
  · rw [complete_idle (by simpa using hc)]
    exact .of_salvos rfl

theorem Balanced.of_same {s s' : State} {x : Option SlotNo} (h : Balanced s x) (salvos : s'.salvos = s.salvos)
    (active : s'.active = s.active) (follow : s'.follow = s.follow) : Balanced s' x := fun j => by
  rw [salvos, takesNaming_of_same active follow]
  exact h j

theorem Balanced.of_roles {s s' : State} {x : Option SlotNo} (h : Balanced s x) (salvos : s'.salvos = s.salvos)
    (roles : SameRoles s s') (follow : s'.follow = s.follow) : Balanced s' x := fun j => by
  rw [salvos, takesNaming_of_roles roles follow]
  exact h j

theorem Balanced.removeActive {s : State} {x : Option SlotNo} (h : Balanced s x) (d : DestNo) (out : TakeOutcome) :
    Balanced (removeActive d out s) x := by
  unfold Machine.removeActive
  split
  · exact h
  · next k hk =>
    intro j
    have hn := takesNaming_setActive s d none j
    have hj := h j
    simp only [hk, names_some, names_none, beq_iff_eq] at hn
    rw [notifyEnd_outstanding, takesNaming_of_same (s := s.setActive d none) (by simp) (by simp), State.setActive_salvos]
    split
    · next hs =>
      simp [hs] at hn
      omega
    · next hs =>
      simp [hs] at hn
      omega

theorem Balanced.removeFollow {s : State} {x : Option SlotNo} (h : Balanced s x) (d : DestNo) (out : TakeOutcome) :
    Balanced (removeFollow d out s) x := by
  unfold Machine.removeFollow
  split
  · exact h
  · next k hk =>
    intro j
    have hn := takesNaming_setFollow s d none j
    have hj := h j
    simp only [hk, names_some, names_none, beq_iff_eq] at hn
    rw [notifyEnd_outstanding, takesNaming_of_same (s := s.setFollow d none) (by simp) (by simp), State.setFollow_salvos]
    split
    · next hs =>
      simp [hs] at hn
      omega
    · next hs =>
      simp [hs] at hn
      omega

theorem Balanced.removeArmed {s : State} {x : Option SlotNo} (h : Balanced s x) (d : DestNo) (out : TakeOutcome) :
    Balanced (removeArmed d out s) x := by
  unfold Machine.removeArmed
  split
  · exact h.removeActive d out
  · exact (h.removeActive d out).removeActive _ out

/-- A take that was counted before enters an empty active position. -/
theorem Balanced.setActive {s : State} {d : DestNo} {k : Take} (h : Balanced s k.salvo) (hd : s.active.get d = none) :
    Balanced (s.setActive d (some k)) none := fun j => by
  have hn := takesNaming_setActive s d (some k) j
  have hj := h j
  simp only [hd, names_some, names_none, beq_iff_eq] at hn
  rw [State.setActive_salvos]
  by_cases hs : k.salvo = some j <;> simp [hs] at hn hj ⊢ <;> omega

/-- A take that was counted before enters an empty follow position. -/
theorem Balanced.setFollow {s : State} {d : DestNo} {k : Take} (h : Balanced s k.salvo) (hd : s.follow.get d = none) :
    Balanced (s.setFollow d (some k)) none := fun j => by
  have hn := takesNaming_setFollow s d (some k) j
  have hj := h j
  simp only [hd, names_some, names_none, beq_iff_eq] at hn
  rw [State.setFollow_salvos]
  by_cases hs : k.salvo = some j <;> simp [hs] at hn hj ⊢ <;> omega

theorem Balanced.placeTake {s : State} {k : Take} (h : Balanced s k.salvo) (b : State) (d : DestNo) :
    Balanced (placeTake b d k s) none := by
  cases hf : placesFollow s d with
  | true =>
    rw [placeTake_eq_follow hf]
    exact Balanced.setFollow (k := { k with state := .following, placed := none }) (h.removeFollow d _)
      (by rw [removeFollow_get, if_pos rfl])
  | false =>
    rw [placeTake_eq_armed hf]
    have placed := Balanced.setActive (k := armedTake s d k) (h.removeArmed d .superseded) (d := d)
      (by rw [removeArmed_get, if_pos (.inl rfl)])
    exact placed.of_same (by simp) (by simp) (by simp)

theorem Balanced.cancelPending {s : State} {x : Option SlotNo} (h : Balanced s x) (d : DestNo) (spare : Take → Bool) :
    Balanced (cancelPending d spare s) x := by
  have removed : Balanced (if removesArmed s d spare then Machine.removeArmed d .cancelled s else s) x := by
    split
    · exact h.removeArmed d _
    · exact h
  unfold Machine.cancelPending
  dsimp only
  split
  · exact removed.removeFollow d _
  · exact removed

theorem Balanced.cancelAllArmed {s : State} {x : Option SlotNo} (h : Balanced s x) : Balanced (cancelAllArmed s) x :=
  foldl_invariant (P := fun s => Balanced s x) (List.finRange 128) (fun s d _ h => by
    split
    · exact h.removeArmed d _
    · exact h) h

theorem Balanced.promote {s : State} (h : Balanced s none) {d : DestNo} (hd : s.active.get d = none) : Balanced (promote d s) none := by
  cases hq : s.follow.get d with
  | none => rwa [promote_none hq]
  | some q =>
    have taken : Balanced (s.setFollow d none) q.salvo := fun j => by
      have hn := takesNaming_setFollow s d none j
      have hj := h j
      simp only [hq, names_some, names_none, beq_iff_eq] at hn
      rw [State.setFollow_salvos]
      by_cases hs : q.salvo = some j <;> simp [hs] at hn hj ⊢ <;> omega
    unfold Machine.promote
    rw [hq]
    exact Balanced.setActive (k := armedTake s d { q with
      target := if isBefore q.target s.houseTime then s.houseTime else q.target
      late := q.late || (q.mode == .atTime && isBefore q.target s.houseTime) }) taken hd

theorem Balanced.complete {s : State} (h : Balanced s none) (d : DestNo) (ended : JoinEnd) : Balanced (complete d ended s) none := by
  by_cases hc : isCommitted (s.active.get d) = true
  · obtain ⟨k, hk, ks⟩ := isCommitted_iff.mp hc
    rw [complete_eq hk ks]
    have removed : Balanced (requestDisplay d (Machine.removeActive d (outcomeOf ended k.late) s)) none :=
      (h.removeActive d (outcomeOf ended k.late)).of_same (by simp) (by simp) (by simp)
    exact (removed.promote (d := d) (by simp [removeActive_get])).of_same (by simp) (by simp) (by simp)
  · rw [complete_idle (by simpa using hc)]
    exact h

/-! ## Takes and salvos together -/

/-- The law of takes and of the salvo slots. -/
structure TakesLaw (s : State) : Prop where
  takes : TakeLaw s
  slots : SlotLaw s
  balanced : Balanced s none

theorem TakesLaw.of_same {s s' : State} (h : TakesLaw s) (active : s'.active = s.active) (follow : s'.follow = s.follow)
    (salvos : s'.salvos = s.salvos) (format : ∀ d, (s'.dests.get d).format = (s.dests.get d).format) : TakesLaw s' :=
  ⟨h.takes.of_same active follow format, h.slots.mono (.of_salvos salvos), h.balanced.of_same salvos active follow⟩

theorem TakesLaw.of_roles {s s' : State} (h : TakesLaw s) (roles : SameRoles s s') (follow : s'.follow = s.follow)
    (salvos : s'.salvos = s.salvos) (format : ∀ d k, s.active.get d = some k → (s'.dests.get d).format = (s.dests.get d).format) :
    TakesLaw s' :=
  ⟨h.takes.of_roles roles follow format, h.slots.mono (.of_salvos salvos), h.balanced.of_roles salvos roles follow⟩

theorem TakesLaw.displayVacated {s : State} (h : TakesLaw s) (before : State) : TakesLaw (displayVacated before s) :=
  h.of_same (by simp) (by simp) (by simp) (by simp)

theorem TakesLaw.complete {s : State} (h : TakesLaw s) (d : DestNo) (ended : JoinEnd) : TakesLaw (complete d ended s) :=
  ⟨h.takes.complete d ended, h.slots.mono (complete_slotsEnd d ended s), h.balanced.complete d ended⟩

theorem TakesLaw.placeTake {s : State} (h : TakesLaw s) (b : State) (d : DestNo) {k : Take} (hk : Placeable k) (hs : k.salvo = none) :
    TakesLaw (placeTake b d k s) :=
  ⟨h.takes.placeTake b d hk, h.slots.mono (placeTake_slotsEnd _ _ _ _), Balanced.placeTake (by rw [hs]; exact h.balanced) b d⟩

theorem TakesLaw.cancelPending {s : State} (h : TakesLaw s) (d : DestNo) (spare : Take → Bool) : TakesLaw (cancelPending d spare s) :=
  ⟨h.takes.cancelPending d spare, h.slots.mono (cancelPending_slotsEnd _ _ _), h.balanced.cancelPending d spare⟩

theorem TakesLaw.cancelAllArmed {s : State} (h : TakesLaw s) : TakesLaw (cancelAllArmed s) :=
  ⟨h.takes.cancelAllArmed, h.slots.mono (cancelAllArmed_slotsEnd s), h.balanced.cancelAllArmed⟩

theorem TakesLaw.createPair {s : State} (h : TakesLaw s) {k : Take} {a b : DestNo} (ne : a ≠ b)
    (ha : isCommitted (s.active.get a) = false) (hb : isCommitted (s.active.get b) = false)
    (hf : (s.dests.get a).format = (s.dests.get b).format) (hs : k.salvo = none) : TakesLaw (createPair k a b s) := by
  refine ⟨h.takes.createPair ne ha hb hf hs, h.slots.mono ?_, ?_⟩
  · exact (removeArmed_slotsEnd a .superseded s).trans ((removeArmed_slotsEnd b .superseded _).trans
      (.of_salvos (by simp [Machine.createPair])))
  · have cleared := (h.balanced.removeArmed a .superseded).removeArmed b .superseded
    set x := Machine.removeArmed b .superseded (Machine.removeArmed a .superseded s) with hx
    have xa : x.active.get a = none := by
      rw [hx]
      exact removeArmed_active_none b _ (by rw [removeArmed_get, if_pos (.inl rfl)])
    have xb : x.active.get b = none := by rw [hx, removeArmed_get, if_pos (.inl rfl)]
    have halfA : Balanced (placeHalf k a b x) none :=
      Balanced.setActive (k := armedTake x a { k with partner := some b }) (by simpa [armedTake, hs] using cleared) xa
    have halfB : Balanced (placeHalf k b a (placeHalf k a b x)) none :=
      Balanced.setActive (k := armedTake (placeHalf k a b x) b { k with partner := some a }) (by simpa [armedTake, hs] using halfA)
        (by rw [placeHalf_active_get, if_neg ne, xb])
    exact halfB.of_same (by simp [Machine.createPair, hx]) (by simp [Machine.createPair, hx]) (by simp [Machine.createPair, hx])

/-- A take changed in place, its slot still the one it named. -/
theorem Balanced.replace {s : State} {x : Option SlotNo} (h : Balanced s x) {d : DestNo} {k k' : Take} (hk : s.active.get d = some k)
    (hs : k'.salvo = k.salvo) : Balanced (s.setActive d (some k')) x := fun j => by
  have hn := takesNaming_setActive s d (some k') j
  simp only [hk, names_some, hs] at hn
  rw [State.setActive_salvos, h j]
  omega

theorem TakesLaw.commitArmed {s : State} (h : TakesLaw s) {d : DestNo} {k : Take} (hk : s.active.get d = some k)
    (ka : k.state = .armed) (unbound : boundPartner s d = none) : TakesLaw (commitArmed d k s) := by
  refine ⟨h.takes.commitArmed hk ka unbound, ?_, ?_⟩
  · unfold Machine.commitArmed
    (repeat' split)
    · exact h.slots
    · exact h.slots
    · exact h.slots.mono ((removeActive_slotsEnd d .guardFail s).trans (.of_salvos (by simp)))
  · unfold Machine.commitArmed
    (repeat' split)
    · exact h.balanced.replace hk rfl
    · exact h.balanced.replace hk rfl
    · exact (h.balanced.removeActive d .guardFail).of_same (by simp) (by simp) (by simp)

theorem TakesLaw.commitPair {s : State} (h : TakesLaw s) {d p : DestNo} {k q : Take} (hk : s.active.get d = some k)
    (hq : s.active.get p = some q) (hb : boundPartner s d = some p) : TakesLaw (commitPair d p k q s) := by
  obtain ⟨k', -, hk', -, ka, -, kp, -⟩ := boundPartner_some hb
  cases hk.symm.trans hk'
  obtain ⟨-, ne, -⟩ := h.takes.bound d k p hk ka kp
  have second (k' : Take) : (s.setActive d (some k')).active.get p = some q := by simp [Tbl.get_set, ne.symm, hq]
  refine ⟨h.takes.commitPair hk hq hb, h.slots.mono (.of_salvos (by simp)), ?_⟩
  unfold Machine.commitPair commitTake deferTake
  split
  · refine Balanced.replace (Balanced.replace h.balanced hk ?_) (second _) ?_ <;> rfl
  · refine Balanced.replace (Balanced.replace h.balanced hk ?_) (second _) ?_ <;> rfl

end Sys2Proof.Machine
end

section
/-! SUPPORT. The law of takes and salvo slots (R58, R104) under every effect of a step. -/

namespace Sys2Proof.Machine

/-! ## Streams -/

theorem SameRoles.congr {s s' t t' : State} (h : SameRoles s s') (before : s.active = t.active) (after : s'.active = t'.active) :
    SameRoles t t' := fun d => by rw [← before, ← after]; exact h d

theorem SameRoles.recompute {s s' : State} (h : SameRoles s s') (p : DestNo → Bool) : SameRoles s (recomputeTakes p s') :=
  h.trans (recomputeTakes_roles p s')

theorem SameRoles.queueMasked {s s' : State} (h : SameRoles s s') (r : Report) : SameRoles s (queueMasked r s') :=
  h.congr rfl (by simp)

theorem SameRoles.realignFill {s s' : State} (h : SameRoles s s') (p : DestNo → Bool) : SameRoles s (realignFill p s') :=
  h.congr rfl (by simp)

theorem SameRoles.updSource {s s' : State} (h : SameRoles s s') (n : SourceNo) (g : Source → Source) :
    SameRoles s (s'.updSource n g) := h.congr rfl rfl

theorem SameRoles.reanchorCheck {s s' : State} (h : SameRoles s s') (n : SourceNo) : SameRoles s (reanchorCheck n s') := by
  unfold Machine.reanchorCheck
  split
  · exact h
  · dsimp only
    split
    · refine SameRoles.queueMasked (SameRoles.recompute ?_ _) _
      exact h.congr rfl (by simp)
    · exact h

theorem captureFrame_roles (n : SourceNo) (s : State) : SameRoles s (captureFrame n s) := by
  refine SameRoles.updSource (SameRoles.reanchorCheck ?_ n) n _
  exact sameRoles_of_active (by simp)

theorem trackCell_roles (n : SourceNo) (c : Cell) (s : State) : SameRoles s (trackCell n c s) := by
  have entered : SameRoles s ((sequenceCheck n c.seq s).updSource n (·.entered c.frameStart)) := sameRoles_of_active (by simp)
  unfold trackCell
  dsimp only
  split
  · exact entered.trans (captureFrame_roles n _)
  · exact entered

theorem TakesLaw.trackCell {s : State} (h : TakesLaw s) (n : SourceNo) (c : Cell) : TakesLaw (trackCell n c s) :=
  h.of_roles (trackCell_roles n c s) (by simp) (by simp) (by simp)

theorem TakesLaw.receiveCell {s : State} (h : TakesLaw s) (n : SourceNo) (locked : Bool) (d : DestNo) :
    TakesLaw (receiveCell n locked d s) := by
  unfold Machine.receiveCell
  split
  · exact h.of_same rfl rfl rfl fun _ => rfl
  · exact TakesLaw.complete (s := s.updSwitching d _) (h.of_same rfl rfl rfl fun _ => rfl) d _
  · exact h

theorem TakesLaw.missCell {s : State} (h : TakesLaw s) (n : SourceNo) (locked : Bool) (d : DestNo) :
    TakesLaw (missCell n locked d s) := by
  unfold Machine.missCell
  split
  · exact h.of_same (by simp) (by simp) (by simp) (by simp)
  · exact h
  · exact h.of_same rfl rfl rfl fun _ => rfl
  · exact TakesLaw.complete (s := armFillLater d (s.updSwitching d _)) (h.of_same (by simp) (by simp) (by simp) (by simp)) d _

theorem TakesLaw.replicate {s : State} (h : TakesLaw s) (n : SourceNo) (c : Cell) (pick : PoolNo) :
    TakesLaw (replicate n c pick s) := by
  obtain ⟨got, s₂, e, hs⟩ := replicate_settles n c pick s
  rw [e]
  have stored : TakesLaw s₂ := by
    rw [hs]
    exact h.of_same (by simp) (by simp) (by simp) (by simp)
  refine foldl_invariant _ (fun s d _ hs => ?_) stored
  split
  · exact hs.receiveCell n _ d
  · exact hs.missCell n _ d

theorem TakesLaw.goodArrival {s : State} (h : TakesLaw s) (t : Trunk) (c : Cell) (pick : PoolNo) : TakesLaw (goodArrival t c pick s) := by
  have counted : TakesLaw (goodCell t (s.updReceiver t fun r => { r with good := bump r.good })) :=
    h.of_same (by simp) (by simp) (by simp) (by simp)
  unfold Machine.goodArrival
  dsimp only
  (repeat' split)
  case isFalse.isTrue =>
    unfold essenceArrival
    dsimp only
    split
    · exact counted.of_same rfl rfl rfl fun _ => rfl
    · exact (counted.trackCell _ c).replicate _ c pick
  all_goals exact h.of_same (by simp) (by simp) (by simp) (by simp)

/-! ## Cuts -/

theorem setCurrent_format (d : DestNo) (new : Option SourceNo) (s : State) (e : DestNo) :
    ((setCurrent d new s).dests.get e).format = (s.dests.get e).format := by
  rw [setCurrent_dests, Tbl.get_modify]
  split <;> rfl

theorem TakesLaw.switchCut {s : State} (h : TakesLaw s) (d : DestNo) (new : Option SourceNo) (x : Time) :
    TakesLaw (switchCut d new x s) := by
  unfold Machine.switchCut
  split
  · split
    · exact TakesLaw.complete (s := armFillNext d (postFill d (s.updSwitching d _)))
        (h.of_same (by simp) (by simp) (by simp) (by simp)) d _
    · (repeat' split) <;> exact h.of_same rfl rfl rfl fun _ => rfl
  · exact h

theorem TakesLaw.giveUpJoining {s : State} (h : TakesLaw s) (d : DestNo) : TakesLaw (giveUpJoining d s) :=
  TakesLaw.complete (s := armFillNext d (postFill d (s.updSwitching d _))) (h.of_same (by simp) (by simp) (by simp) (by simp)) d _

/-! ## Salvo slots -/

/-- Pairs written at positions below 16 leave every position behind them as it was (R106). -/
theorem writePairs_get_behind (start : Nat) (pairs : List Pair) (x : Tbl (Option Pair) 16) (i : Fin 16)
    (h : start + pairs.length ≤ i.val) : (writePairs start pairs x).get i = x.get i := by
  induction pairs generalizing start x with
  | nil => rfl
  | cons p rest ih =>
    rw [List.length_cons] at h
    rw [writePairs, ih _ _ (by omega), Tbl.get_set_ne]
    intro e
    have := congrArg Fin.val e
    simp only at this
    omega

theorem SlotLaw.count_le {k : SalvoSlot} (h : slotFits k = true) : k.count ≤ 16 := by
  simp only [slotFits, Bool.and_eq_true, decide_eq_true_eq] at h
  exact h.1.1

/-- Loading keeps a slot fit: no position at or above the new pair count is written (R106). -/
theorem slotFits_loaded {k : SalvoSlot} (h : slotFits k = true) (start : Nat) (pairs : List Pair) :
    slotFits (k.loaded start pairs) = true := by
  simp only [slotFits, Bool.and_eq_true, List.all_eq_true, Bool.or_eq_true, decide_eq_true_eq, List.mem_finRange, true_imp_iff] at h ⊢
  obtain ⟨⟨hc, hp⟩, hf⟩ := h
  simp only [SalvoSlot.loaded]
  split
  · next fits =>
    refine ⟨⟨by omega, fun i => ?_⟩, hf⟩
    by_cases hi : i.val < max k.count (start + pairs.length)
    · exact .inl hi
    · rw [writePairs_get_behind _ _ _ _ (by omega)]
      exact .inr ((hp i).resolve_left (by omega))
  · exact ⟨⟨le_rfl, fun i => .inl i.isLt⟩, hf⟩

theorem not_fired {k : SalvoSlot} (h : k.state ≠ .fired) : k.outstanding = 0 := by
  by_contra hn
  exact h (by rw [SalvoSlot.state, if_pos (by omega)])

theorem slotFits_empty : slotFits .empty = true := by decide

/-- A slot changed into one that fits, with as many takes outstanding. -/
theorem TakesLaw.updSalvo {s : State} (h : TakesLaw s) (j : SlotNo) {g : SalvoSlot → SalvoSlot}
    (fits : slotFits (g (s.salvos.get j)) = true) (out : (g (s.salvos.get j)).outstanding = (s.salvos.get j).outstanding) :
    TakesLaw (s.updSalvo j g) := by
  refine ⟨h.takes.of_same rfl rfl fun _ => rfl, fun i => ?_, fun i => ?_⟩
  · simp only [State.updSalvo_salvos, Tbl.get_modify]
    split
    · next hij => rw [← hij]; exact fits
    · exact h.slots i
  · have := h.balanced i
    rw [takesNaming_of_same (s := s) (s' := s.updSalvo j g) rfl rfl, State.updSalvo_salvos, Tbl.get_modify]
    split
    · next hij => rw [← hij, out, hij]; exact this
    · exact this

/-- The slot's firing trunk and tag are present. -/
def HasFiring (j : SlotNo) (s : State) : Prop :=
  (s.salvos.get j).firingTrunk.isSome = true ∧ (s.salvos.get j).firingTag.isSome = true

theorem HasFiring.mono {j : SlotNo} {s s' : State} (h : HasFiring j s) (e : SlotsEnd s s') : HasFiring j s' := by
  obtain ⟨-, -, c, d, -⟩ := e j
  exact ⟨by rw [c]; exact h.1, by rw [d]; exact h.2⟩

/-- One take of a fire: counted in its slot and then placed (R112). -/
theorem TakesLaw.firePair {s : State} (h : TakesLaw s) {slot : SlotNo} (f : HasFiring slot s) (before : State) (t : Trunk) (tag : Tag)
    (g : Target) (p : Pair) : 
    TakesLaw (Machine.firePair before slot t tag g p s) ∧ HasFiring slot (Machine.firePair before slot t tag g p s) := by
  set x := s.updSalvo slot fun k => { k with outstanding := k.outstanding + 1 } with hx
  have xs (i : SlotNo) : x.salvos.get i =
      if slot = i then { s.salvos.get i with outstanding := (s.salvos.get i).outstanding + 1 } else s.salvos.get i := by
    rw [hx, State.updSalvo_salvos, Tbl.get_modify]
  have slots : SlotLaw x := fun i => by
    have := h.slots i
    rw [xs]
    split
    · next hi =>
      subst hi
      simp only [slotFits, Bool.and_eq_true, Bool.or_eq_true] at this ⊢
      exact ⟨this.1, .inr f⟩
    · exact this
  have balanced : Balanced x (some slot) := fun i => by
    have := h.balanced i
    rw [takesNaming_of_same (s := s) (s' := x) rfl rfl, xs]
    by_cases hi : slot = i <;> simp [hi] at this ⊢ <;> omega
  have firing : HasFiring slot x := by
    unfold HasFiring
    rw [xs, if_pos rfl]
    exact f
  have end_ := placeTake_slotsEnd before p.dest { newTake t tag (.fixed p.source) p.guardSource g false with salvo := some slot } x
  have takes : TakeLaw x := h.takes.of_same rfl rfl fun _ => rfl
  refine ⟨⟨takes.placeTake before p.dest (newTake_placeable t tag p.source p.guardSource g false (some slot)), slots.mono end_, ?_⟩,
    firing.mono end_⟩
  exact Balanced.placeTake (k := { newTake t tag (.fixed p.source) p.guardSource g false with salvo := some slot }) balanced before p.dest

theorem TakesLaw.fire {s : State} (h : TakesLaw s) {slot : SlotNo} (idle : (s.salvos.get slot).state ≠ .fired) (t : Trunk) (tag : Tag)
    (g : Target) (accepted : List (Fin 16 × Pair)) :
    TakesLaw (accepted.foldl (fun s' x => Machine.firePair s slot t tag g x.2 s') (s.updSalvo slot (·.fire t tag))) := by
  have reset : TakesLaw (s.updSalvo slot (·.fire t tag)) := by
    refine h.updSalvo slot ?_ (not_fired idle).symm
    have := h.slots slot
    simp only [slotFits, Bool.and_eq_true] at this ⊢
    exact ⟨this.1, rfl⟩
  have firing : HasFiring slot (s.updSalvo slot (·.fire t tag)) := by simp [HasFiring, SalvoSlot.fire]
  exact (foldl_invariant (P := fun x => TakesLaw x ∧ HasFiring slot x) (f := fun s' x => Machine.firePair s slot t tag g x.2 s') accepted
    (fun s₁ x _ h₁ => TakesLaw.firePair h₁.1 h₁.2 s t tag g x.2) ⟨reset, firing⟩).1

/-! ## Definitions, modes and resets -/

theorem storeClass_format (d : DestNo) (c : DestClass) (s : State) (e : DestNo) :
    ((storeClass d c s).dests.get e).format = (s.dests.get e).format := by
  rw [storeClass_dests, Tbl.get_modify]
  split <;> rfl

theorem formatDest_roles (d : DestNo) (f : FormatNo) (o : Int) (s : State) : SameRoles s (formatDest d f o s) := by
  unfold formatDest offsetMoved
  dsimp only
  (repeat' split)
  case h_2.isFalse.isFalse => exact SameRoles.realignFill (SameRoles.recompute (sameRoles_of_active rfl) _) _
  all_goals exact sameRoles_of_active (by simp)

theorem defineDest_roles (d : DestNo) (format : Option FormatNo) (c : DestClass) (offset : Int) (s : State) :
    SameRoles s (defineDest d format c offset s).state := by
  rw [defineDest_state]
  cases format with
  | none =>
    dsimp only
    split <;> exact sameRoles_of_active (by simp [undefineDest])
  | some f => exact SameRoles.congr (formatDest_roles d f _ _) (by simp) rfl

theorem defineDest_follow (d : DestNo) (format : Option FormatNo) (c : DestClass) (offset : Int) (s : State) :
    (defineDest d format c offset s).state.follow = s.follow := by
  rw [defineDest_state]
  cases format with
  | none =>
    dsimp only
    split <;> simp [undefineDest]
  | some f => simp

theorem defineDest_salvos (d : DestNo) (format : Option FormatNo) (c : DestClass) (offset : Int) (s : State) :
    (defineDest d format c offset s).state.salvos = s.salvos := by
  rw [defineDest_state]
  cases format with
  | none =>
    dsimp only
    split <;> simp [undefineDest]
  | some f => simp

/-- DEST_DEFINE gives its destination the format named, and no other destination another. -/
theorem defineDest_format (d : DestNo) (format : Option FormatNo) (c : DestClass) (offset : Int) (s : State) (e : DestNo) :
    ((defineDest d format c offset s).state.dests.get e).format = if d = e then format else (s.dests.get e).format := by
  rw [defineDest_state]
  cases format with
  | none =>
    dsimp only
    split
    · rw [undefineDest, State.updSwitching_dests, State.updDest_dests, Tbl.get_modify]
      split
      · rfl
      · rw [storeClass_format]
    · next undefined =>
      rw [storeClass_format]
      split
      · next hde => rw [← hde]; simpa using undefined
      · rfl
  | some f =>
    rw [formatDest_dests, Tbl.get_modify]
    split
    · rfl
    · rw [storeClass_format]

theorem TakesLaw.defineDest {s : State} (h : TakesLaw s) {d : DestNo} {format : Option FormatNo} (idle : destInUse s d format = false)
    (c : DestClass) (offset : Int) : TakesLaw (defineDest d format c offset s).state := by
  refine h.of_roles (defineDest_roles _ _ _ _ s) (defineDest_follow ..) (defineDest_salvos ..) fun e k hk => ?_
  rw [defineDest_format]
  split
  · next hde =>
    subst hde
    by_contra hf
    obtain ⟨-, ha, -⟩ := destInUse_false idle (Ne.symm hf)
    rw [ha] at hk
    cases hk
  · rfl

theorem clampOffsets_format (f : FormatNo) (s : State) (e : DestNo) :
    ((clampOffsets f s).dests.get e).format = (s.dests.get e).format := by
  simp only [clampOffsets, Tbl.get_map]
  split <;> rfl

theorem TakesLaw.redefineFormat {s : State} (h : TakesLaw s) (f : FormatNo) (c : Cadence) : TakesLaw (redefineFormat f c s) := by
  rw [redefineFormat_eq]
  have stored : SameRoles s (formatStored f c s) := sameRoles_of_active (by simp [formatStored])
  refine h.of_roles ((stored.recompute _).realignFill _) (by simp [formatStored]) (by simp [formatStored]) fun e _ _ => ?_
  rw [show ∀ p x, (realignFill p x).dests = x.dests by simp, show ∀ p x, (recomputeTakes p x).dests = x.dests by simp, formatStored,
    clampOffsets_format]
  rfl

theorem storeRecording_format (d : DestNo) (on : Bool) (s : State) (e : DestNo) :
    ((storeRecording d on s).dests.get e).format = (s.dests.get e).format := by
  rw [storeRecording, State.updDest_dests, Tbl.get_modify]
  split <;> rfl

theorem storeProtection_format (d : DestNo) (p : Protection) (owner : Byte) (s : State) (e : DestNo) :
    ((storeProtection d p owner s).dests.get e).format = (s.dests.get e).format := by
  rw [storeProtection_dests, Tbl.get_modify]
  split <;> rfl

theorem TakesLaw.storeRecording {s : State} (h : TakesLaw s) (d : DestNo) (on : Bool) : TakesLaw (storeRecording d on s) :=
  h.of_same rfl rfl rfl (storeRecording_format d on s)

theorem TakesLaw.displayRecording {s : State} (h : TakesLaw s) (d : DestNo) (was on : Bool) : TakesLaw (displayRecording d was on s) :=
  h.of_same (by simp) (by simp) (by simp) (by simp)

/-- Without takes and with every slot EMPTY the law holds. -/
theorem takesLaw_of_empty {s : State} (active : ∀ d, s.active.get d = none) (follow : ∀ d, s.follow.get d = none)
    (salvos : ∀ j, s.salvos.get j = .empty) : TakesLaw s := by
  refine ⟨takeLaw_iff.mpr fun d => .empty (active d) (follow d), fun j => by rw [salvos]; exact slotFits_empty, fun j => ?_⟩
  have none_names (t : Tbl (Option Take) 128) (ht : ∀ d, t.get d = none) : t.count (names j) = 0 := by
    rw [Tbl.count_eq_zero]
    intro d
    rw [ht]
    rfl
  rw [salvos, takesNaming_eq, none_names _ active, none_names _ follow]
  rfl

/-! ## Every effect -/

theorem TakesLaw.effect {s s' : State} (h : TakesLaw s) (e : Effect s s') : TakesLaw s' := by
  cases e with
  | place t tag checked => exact (h.placeTake s _ (newTake_placeable t tag _ _ _ _ none) rfl).displayVacated s
  | cancel d => exact (h.cancelPending d _).displayVacated s
  | sweep t tag checked =>
    refine TakesLaw.displayVacated (foldl_invariant _ (fun s₁ d _ h₁ => ?_) h) s
    exact h₁.placeTake s d (newTake_placeable t tag _ _ _ _ none) rfl
  | swap t tag ne checked =>
    obtain ⟨-, hf, ha, hb⟩ := swapFailure_none checked
    exact h.createPair ne ha hb hf rfl
  | load pairs idle inRange => exact h.updSalvo _ (slotFits_loaded (h.slots _) _ _) rfl
  | clear idle => exact h.updSalvo _ slotFits_empty (not_fired idle).symm
  | fire t tag loaded checked => exact (h.fire (by rw [loaded]; simp) t tag _ _).displayVacated s
  | protection fits => exact h.of_same (by simp) (by simp) (by simp) (storeProtection_format _ _ _ s)
  | recordOn =>
    rw [recordOn_state]
    exact (((h.storeRecording _ true).cancelPending _ _).displayRecording _ _ _).displayVacated s
  | recordOff =>
    rw [recordOff_state]
    exact (h.storeRecording _ false).displayRecording _ _ _
  | destDefine c offset held defined idle => exact h.defineDest idle c offset
  | redefine => exact h.redefineFormat _ _
  | timeset v held => exact (h.cancelAllArmed.displayVacated s).of_same (by simp) (by simp) (by simp) (by simp)
  | resume => exact h.of_roles (SameRoles.congr (retargetAll_roles s) rfl rfl) (by simp) (by simp) (by simp)
  | goodArrival t c pick => exact h.goodArrival t c pick
  | commit holds armed single => exact h.commitArmed holds armed single
  | commitPair holds bound partner => exact h.commitPair holds partner bound
  | @switch d k x => exact TakesLaw.switchCut (h.of_same (by simp) (by simp) (by simp) (setCurrent_format d _ s)) d _ x
  | giveUp => exact h.giveUpJoining _
  | warmReset => exact takesLaw_of_empty (warmReset_active s) (by simp [warmReset, warmRecords]) (by simp [warmReset, warmRecords])
  | resetLine b => exact takesLaw_of_empty (by simp [State.reset]) (by simp [State.reset]) (by simp [State.reset])
  | _ => exact h.of_same (by simp) (by simp) (by simp) (by simp)

/-- Settles O10: the law of takes and the count of takes that name a slot are kept together by every effect. -/
theorem takeAndSalvoLawKept : Obligations.TakeAndSalvoLawKept := by
  unfold Obligations.TakeAndSalvoLawKept
  intro s s' takes salvos hs
  obtain ⟨slots, balanced⟩ := salvoLaw_iff.mp salvos
  have kept := step_keeps (P := TakesLaw) (fun s l h => h.of_same rfl rfl rfl fun _ => rfl)
    (fun s t h => h.of_same (by simp) (by simp) (by simp) (by simp)) (fun s t r h => h.of_same (by simp) (by simp) (by simp) (by simp))
    (fun s s' h e => h.effect e) ⟨takes, slots, balanced⟩ hs
  exact ⟨kept.takes, salvoLaw_iff.mpr ⟨kept.slots, kept.balanced⟩⟩

end Sys2Proof.Machine
end

section
/-! SUPPORT. What a source record becomes under the arrival of a cell (R26–R30, R34), the loss of its signal (R31, R32) and a warm
reset (R36): one equation for each, and what of a record all of them keep. -/

namespace Sys2Proof.Machine

/-! ## The arrival of a cell (R26) -/

/-- The sequence check on a source record (R34): the number stored, and a break counted. -/
def Source.sequenced (r : Source) (seq : BitVec 16) : Source :=
  { r with
    lastSeq := some seq
    gaps := if r.lastSeq.all (fun q => seq == q + 1) then r.gaps else bump r.gaps }

/-- A frame-start capture on a source record (R26, stages 3 and 6): counted, with L and the frame watch stored. -/
def Source.capturedAt (r : Source) (f : Format) (now : Time) : Source :=
  { r.captured f now with lastCapture := some now, frameWatch := some (watchTime f now) }

/-- A cell of a defined source on its record (R26). -/
def Source.tracked (f : Format) (now : Time) (c : Cell) (r : Source) : Source :=
  let r := (r.sequenced c.seq).entered c.frameStart
  if c.frameStart && r.captures then r.capturedAt f now else r

theorem updSource_sources_eq {s : State} {n : SourceNo} {g : Source → Source} {t : Tbl Source 128}
    (other : ∀ m, n ≠ m → t.get m = s.sources.get m) (this : t.get n = g (s.sources.get n)) : t = s.sources.modify n g := by
  refine Tbl.ext_get fun m => ?_
  rw [Tbl.get_modify]
  split
  · next h => rw [← h, this]
  · next h => rw [other m h]

theorem sequenceCheck_sources (n : SourceNo) (seq : BitVec 16) (s : State) :
    (sequenceCheck n seq s).sources = s.sources.modify n (·.sequenced seq) := by
  refine updSource_sources_eq (fun m hm => ?_) ?_
  · simp only [sequenceCheck]
    (repeat' split) <;> simp [Tbl.get_modify_ne _ _ hm]
  · simp only [sequenceCheck]
    split
    · next h => simp [Source.sequenced, h]
    · next q h => split <;> simp_all [Source.sequenced]

theorem sourceFormat_congr {s s' : State} {n : SourceNo} (formats : s'.formats = s.formats)
    (format : (s'.sources.get n).format = (s.sources.get n).format) : sourceFormat s' n = sourceFormat s n := by
  unfold sourceFormat
  rw [formats, format]

/-- Two format records with one cadence: what neither tracking nor re-anchoring changes. -/
structure SameCadence (x y : Format) : Prop where
  defined : y.defined = x.defined
  pi : y.pi = x.pi
  pn : y.pn = x.pn
  pd : y.pd = x.pd
  wl : y.wl = x.wl
  source : y.cadence = x.cadence

theorem SameCadence.refl (x : Format) : SameCadence x x := ⟨rfl, rfl, rfl, rfl, rfl, rfl⟩

theorem SameCadence.trans {x y z : Format} (h : SameCadence x y) (h' : SameCadence y z) : SameCadence x z :=
  ⟨h'.1.trans h.1, h'.2.trans h.2, h'.3.trans h.3, h'.4.trans h.4, h'.5.trans h.5, h'.6.trans h.6⟩

theorem watchTime_congr {x y : Format} (h : SameCadence x y) (l : Time) : watchTime y l = watchTime x l := by
  unfold watchTime
  rw [h.pi, h.wl]

/-- Every format keeps its cadence. -/
def SameCadences (s s' : State) : Prop := ∀ f, SameCadence (s.formats.get f) (s'.formats.get f)

theorem SameCadences.of_formats {s s' : State} (h : s'.formats = s.formats) : SameCadences s s' := fun f => by rw [h]; exact .refl _

theorem SameCadences.trans {s s' s'' : State} (h : SameCadences s s') (h' : SameCadences s' s'') : SameCadences s s'' :=
  fun f => (h f).trans (h' f)

theorem evaluateTracking_cadences (n : SourceNo) (s : State) : SameCadences s (evaluateTracking n s) := fun f => by
  rw [evaluateTracking_get]
  split <;> exact ⟨rfl, rfl, rfl, rfl, rfl, rfl⟩

theorem sourceAnnounced_cadences (n : SourceNo) (previous : SourceState) (s : State) :
    SameCadences s (sourceAnnounced n previous s) := by
  unfold sourceAnnounced
  dsimp only
  split
  · split
    · exact (evaluateTracking_cadences n s).trans (.of_formats (by simp))
    · exact .of_formats (by simp)
  · exact .of_formats rfl

theorem sourceChanged_cadences (n : SourceNo) (previous : SourceState) (s : State) : SameCadences s (sourceChanged n previous s) := by
  rw [sourceChanged_eq]
  split
  · exact (sourceAnnounced_cadences n previous s).trans (.of_formats (by simp))
  · exact sourceAnnounced_cadences n previous s

/-! ## Re-anchoring (R17) -/

/-- A format's epoch set on a capture (R17). -/
def anchored (f : FormatNo) (c : Time) (frame : FrameNo) (s : State) : State :=
  s.updFormat f fun x => { x with epoch := c, epochFrame := frame, reanchors := bump x.reanchors }

/-- Re-anchoring in its stages: the epoch, the fill timers, the ARMED takes, the report (R17). -/
theorem reanchor_eq (f : FormatNo) (c : Time) (frame : FrameNo) (dev : Int) (s : State) : reanchor f c frame dev s =
    queueMasked (.anchor f dev c frame
        (recomputeCounts (hasFormat s f) (realignFill (hasFormat s f) (anchored f c frame s))).1
        (recomputeCounts (hasFormat s f) (realignFill (hasFormat s f) (anchored f c frame s))).2)
      (recomputeTakes (hasFormat s f) (realignFill (hasFormat s f) (anchored f c frame s))) := rfl

/-- A capture of source `n` at now re-anchors format `f` (R17): it is the cadence source, the format is TRACKING, and the deviation
exceeds the window. -/
def reanchoring (s : State) (n : SourceNo) (f : FormatNo) : Prop :=
  (s.sources.get n).format = some f ∧ (s.formats.get f).cadence = some n ∧ (s.formats.get f).tracking = true ∧
    (s.formats.get f).wl.toNat < (deviation (s.formats.get f) s.houseTime).natAbs

/-- Everything that the re-anchoring comparison can do. -/
theorem reanchorCheck_cases (n : SourceNo) (s : State) :
    ((∀ f, ¬reanchoring s n f) ∧ reanchorCheck n s = s) ∨
      ∃ f, reanchoring s n f ∧ reanchorCheck n s =
        reanchor f s.houseTime (frameNumber (s.formats.get f) (nearestFrame (s.formats.get f) s.houseTime))
          (deviation (s.formats.get f) s.houseTime) s := by
  unfold reanchorCheck
  split
  · next h => exact .inl ⟨fun f hf => by simp [reanchoring, h] at hf, rfl⟩
  · next f h =>
    dsimp only
    split
    · next hc => exact .inr ⟨f, ⟨h, hc⟩, rfl⟩
    · next hc =>
      refine .inl ⟨fun g hg => hc ?_, rfl⟩
      cases h.symm.trans hg.1
      exact hg.2

theorem reanchor_formats (f : FormatNo) (c : Time) (frame : FrameNo) (dev : Int) (s : State) : (reanchor f c frame dev s).formats =
    s.formats.modify f fun x => { x with epoch := c, epochFrame := frame, reanchors := bump x.reanchors } := by
  simp [reanchor]

theorem reanchorCheck_cadences (n : SourceNo) (s : State) : SameCadences s (reanchorCheck n s) := fun f => by
  rcases reanchorCheck_cases n s with ⟨-, e⟩ | ⟨g, -, e⟩
  · rw [e]
    exact .refl _
  · rw [e, reanchor_formats, Tbl.get_modify]
    split <;> exact ⟨rfl, rfl, rfl, rfl, rfl, rfl⟩

theorem Source.counted_format (r : Source) (b : Bool) : (r.counted b).format = r.format := by
  unfold Source.counted
  (repeat' split) <;> rfl

theorem Source.captured_format (r : Source) (f : Format) (c : Time) : (r.captured f c).format = r.format := by
  unfold Source.captured
  dsimp only
  split
  · rw [Source.counted_format]
  · rfl

theorem captureFrame_sources (n : SourceNo) (s : State) :
    (captureFrame n s).sources = s.sources.modify n (·.capturedAt (sourceFormat s n) s.houseTime) := by
  set x := s.updSource n fun r => r.captured (sourceFormat s n) s.houseTime with hx
  set y := reanchorCheck n (sourceChanged n (s.sources.get n).state x) with hy
  have sources : y.sources = x.sources := by simp [hy]
  have time : y.houseTime = s.houseTime := by simp [hy, hx]
  have cadence : SameCadences x y := (sourceChanged_cadences n _ x).trans (reanchorCheck_cadences n _)
  have format : (x.sources.get n).format = (s.sources.get n).format := by simp [hx, Source.captured_format]
  have watch : watchTime (sourceFormat y n) s.houseTime = watchTime (sourceFormat s n) s.houseTime := by
    refine watchTime_congr ?_ _
    unfold sourceFormat
    rw [sources, format]
    cases (s.sources.get n).format with
    | none => exact .refl _
    | some f => exact cadence f
  have unfolded : captureFrame n s = y.updSource n fun r => { r with
      lastCapture := some y.houseTime, frameWatch := some (watchTime (sourceFormat y n) y.houseTime) } := rfl
  refine updSource_sources_eq (fun m hm => ?_) ?_
  · rw [unfolded, State.updSource_sources, Tbl.get_modify_ne _ _ hm, sources, hx, State.updSource_sources, Tbl.get_modify_ne _ _ hm]
  · rw [unfolded, State.updSource_sources, Tbl.get_modify_self, sources, time, watch, hx, State.updSource_sources, Tbl.get_modify_self]
    rfl

theorem Source.entered_format (r : Source) (b : Bool) : (r.entered b).format = r.format := by
  unfold Source.entered
  split <;> rfl

/-- A cell changes its own source's record alone, and as `Source.tracked` says (R26). -/
theorem trackCell_sources (n : SourceNo) (c : Cell) (s : State) :
    (trackCell n c s).sources = s.sources.modify n (Source.tracked (sourceFormat s n) s.houseTime c) := by
  set x := (sequenceCheck n c.seq s).updSource n (·.entered c.frameStart) with hx
  have xn : x.sources.get n = ((s.sources.get n).sequenced c.seq).entered c.frameStart := by
    rw [hx, State.updSource_sources, sequenceCheck_sources, Tbl.get_modify_self, Tbl.get_modify_self]
  have xm (m : SourceNo) (hm : n ≠ m) : x.sources.get m = s.sources.get m := by
    rw [hx, State.updSource_sources, sequenceCheck_sources, Tbl.get_modify_ne _ _ hm, Tbl.get_modify_ne _ _ hm]
  have format : sourceFormat x n = sourceFormat s n :=
    sourceFormat_congr (by simp [hx]) (by rw [xn, Source.entered_format]; rfl)
  have time : x.houseTime = s.houseTime := by simp [hx]
  have unfolded : trackCell n c s = if c.frameStart && (x.sources.get n).captures then captureFrame n x else x := rfl
  refine updSource_sources_eq (fun m hm => ?_) ?_
  · rw [unfolded]
    split
    · rw [captureFrame_sources, Tbl.get_modify_ne _ _ hm, xm m hm]
    · exact xm m hm
  · rw [unfolded, xn, Source.tracked]
    split
    · rw [captureFrame_sources, Tbl.get_modify_self, xn, format, time]
    · exact xn

/-! ## Loss, definition and warm reset -/

/-- A source record in LOST (R31): captures, frame watch, last sequence number and counts cleared. -/
def Source.gone (r : Source) : Source :=
  { r with state := .lost, lastCapture := none, frameWatch := none, lastSeq := none, inWindow := 0, outWindow := 0 }

theorem enterLost_sources (n : SourceNo) (s : State) : (enterLost n s).sources = s.sources.modify n Source.gone := by
  refine updSource_sources_eq (fun m hm => ?_) ?_
  · rw [enterLost_get, if_neg hm]
  · rw [enterLost_get, if_pos rfl]
    rfl

/-- A source record when its trunk enters QUARANTINED (R32). -/
def Source.quarantined (r : Source) : Source := if r.captures then r.gone else r

theorem quarantineSource_sources (n : SourceNo) (s : State) :
    (quarantineSource n s).sources = s.sources.modify n Source.quarantined := by
  unfold quarantineSource
  split
  · next h =>
    rw [enterLost_sources]
    exact updSource_sources_eq (fun m hm => Tbl.get_modify_ne _ _ hm) (by rw [Tbl.get_modify_self, Source.quarantined, if_pos h])
  · next h => exact updSource_sources_eq (fun m hm => rfl) (by rw [Source.quarantined, if_neg h])

theorem sourcesOf_nodup (t : Trunk) : (sourcesOf t).Nodup := by
  refine (List.nodup_map_iff fun a b h => ?_).mpr (List.nodup_finRange 16)
  simp only [sourceOf, Fin.mk.injEq] at h
  exact Fin.ext (by omega)

theorem mem_sourcesOf {t : Trunk} {n : SourceNo} : n ∈ sourcesOf t ↔ n.val / 16 = t.val := by
  simp only [sourcesOf, List.mem_map, List.mem_finRange, true_and, sourceOf, Fin.ext_iff]
  constructor
  · rintro ⟨i, hi⟩
    omega
  · intro h
    exact ⟨⟨n.val % 16, by omega⟩, by simp only; omega⟩

/-- A fold, each step of which touches one record alone, leaves every other record. -/
theorem foldl_get_other {n : Nat} {β : Type} (step : State → Fin n → State) (field : State → Tbl β n)
    (keep : ∀ s i j, i ≠ j → (field (step s i)).get j = (field s).get j) (l : List (Fin n)) (s : State) {j : Fin n} (hj : j ∉ l) :
    (field (l.foldl step s)).get j = (field s).get j := by
  induction l generalizing s with
  | nil => rfl
  | cons a l ih =>
    simp only [List.mem_cons, not_or] at hj
    obtain ⟨ha, hl⟩ := hj
    rw [List.foldl_cons, ih _ hl, keep _ _ _ (Ne.symm ha)]

/-- The sources of a trunk that enters QUARANTINED, and no others, are lost (R32). -/
theorem quarantineSources_sources_get (t : Trunk) (s : State) (n : SourceNo) : (quarantineSources t s).sources.get n =
    if n ∈ sourcesOf t then (s.sources.get n).quarantined else s.sources.get n := by
  have keep (x : State) (i j : SourceNo) (h : i ≠ j) : (quarantineSource i x).sources.get j = x.sources.get j := by
    rw [quarantineSource_sources, Tbl.get_modify_ne _ _ h]
  split
  · next hn =>
    obtain ⟨x, hx, kept, -⟩ := foldl_get_once (fun s n => quarantineSource n s) State.sources keep (sourcesOf t) (sourcesOf_nodup t) s n hn
    rw [quarantineSources, hx, quarantineSource_sources, Tbl.get_modify_self, kept]
  · next hn =>
    exact foldl_get_other _ State.sources keep _ s hn

theorem storeLabel_sources (n : SourceNo) (label : Tbl Byte 16) (s : State) :
    (storeLabel n label s).sources = s.sources.modify n fun r => { r with label } := by
  unfold storeLabel
  dsimp only
  split <;> simp

theorem storeFormat_sources (n : SourceNo) (f : Option FormatNo) (s : State) : (storeFormat n f s).sources =
    s.sources.modify n fun r => if r.format = f then r else r.redefined f := by
  unfold storeFormat
  dsimp only
  split
  · next h => exact updSource_sources_eq (fun m hm => rfl) (by rw [if_pos h])
  · next h =>
    refine updSource_sources_eq (fun m hm => ?_) ?_
    · simp [Tbl.get_modify_ne _ _ hm]
    · simp [h]

theorem warmReset_sources_get (s : State) (n : SourceNo) : (warmReset s).sources.get n = { (s.sources.get n).warm with gaps := 0 } := by
  simp [warmReset, warmBlocks, clearCounters, warmRecords]

/-! ## What a record keeps -/

/-- Two source records with one format and one usage count. -/
def SameUse (r r' : Source) : Prop := r'.format = r.format ∧ r'.usage = r.usage

theorem Source.counted_use (r : Source) (b : Bool) : SameUse r (r.counted b) := by
  unfold Source.counted
  (repeat' split) <;> exact ⟨rfl, rfl⟩

theorem Source.capturedAt_use (r : Source) (f : Format) (now : Time) : SameUse r (r.capturedAt f now) := by
  unfold Source.capturedAt Source.captured
  dsimp only
  split
  · exact Source.counted_use { r with phase := _ } _
  · exact ⟨rfl, rfl⟩

theorem Source.tracked_use (f : Format) (now : Time) (c : Cell) (r : Source) : SameUse r (Source.tracked f now c r) := by
  have entered : SameUse r ((r.sequenced c.seq).entered c.frameStart) := by
    unfold Source.entered
    split <;> exact ⟨rfl, rfl⟩
  unfold Source.tracked
  dsimp only
  split
  · have := Source.capturedAt_use ((r.sequenced c.seq).entered c.frameStart) f now
    exact ⟨this.1.trans entered.1, this.2.trans entered.2⟩
  · exact entered

theorem Source.quarantined_use (r : Source) : SameUse r r.quarantined := by
  unfold Source.quarantined
  split <;> exact ⟨rfl, rfl⟩

end Sys2Proof.Machine
end

section
/-! SUPPORT. One format behind every crosspoint (R38) and the usage counts of the sources (R35), under every effect of a step. -/

namespace Sys2Proof.Machine

/-! ## The takes of a destination -/

/-- The take stands in one of the two positions of the destination. -/
def Holds (s : State) (d : DestNo) (k : Take) : Prop := s.active.get d = some k ∨ s.follow.get d = some k

/-- Two takes with one source and one guard. -/
def SameNames (k k' : Take) : Prop := k'.source = k.source ∧ k'.guardSource = k.guardSource

theorem SameNames.refl (k : Take) : SameNames k k := ⟨rfl, rfl⟩

/-- Every take of the later state names what a take of its destination named before: no take is new. -/
def TakesFrom (s s' : State) : Prop := ∀ d k', Holds s' d k' → ∃ k, Holds s d k ∧ SameNames k k'

theorem TakesFrom.of_same {s s' : State} (active : s'.active = s.active) (follow : s'.follow = s.follow) : TakesFrom s s' :=
  fun d k h => ⟨k, by unfold Holds at h ⊢; rwa [active, follow] at h, .refl k⟩

theorem TakesFrom.trans {s s' s'' : State} (h : TakesFrom s s') (h' : TakesFrom s' s'') : TakesFrom s s'' := fun d k'' hk => by
  obtain ⟨k', hk', n'⟩ := h' d k'' hk
  obtain ⟨k, hk, n⟩ := h d k' hk'
  exact ⟨k, hk, n'.1.trans n.1, n'.2.trans n.2⟩

/-- Positions emptied, or their takes changed in place. -/
theorem TakesFrom.of_map {s s' : State} (active : ∀ d k', s'.active.get d = some k' → ∃ k, s.active.get d = some k ∧ SameNames k k')
    (follow : ∀ d k', s'.follow.get d = some k' → s.follow.get d = some k') : TakesFrom s s' := fun d k' h => by
  rcases h with h | h
  · obtain ⟨k, hk, n⟩ := active d k' h
    exact ⟨k, .inl hk, n⟩
  · exact ⟨k', .inr (follow d k' h), .refl k'⟩

/-- Positions emptied. -/
theorem TakesFrom.of_fewer {s s' : State} (active : ∀ d k, s'.active.get d = some k → s.active.get d = some k)
    (follow : ∀ d k, s'.follow.get d = some k → s.follow.get d = some k) : TakesFrom s s' :=
  .of_map (fun d k h => ⟨k, active d k h, .refl k⟩) follow

/-! ## What keeps both laws -/

/-- Every destination keeps its format and its current source. -/
def SameLines (s s' : State) : Prop :=
  ∀ d, (s'.dests.get d).format = (s.dests.get d).format ∧ (s'.dests.get d).current = (s.dests.get d).current

theorem SameLines.of_dests {s s' : State} (h : s'.dests = s.dests) : SameLines s s' := fun d => by rw [h]; exact ⟨rfl, rfl⟩

theorem SameLines.trans {s s' s'' : State} (h : SameLines s s') (h' : SameLines s' s'') : SameLines s s'' := fun d =>
  ⟨(h' d).1.trans (h d).1, (h' d).2.trans (h d).2⟩

/-- Formats, current sources and usage counts stand, and no take is new. -/
structure CrossKept (s s' : State) : Prop where
  lines : SameLines s s'
  use : ∀ n, SameUse (s.sources.get n) (s'.sources.get n)
  takes : TakesFrom s s'

theorem CrossKept.trans {s s' s'' : State} (h : CrossKept s s') (h' : CrossKept s' s'') : CrossKept s s'' where
  lines := h.lines.trans h'.lines
  use n := ⟨(h'.use n).1.trans (h.use n).1, (h'.use n).2.trans (h.use n).2⟩
  takes := h.takes.trans h'.takes

theorem CrossKept.of_same {s s' : State} (dests : s'.dests = s.dests) (sources : s'.sources = s.sources)
    (active : s'.active = s.active) (follow : s'.follow = s.follow) : CrossKept s s' :=
  ⟨.of_dests dests, fun n => by rw [sources]; exact ⟨rfl, rfl⟩, .of_same active follow⟩

theorem CrossKept.refl (s : State) : CrossKept s s := .of_same rfl rfl rfl rfl

theorem CrossKept.of_takes {s s' : State} (dests : s'.dests = s.dests) (sources : s'.sources = s.sources) (takes : TakesFrom s s') :
    CrossKept s s' :=
  ⟨.of_dests dests, fun n => by rw [sources]; exact ⟨rfl, rfl⟩, takes⟩

/-- One source record changed in neither format nor usage. -/
theorem CrossKept.of_source {s s' : State} {n : SourceNo} {g : Source → Source} (dests : s'.dests = s.dests)
    (sources : s'.sources = s.sources.modify n g) (use : ∀ r, SameUse r (g r)) (takes : TakesFrom s s') : CrossKept s s' := by
  refine ⟨.of_dests dests, fun m => ?_, takes⟩
  rw [sources, Tbl.get_modify]
  split
  · exact use _
  · exact ⟨rfl, rfl⟩

/-- The take's source and guard carry the destination's format (R38). -/
def TakeCarries (s : State) (d : DestNo) (k : Take) : Prop :=
  (∀ n, k.source = .fixed n → carries s d n) ∧ ∀ n, k.guardSource = some n → carries s d n

theorem crosspointLaw_iff {s : State} : CrosspointLaw s ↔
    (∀ d, carries s d (s.dests.get d).current) ∧ ∀ d k, Holds s d k → TakeCarries s d k := by
  refine ⟨fun h => ⟨h.current, fun d k hk => ?_⟩, fun ⟨hc, ht⟩ => ⟨hc, ?_, ?_, ?_, ?_⟩⟩
  · rcases hk with hk | hk
    · exact ⟨fun n => h.active d k n hk, fun n => h.activeGuard d k n hk⟩
    · exact ⟨fun n => h.follow d k n hk, fun n => h.followGuard d k n hk⟩
  · exact fun d k n hk => (ht d k (.inl hk)).1 n
  · exact fun d k n hk => (ht d k (.inl hk)).2 n
  · exact fun d k n hk => (ht d k (.inr hk)).1 n
  · exact fun d k n hk => (ht d k (.inr hk)).2 n

theorem carries_congr {s s' : State} {d : DestNo} (dest : (s'.dests.get d).format = (s.dests.get d).format)
    (source : ∀ n, (s'.sources.get n).format = (s.sources.get n).format) {n : Option SourceNo} (h : carries s d n) : carries s' d n :=
  fun m hm => by rw [dest, source]; exact h m hm

theorem TakeCarries.congr {s s' : State} {d : DestNo} (dest : (s'.dests.get d).format = (s.dests.get d).format)
    (source : ∀ n, (s'.sources.get n).format = (s.sources.get n).format) {k : Take} (h : TakeCarries s d k) : TakeCarries s' d k :=
  ⟨fun n hn => carries_congr dest source (h.1 n hn), fun n hn => carries_congr dest source (h.2 n hn)⟩

theorem TakeCarries.of_names {s : State} {d : DestNo} {k k' : Take} (h : TakeCarries s d k) (n : SameNames k k') : TakeCarries s d k' :=
  ⟨fun m hm => h.1 m (n.1 ▸ hm), fun m hm => h.2 m (n.2 ▸ hm)⟩

/-- The two laws of R38 and R35. -/
structure CrossLaw (s : State) : Prop where
  usage : UsageLaw s
  current : ∀ d, carries s d (s.dests.get d).current
  takes : ∀ d k, Holds s d k → TakeCarries s d k

theorem UsageLaw.of_same {s s' : State} (h : UsageLaw s) (use : ∀ n, (s'.sources.get n).usage = (s.sources.get n).usage)
    (current : ∀ d, (s'.dests.get d).current = (s.dests.get d).current) : UsageLaw s' := fun n => by
  rw [use, h n, Tbl.count_eq, Tbl.count_eq]
  simp only [current]

theorem CrossLaw.kept {s s' : State} (h : CrossLaw s) (e : CrossKept s s') : CrossLaw s' where
  usage := h.usage.of_same (fun n => (e.use n).2) fun d => (e.lines d).2
  current d := by
    rw [(e.lines d).2]
    exact carries_congr (e.lines d).1 (fun n => (e.use n).1) (h.current d)
  takes d k' hk' := by
    obtain ⟨k, hk, n⟩ := e.takes d k' hk'
    exact ((h.takes d k hk).congr (e.lines d).1 fun n => (e.use n).1).of_names n

/-! ## Ends, moves and recomputation of takes -/

theorem removeActive_takesFrom (d : DestNo) (out : TakeOutcome) (s : State) : TakesFrom s (removeActive d out s) :=
  .of_fewer (fun e k h => by rw [removeActive_get] at h; split at h <;> simp_all) fun e k h => by simpa using h

theorem removeArmed_takesFrom (d : DestNo) (out : TakeOutcome) (s : State) : TakesFrom s (removeArmed d out s) :=
  .of_fewer (fun e k h => by rw [removeArmed_get] at h; split at h <;> simp_all) fun e k h => by simpa using h

theorem removeFollow_takesFrom (d : DestNo) (out : TakeOutcome) (s : State) : TakesFrom s (removeFollow d out s) :=
  .of_fewer (fun e k h => by simpa using h) fun e k h => by rw [removeFollow_get] at h; split at h <;> simp_all

theorem promote_takesFrom (d : DestNo) (s : State) : TakesFrom s (promote d s) := fun e k' h => by
  cases hq : s.follow.get d with
  | none =>
    rw [promote_none hq] at h
    exact ⟨k', h, .refl k'⟩
  | some q =>
    rcases h with h | h
    · by_cases he : d = e
      · subst he
        rw [promote_active_self hq] at h
        cases h
        exact ⟨q, .inr hq, rfl, rfl⟩
      · rw [promote_active_ne _ _ he] at h
        exact ⟨k', .inl h, .refl k'⟩
    · rw [promote_follow] at h
      split at h
      · cases h
      · exact ⟨k', .inr h, .refl k'⟩

theorem complete_takesFrom (d : DestNo) (ended : JoinEnd) (s : State) : TakesFrom s (complete d ended s) := by
  by_cases hc : isCommitted (s.active.get d) = true
  · obtain ⟨k, hk, ks⟩ := isCommitted_iff.mp hc
    rw [complete_eq hk ks]
    have removed : TakesFrom s (requestDisplay d (removeActive d (outcomeOf ended k.late) s)) :=
      (removeActive_takesFrom d (outcomeOf ended k.late) s).trans (.of_same (by simp) (by simp))
    exact (removed.trans (promote_takesFrom d _)).trans (.of_same (by simp) (by simp))
  · rw [complete_idle (by simpa using hc)]
    exact .of_same rfl rfl

theorem recomputed_names (s : State) (d : DestNo) (k : Take) : SameNames k (recomputed s d k) := by
  unfold recomputed
  split <;> exact ⟨rfl, rfl⟩

theorem recomputeTakes_takesFrom (p : DestNo → Bool) (s : State) : TakesFrom s (recomputeTakes p s) := by
  refine .of_map (fun d k' h => ?_) fun d k h => by simpa using h
  rw [recomputeTakes_get] at h
  split at h
  · rw [Option.map_eq_some_iff] at h
    obtain ⟨k, hk, rfl⟩ := h
    refine ⟨k, hk, ?_⟩
    split
    · exact recomputed_names s d k
    · exact .refl k
  · exact ⟨k', h, .refl k'⟩

theorem retargetAll_takesFrom (s : State) : TakesFrom s (retargetAll s) := by
  refine .of_map (fun d k' h => ?_) fun d k h => by simpa using h
  rw [retargetAll_get] at h
  split at h
  · rw [Option.map_eq_some_iff] at h
    obtain ⟨k, hk, rfl⟩ := h
    exact ⟨k, hk, rfl, rfl⟩
  · exact ⟨k', h, .refl k'⟩

theorem cancelPending_takesFrom (d : DestNo) (spare : Take → Bool) (s : State) : TakesFrom s (cancelPending d spare s) := by
  have removed : TakesFrom s (if removesArmed s d spare then removeArmed d .cancelled s else s) := by
    split
    · exact removeArmed_takesFrom d _ s
    · exact .of_same rfl rfl
  unfold cancelPending
  dsimp only
  split
  · exact removed.trans (removeFollow_takesFrom d _ _)
  · exact removed

theorem cancelAllArmed_takesFrom (s : State) : TakesFrom s (cancelAllArmed s) :=
  foldl_invariant (P := TakesFrom s) (List.finRange 128) (fun s₁ d _ h => by
    split
    · exact h.trans (removeArmed_takesFrom d _ s₁)
    · exact h) (.of_same rfl rfl)

/-- A take changed in place. -/
theorem setActive_takesFrom {s : State} {d : DestNo} {k k' : Take} (hk : s.active.get d = some k) (n : SameNames k k') :
    TakesFrom s (s.setActive d (some k')) := by
  refine .of_map (fun e q h => ?_) fun e q h => h
  rw [State.setActive_active, Tbl.get_set] at h
  split at h
  · next he =>
    subst he
    cases h
    exact ⟨k, hk, n⟩
  · exact ⟨q, h, .refl q⟩

theorem commitArmed_takesFrom {s : State} {d : DestNo} {k : Take} (hk : s.active.get d = some k) : TakesFrom s (commitArmed d k s) := by
  unfold commitArmed
  (repeat' split)
  · exact setActive_takesFrom hk ⟨rfl, rfl⟩
  · exact setActive_takesFrom hk ⟨rfl, rfl⟩
  · exact (removeActive_takesFrom d .guardFail s).trans (.of_same (by simp) (by simp))

/-! ## Streams -/

theorem TakesFrom.after {s s' s'' : State} (h : TakesFrom s s') (active : s''.active = s'.active) (follow : s''.follow = s'.follow) :
    TakesFrom s s'' := h.trans (.of_same active follow)

theorem reanchorCheck_takesFrom (n : SourceNo) (s : State) : TakesFrom s (reanchorCheck n s) := by
  rcases reanchorCheck_cases n s with ⟨-, e⟩ | ⟨f, -, e⟩
  · rw [e]
    exact .of_same rfl rfl
  · rw [e, reanchor_eq]
    set x := realignFill (hasFormat s f) (anchored f s.houseTime _ s) with hx
    have realigned : TakesFrom s x := .of_same (by simp [hx, anchored]) (by simp [hx, anchored])
    exact (realigned.trans (recomputeTakes_takesFrom (hasFormat s f) x)).after (by simp) (by simp)

theorem captureFrame_takesFrom (n : SourceNo) (s : State) : TakesFrom s (captureFrame n s) := by
  have changed : TakesFrom s (sourceChanged n (s.sources.get n).state
      (s.updSource n fun r => r.captured (sourceFormat s n) s.houseTime)) := .of_same (by simp) (by simp)
  exact (changed.trans (reanchorCheck_takesFrom n _)).after rfl rfl

theorem trackCell_takesFrom (n : SourceNo) (c : Cell) (s : State) : TakesFrom s (trackCell n c s) := by
  have entered : TakesFrom s ((sequenceCheck n c.seq s).updSource n (·.entered c.frameStart)) := .of_same (by simp) (by simp)
  unfold trackCell
  dsimp only
  split
  · exact entered.trans (captureFrame_takesFrom n _)
  · exact entered

theorem trackCell_crossKept (n : SourceNo) (c : Cell) (s : State) : CrossKept s (trackCell n c s) :=
  .of_source (by simp) (trackCell_sources n c s) (Source.tracked_use _ _ c) (trackCell_takesFrom n c s)

theorem receiveCell_takesFrom (n : SourceNo) (locked : Bool) (d : DestNo) (s : State) : TakesFrom s (receiveCell n locked d s) := by
  unfold receiveCell
  split
  · exact .of_same rfl rfl
  · exact TakesFrom.trans (s' := s.updSwitching d _) (.of_same rfl rfl) (complete_takesFrom d _ _)
  · exact .of_same rfl rfl

theorem missCell_takesFrom (n : SourceNo) (locked : Bool) (d : DestNo) (s : State) : TakesFrom s (missCell n locked d s) := by
  unfold missCell
  split
  · exact .of_same (by simp) (by simp)
  · exact .of_same rfl rfl
  · exact .of_same rfl rfl
  · exact TakesFrom.trans (s' := armFillLater d (s.updSwitching d _)) (.of_same (by simp) (by simp)) (complete_takesFrom d _ _)

theorem replicate_crossKept (n : SourceNo) (c : Cell) (pick : PoolNo) (s : State) : CrossKept s (replicate n c pick s) := by
  refine .of_takes (by simp) (by simp) ?_
  obtain ⟨got, s₂, e, hs⟩ := replicate_settles n c pick s
  have stored : TakesFrom s s₂ := by
    rw [hs]
    exact .of_same (by simp) (by simp)
  rw [e]
  refine foldl_invariant _ (fun s₁ d _ h => ?_) stored
  split
  · exact h.trans (receiveCell_takesFrom n _ d s₁)
  · exact h.trans (missCell_takesFrom n _ d s₁)

theorem goodArrival_crossKept (t : Trunk) (c : Cell) (pick : PoolNo) (s : State) : CrossKept s (goodArrival t c pick s) := by
  have counted : CrossKept s (goodCell t (s.updReceiver t fun r => { r with good := bump r.good })) :=
    .of_same (by simp) (by simp) (by simp) (by simp)
  unfold goodArrival
  dsimp only
  (repeat' split)
  case isFalse.isTrue =>
    unfold essenceArrival
    dsimp only
    split
    · exact counted.trans (.of_same rfl rfl rfl rfl)
    · exact (counted.trans (trackCell_crossKept _ c _)).trans (replicate_crossKept _ c pick _)
  all_goals exact .of_same (by simp) (by simp) (by simp) (by simp)

theorem quarantineSources_crossKept (t : Trunk) (s : State) : CrossKept s (quarantineSources t s) := by
  refine ⟨.of_dests (by simp), fun n => ?_, .of_same (by simp) (by simp)⟩
  rw [quarantineSources_sources_get]
  split
  · exact Source.quarantined_use _
  · exact ⟨rfl, rfl⟩

theorem erroredArrival_crossKept (t : Trunk) (s : State) : CrossKept s (erroredArrival t s) := by
  obtain ⟨s₁, hs, e | ⟨previous, e⟩⟩ := erroredArrival_cases t s
  · rw [e, hs]
    exact .of_same rfl rfl rfl rfl
  · have first : CrossKept s s₁ := by
      rw [hs]
      exact .of_same rfl rfl rfl rfl
    rw [e]
    exact (first.trans (quarantineSources_crossKept t s₁)).trans (.of_same (by simp) (by simp) (by simp) (by simp))

/-! ## Placement -/

/-- A take of a destination after a placement is the one placed, or one of before. -/
theorem placeTake_holds {b : State} {d : DestNo} {k : Take} {s : State} {e : DestNo} {k' : Take} (h : Holds (placeTake b d k s) e k') :
    (d = e ∧ SameNames k k') ∨ Holds s e k' := by
  rcases h with h | h
  · rw [placeTake_active_get] at h
    split at h
    · exact .inr (.inl h)
    · split at h
      · next hde =>
        cases h
        exact .inl ⟨hde, rfl, rfl⟩
      · split at h
        · cases h
        · exact .inr (.inl h)
  · rw [placeTake_follow_get] at h
    split at h
    · next hde =>
      cases h
      exact .inl ⟨hde.2, rfl, rfl⟩
    · exact .inr (.inr h)

theorem CrossLaw.placeTake {s : State} (h : CrossLaw s) (b : State) (d : DestNo) {k : Take} (hk : TakeCarries s d k) :
    CrossLaw (placeTake b d k s) where
  usage := h.usage.of_same (fun n => by simp) fun e => by simp
  current e := by
    rw [show (Machine.placeTake b d k s).dests = s.dests by simp]
    exact carries_congr (by simp) (by simp) (h.current e)
  takes e k' hk' := by
    refine TakeCarries.congr (s := s) (by simp) (by simp) ?_
    rcases placeTake_holds hk' with ⟨rfl, n⟩ | hk'
    · exact hk.of_names n
    · exact h.takes e k' hk'

theorem carries_of_sourceCarries {s : State} {d : DestNo} {n : Option SourceNo} (hd : (s.dests.get d).format.isSome = true)
    (h : sourceCarries s (s.dests.get d).format n = true) : carries s d n := fun m hm => by
  subst hm
  exact ⟨hd, by simpa [sourceCarries] using h⟩

/-- What the checks of R60 establish of the take they let through. -/
theorem requested_carries {s : State} {owner : Byte} {flag : Bool} {arm : Arm} {r : Request}
    (h : requestFailure s owner flag arm r = none) (t : Trunk) (tag : Tag) (b : Bool) (slot : Option SlotNo) :
    TakeCarries s r.dest { newTake t tag (.fixed r.source) r.guardSource r.target b with salvo := slot } := by
  obtain ⟨hd, hs, hg⟩ := requestFailure_none h
  refine ⟨fun n hn => ?_, fun n hn => ?_⟩
  · cases hn
    exact carries_of_sourceCarries hd hs
  · have : r.guardSource = some n := hn
    rw [this] at hg
    exact carries_of_sourceCarries hd hg

theorem CrossLaw.foldl_place {α : Type} {l : List α} {s : State} (h : CrossLaw s) (place : State → α → State)
    (step : ∀ s₁, ∀ x ∈ l, CrossLaw s₁ → s₁.dests = s.dests → s₁.sources = s.sources → CrossLaw (place s₁ x))
    (dests : ∀ s₁ x, (place s₁ x).dests = s₁.dests) (sources : ∀ s₁ x, (place s₁ x).sources = s₁.sources) :
    CrossLaw (l.foldl place s) :=
  (foldl_invariant (P := fun s₁ => CrossLaw s₁ ∧ s₁.dests = s.dests ∧ s₁.sources = s.sources) l
    (fun s₁ x hx hs => ⟨step s₁ x hx hs.1 hs.2.1 hs.2.2, (dests s₁ x).trans hs.2.1, (sources s₁ x).trans hs.2.2⟩) ⟨h, rfl, rfl⟩).1

/-- Either half of a new SWAP pair names no source yet. -/
theorem createPair_holds {k : Take} {a b : DestNo} {s : State} {e : DestNo} {k' : Take} (hk : k.source = .unfixed)
    (hg : k.guardSource = none) (h : Holds (createPair k a b s) e k') : (k'.source = .unfixed ∧ k'.guardSource = none) ∨ Holds s e k' := by
  rcases h with h | h
  · simp only [createPair, displayVacated_frame, displayPlaced_frame, placeHalf_active_get] at h
    split at h
    · cases h
      exact .inl ⟨hk, hg⟩
    · split at h
      · cases h
        exact .inl ⟨hk, hg⟩
      · have fewer := (removeArmed_takesFrom a .superseded s).trans (removeArmed_takesFrom b .superseded _)
        rw [removeArmed_get] at h
        split at h
        · cases h
        · rw [removeArmed_get] at h
          split at h
          · cases h
          · exact .inr (.inl h)
  · exact .inr (.inr (by simpa using h))

theorem CrossLaw.createPair {s : State} (h : CrossLaw s) {k : Take} (a b : DestNo) (hk : k.source = .unfixed)
    (hg : k.guardSource = none) : CrossLaw (createPair k a b s) where
  usage := h.usage.of_same (fun n => by simp) fun e => by simp
  current e := by
    rw [show (Machine.createPair k a b s).dests = s.dests by simp]
    exact carries_congr (by simp) (by simp) (h.current e)
  takes e k' hk' := by
    refine TakeCarries.congr (s := s) (by simp) (by simp) ?_
    rcases createPair_holds hk hg hk' with ⟨hs, hg'⟩ | hk'
    · exact ⟨fun n hn => by simp [hs] at hn, fun n hn => by simp [hg'] at hn⟩
    · exact h.takes e k' hk'

/-! ## SWAP pairs and switches -/

/-- Both halves receive the other destination's current source, which carries the pair's one format (R119, R121). -/
theorem CrossLaw.commitPair {s : State} (h : CrossLaw s) (takes : TakeLaw s) {d p : DestNo} {k q : Take} (hk : s.active.get d = some k)
    (hq : s.active.get p = some q) (hb : boundPartner s d = some p) : CrossLaw (commitPair d p k q s) := by
  obtain ⟨k', -, hk', -, ka, -, kp, -⟩ := boundPartner_some hb
  cases hk.symm.trans hk'
  obtain ⟨-, ne, hf⟩ := takes.bound d k p hk ka kp
  have other {x y : DestNo} (hxy : (s.dests.get y).format = (s.dests.get x).format) : carries s x (s.dests.get y).current :=
    fun m hm => by
      obtain ⟨hs, he⟩ := h.current y m hm
      exact ⟨hxy ▸ hs, he.trans hxy⟩
  refine ⟨h.usage.of_same (fun n => by simp) fun e => by simp, fun e => ?_, fun e k' hk' => ?_⟩
  · rw [show (Machine.commitPair d p k q s).dests = s.dests by simp]
    exact carries_congr (by simp) (by simp) (h.current e)
  · refine TakeCarries.congr (s := s) (by simp) (by simp) ?_
    rcases hk' with hk' | hk'
    · unfold Machine.commitPair at hk'
      split at hk'
      · simp only [commitTake, State.setActive_active, Tbl.get_set] at hk'
        split at hk'
        · next hpe =>
          subst hpe
          cases hk'
          exact ⟨fun n hn => by cases hn; exact other hf.symm, (h.takes p q (.inl hq)).2⟩
        · split at hk'
          · next hde =>
            subst hde
            cases hk'
            exact ⟨fun n hn => by cases hn; exact other hf, (h.takes d k (.inl hk)).2⟩
          · exact h.takes e k' (.inl hk')
      · simp only [deferTake, State.setActive_active, Tbl.get_set] at hk'
        split at hk'
        · next hpe =>
          subst hpe
          cases hk'
          exact h.takes p q (.inl hq)
        · split at hk'
          · next hde =>
            subst hde
            cases hk'
            exact h.takes d k (.inl hk)
          · exact h.takes e k' (.inl hk')
    · exact h.takes e k' (.inr (by simpa using hk'))

/-- A source record after a switch from `old` to `new`: its usage count alone (R35). -/
theorem moveUsage_get (old new : Option SourceNo) (s : State) (n : SourceNo) :
    (moveUsage old new s).sources.get n = { s.sources.get n with
      usage := (if old = some n then (s.sources.get n).usage - 1 else (s.sources.get n).usage) + if new = some n then 1 else 0 } := by
  unfold moveUsage
  cases old <;> cases new <;> simp only [State.updSource_sources, Tbl.get_modify, Option.some.injEq, reduceCtorEq, if_false] <;>
    (repeat' split) <;> simp_all

theorem setCurrent_sources_get (d : DestNo) (new : Option SourceNo) (s : State) (n : SourceNo) :
    (setCurrent d new s).sources.get n = { s.sources.get n with
      usage := (if (s.dests.get d).current = some n then (s.sources.get n).usage - 1 else (s.sources.get n).usage) +
        if new = some n then 1 else 0 } := moveUsage_get _ new _ n

theorem CrossLaw.setCurrent {s : State} (h : CrossLaw s) {d : DestNo} {new : Option SourceNo} (hn : carries s d new) :
    CrossLaw (setCurrent d new s) := by
  have source (n : SourceNo) : ((Machine.setCurrent d new s).sources.get n).format = (s.sources.get n).format := by
    rw [setCurrent_sources_get]
  have get (e : DestNo) : (Machine.setCurrent d new s).dests.get e =
      if d = e then { s.dests.get e with current := new } else s.dests.get e := by
    rw [setCurrent_dests, Tbl.get_modify]
  refine ⟨fun n => ?_, fun e => ?_, fun e k hk => ?_⟩
  · have moved := congrArg Source.usage (setCurrent_sources_get d new s n)
    obtain ⟨y, hy, dests⟩ : ∃ y : Dest, y.current = new ∧ (Machine.setCurrent d new s).dests = s.dests.set d y :=
      ⟨_, rfl, setCurrent_dests d new s⟩
    have counted := count_set s.dests d y (fun x => x.current == some n)
    have before := h.usage n
    rw [dests]
    simp only [beq_iff_eq, hy] at moved counted
    by_cases ho : (s.dests.get d).current = some n
    · rw [if_pos ho] at moved counted
      have positive : s.dests.count (fun x => x.current == some n) ≠ 0 := fun zero => by
        have := (Tbl.count_eq_zero _ _).mp zero d
        simp [ho] at this
      rw [moved, before]
      omega
    · rw [if_neg ho] at moved counted
      rw [moved, before, ← counted, Nat.add_zero]
  · refine carries_congr (s := s) (setCurrent_format d new s e) source ?_
    rw [get]
    split
    · next hde => exact hde ▸ hn
    · exact h.current e
  · exact TakeCarries.congr (s := s) (setCurrent_format d new s e) source (h.takes e k (by simpa [Holds] using hk))

theorem switchCut_takesFrom (d : DestNo) (new : Option SourceNo) (x : Time) (s : State) : TakesFrom s (switchCut d new x s) := by
  unfold switchCut
  split
  · split
    · exact TakesFrom.trans (s' := armFillNext d (postFill d (s.updSwitching d _))) (.of_same (by simp) (by simp))
        (complete_takesFrom d _ _)
    · (repeat' split) <;> exact .of_same rfl rfl
  · exact .of_same rfl rfl

theorem giveUpJoining_takesFrom (d : DestNo) (s : State) : TakesFrom s (giveUpJoining d s) :=
  TakesFrom.trans (s' := armFillNext d (postFill d (s.updSwitching d _))) (.of_same (by simp) (by simp)) (complete_takesFrom d _ _)

/-! ## Definitions -/

/-- A source in no use is named by no crosspoint and no take (R21). -/
theorem sourceInUse_false {s : State} {n : SourceNo} (h : sourceInUse s n = false) :
    (s.sources.get n).usage = 0 ∧ ∀ d k, Holds s d k → k.source ≠ .fixed (some n) ∧ k.guardSource ≠ some (some n) := by
  simp only [sourceInUse, Bool.or_eq_false_iff, decide_eq_false_iff_not, not_lt, Nat.le_zero] at h
  obtain ⟨⟨⟨⟨hu, -⟩, ha⟩, hf⟩, -⟩ := h
  have table (t : Tbl (Option Take) 128) (ht : t.rows.any (·.any (·.namesSource n)) = false) (d : DestNo) (k : Take)
      (hk : t.get d = some k) : k.source ≠ .fixed (some n) ∧ k.guardSource ≠ some (some n) := by
    have := Bool.eq_false_iff.mp ht
    rw [ne_eq, Tbl.any_rows, not_exists] at this
    have := this d
    rw [hk] at this
    simpa [Take.namesSource] using this
  exact ⟨hu, fun d k hk => hk.elim (table _ ha d k) (table _ hf d k)⟩

/-- Without use, a source's record may change its format (R21). -/
theorem CrossLaw.storeFormat {s : State} (h : CrossLaw s) {n : SourceNo} {f : Option FormatNo}
    (idle : f ≠ (s.sources.get n).format → sourceInUse s n = false) : CrossLaw (storeFormat n f s) := by
  have get (m : SourceNo) : (Machine.storeFormat n f s).sources.get m =
      if n = m then (if (s.sources.get m).format = f then s.sources.get m else (s.sources.get m).redefined f) else s.sources.get m := by
    rw [storeFormat_sources, Tbl.get_modify]
  have usage (m : SourceNo) : ((Machine.storeFormat n f s).sources.get m).usage = (s.sources.get m).usage := by
    rw [get]
    (repeat' split) <;> rfl
  by_cases hf : f = (s.sources.get n).format
  · refine h.kept ⟨.of_dests (by simp), fun m => ⟨?_, usage m⟩, .of_same (by simp) (by simp)⟩
    rw [get]
    split
    · next hnm => rw [← hnm, if_pos hf.symm]
    · rfl
  · obtain ⟨unused, unnamed⟩ := sourceInUse_false (idle hf)
    have format {m : SourceNo} (hm : n ≠ m) : ((Machine.storeFormat n f s).sources.get m).format = (s.sources.get m).format := by
      rw [get, if_neg hm]
    have keep {d : DestNo} {o : Option SourceNo} (ho : o ≠ some n) (hc : carries s d o) : carries (Machine.storeFormat n f s) d o :=
      fun m hm => by
        rw [format fun hnm => ho (hnm ▸ hm)]
        simpa using hc m hm
    refine ⟨h.usage.of_same usage fun e => by simp, fun d => ?_, fun d k hk => ?_⟩
    · rw [show (Machine.storeFormat n f s).dests = s.dests by simp]
      refine keep (fun hd => ?_) (h.current d)
      have zero := (h.usage n).symm.trans unused
      rw [Tbl.count_eq_zero] at zero
      have := zero d
      simp [hd] at this
    · have hk : Holds s d k := by simpa [Holds] using hk
      obtain ⟨hs, hg⟩ := unnamed d k hk
      have := h.takes d k hk
      exact ⟨fun m hm => keep (fun e => hs (by rw [hm, e])) (this.1 m hm), fun m hm => keep (fun e => hg (by rw [hm, e])) (this.2 m hm)⟩

theorem defineDest_sources (d : DestNo) (format : Option FormatNo) (c : DestClass) (offset : Int) (s : State) :
    (defineDest d format c offset s).state.sources = s.sources := by
  rw [defineDest_state]
  cases format with
  | none =>
    dsimp only
    split <;> simp [undefineDest]
  | some f => simp

theorem defineDest_current (d : DestNo) (format : Option FormatNo) (c : DestClass) (offset : Int) (s : State) (e : DestNo) :
    ((defineDest d format c offset s).state.dests.get e).current = (s.dests.get e).current := by
  have stored : ((storeClass d c s).dests.get e).current = (s.dests.get e).current := by
    rw [storeClass_dests, Tbl.get_modify]
    split <;> rfl
  rw [defineDest_state]
  cases format with
  | none =>
    dsimp only
    split
    · rw [undefineDest, State.updSwitching_dests, State.updDest_dests, Tbl.get_modify, ← stored]
      split <;> rfl
    · exact stored
  | some f =>
    rw [formatDest_dests, Tbl.get_modify, ← stored]
    split <;> rfl

theorem defineDest_takesFrom (d : DestNo) (format : Option FormatNo) (c : DestClass) (offset : Int) (s : State) :
    TakesFrom s (defineDest d format c offset s).state := by
  rw [defineDest_state]
  cases format with
  | none =>
    dsimp only
    split <;> exact .of_same (by simp [undefineDest]) (by simp [undefineDest])
  | some f =>
    dsimp only
    unfold formatDest offsetMoved
    dsimp only
    have stored : TakesFrom s ((storeClass d c s).updDest d fun x => { x with
        format := some f, offset := clampOffset (s.formats.get f) offset }) := .of_same (by simp) (by simp)
    (repeat' split)
    case h_2.isFalse.isFalse => exact (stored.trans (recomputeTakes_takesFrom (· == d) _)).after (by simp) (by simp)
    all_goals exact stored.after (by simp) (by simp)

/-- A destination that changes its format is on no source and holds no take (R39). -/
theorem CrossLaw.defineDest {s : State} (h : CrossLaw s) {d : DestNo} {format : Option FormatNo} (idle : destInUse s d format = false)
    (c : DestClass) (offset : Int) : CrossLaw (defineDest d format c offset s).state := by
  set s' := (Machine.defineDest d format c offset s).state with hs
  have source (n : SourceNo) : (s'.sources.get n).format = (s.sources.get n).format := by rw [hs, defineDest_sources]
  have kept {e : DestNo} (he : d ≠ e ∨ (s.dests.get d).format = format) : (s'.dests.get e).format = (s.dests.get e).format := by
    rw [hs, defineDest_format]
    split
    · next hde =>
      subst hde
      exact (he.resolve_left (not_not.mpr rfl)).symm
    · rfl
  refine ⟨h.usage.of_same (fun n => by rw [hs, defineDest_sources]) (defineDest_current d format c offset s), fun e => ?_, fun e k' hk' => ?_⟩
  · rw [hs, defineDest_current]
    by_cases he : d ≠ e ∨ (s.dests.get d).format = format
    · exact carries_congr (kept he) source (h.current e)
    · obtain ⟨rfl, hf⟩ := not_or.mp he |>.imp_left not_not.mp
      rw [(destInUse_false idle hf).1]
      exact fun m hm => by cases hm
  · obtain ⟨k, hk, n⟩ := defineDest_takesFrom d format c offset s e k' hk'
    by_cases he : d ≠ e ∨ (s.dests.get d).format = format
    · exact ((h.takes e k hk).congr (kept he) source).of_names n
    · obtain ⟨rfl, hf⟩ := not_or.mp he |>.imp_left not_not.mp
      obtain ⟨-, ha, hq⟩ := destInUse_false idle hf
      simp [Holds, ha, hq] at hk

/-! ## Every effect -/

theorem storeProtection_lines (d : DestNo) (p : Protection) (owner : Byte) (s : State) : SameLines s (storeProtection d p owner s) :=
  fun e => by
    rw [storeProtection_dests, Tbl.get_modify]
    split <;> exact ⟨rfl, rfl⟩

theorem storeRecording_lines (d : DestNo) (on : Bool) (s : State) : SameLines s (storeRecording d on s) := fun e => by
  rw [storeRecording, State.updDest_dests, Tbl.get_modify]
  split <;> exact ⟨rfl, rfl⟩

theorem clampOffsets_lines (f : FormatNo) (s : State) : SameLines s (clampOffsets f s) := fun e => by
  simp only [clampOffsets, Tbl.get_map]
  split <;> exact ⟨rfl, rfl⟩

theorem redefineFormat_crossKept (f : FormatNo) (c : Cadence) (s : State) : CrossKept s (redefineFormat f c s) := by
  have stored : TakesFrom s (formatStored f c s) := .of_same (by simp [formatStored]) (by simp [formatStored])
  refine ⟨?_, fun n => by simp [SameUse], ?_⟩
  · rw [redefineFormat_eq]
    have updated : SameLines s ((s.updFormat f (·.redefined c)).updFormat f fun x => { x with tracking := isTracking s.sources f x }) :=
      .of_dests rfl
    exact (updated.trans (clampOffsets_lines f _)).trans (.of_dests (by simp [formatStored]))
  · rw [redefineFormat_eq]
    exact (stored.trans (recomputeTakes_takesFrom (hasFormat (formatStored f c s) f) _)).after (by simp) (by simp)

theorem timeset_crossKept (v : Time) (s : State) : CrossKept s (shiftTimes v (displayVacated s (cancelAllArmed s))) := by
  refine ⟨.of_dests (by simp), fun n => by simp [shiftTimes, SameUse], ?_⟩
  exact (cancelAllArmed_takesFrom s).after (by simp) (by simp)

theorem warmReset_crossKept (s : State) : CrossKept s (warmReset s) := by
  refine ⟨.of_dests (by simp), fun n => ?_, .of_fewer (fun d k h => ?_) fun d k h => ?_⟩
  · rw [warmReset_sources_get]
    exact ⟨rfl, rfl⟩
  · simp [warmReset, warmRecords] at h
  · simp [warmReset, warmRecords] at h

theorem recordOn_crossKept (d : DestNo) (s : State) : CrossKept s (recordOn d s).state := by
  rw [recordOn_state]
  have stored : CrossKept s (storeRecording d true s) := ⟨storeRecording_lines d true s, fun n => ⟨rfl, rfl⟩, .of_same rfl rfl⟩
  exact (stored.trans (.of_takes (by simp) (by simp) (cancelPending_takesFrom d (·.overrideUsed) _))).trans
    (.of_same (by simp) (by simp) (by simp) (by simp))

theorem CrossLaw.reset (b : Bool) (l : List Instr) : CrossLaw { State.reset with pending := l, resetLine := b } where
  usage n := by
    have : Tbl.count (fun x : Dest => x.current == some n) (Tbl.fill 128 Dest.reset) = 0 := by
      rw [Tbl.count_eq_zero]
      simp [Dest.reset]
    simp [State.reset, Source.reset, this]
  current d := fun m hm => by simp [State.reset, Dest.reset] at hm
  takes d k hk := by simp [Holds, State.reset] at hk

theorem CrossLaw.displayVacated {s : State} (h : CrossLaw s) (before : State) : CrossLaw (displayVacated before s) :=
  h.kept (.of_same (by simp) (by simp) (by simp) (by simp))

theorem CrossLaw.effect {s s' : State} (h : CrossLaw s) (takes : TakeLaw s) (e : Effect s s') : CrossLaw s' := by
  cases e with
  | place t tag checked =>
    exact (h.placeTake s _ (requested_carries checked t tag _ none)).displayVacated s
  | cancel d =>
    exact (h.kept (.of_takes (by simp) (by simp) (cancelPending_takesFrom d (fun _ => false) s))).displayVacated s
  | sweep t tag checked =>
    refine (h.foldl_place _ (fun s₁ d hd h₁ dests sources => ?_) (fun s₁ d => by simp) fun s₁ d => by simp).displayVacated s
    exact h₁.placeTake s d ((requested_carries (checked d hd) t tag false none).congr (by rw [dests]) (by rw [sources]; exact fun _ => rfl))
  | swap t tag ne checked => exact h.createPair _ _ rfl rfl
  | fire t tag loaded checked =>
    refine CrossLaw.displayVacated (CrossLaw.foldl_place (s := s.updSalvo _ _) (h.kept (.of_same rfl rfl rfl rfl)) _
      (fun s₁ x hx h₁ dests sources => ?_) (fun s₁ x => by simp) fun s₁ x => by simp) s
    refine CrossLaw.placeTake (s := s₁.updSalvo _ _) (h₁.kept (.of_same rfl rfl rfl rfl)) s x.2.dest ?_
    exact (requested_carries (checked x hx) t tag false (some _)).congr (by rw [State.updSalvo_dests, dests]; rfl)
      (by rw [State.updSalvo_sources, sources]; exact fun _ => rfl)
  | protection => exact h.kept ⟨storeProtection_lines _ _ _ s, fun n => by simp [SameUse], .of_same (by simp) (by simp)⟩
  | recordOn => exact h.kept (recordOn_crossKept _ s)
  | recordOff d =>
    rw [recordOff_state]
    refine h.kept (CrossKept.trans (s' := storeRecording d false s) ⟨storeRecording_lines d false s, fun n => ⟨rfl, rfl⟩, .of_same rfl rfl⟩ ?_)
    exact .of_same (by simp) (by simp) (by simp) (by simp)
  | destDefine c offset held defined idle => exact h.defineDest idle c offset
  | @sourceDefine n f label defined idle =>
    exact (h.storeFormat idle).kept (.of_source (by simp) (storeLabel_sources n label _) (fun r => ⟨rfl, rfl⟩) (.of_same (by simp) (by simp)))
  | tally n bits =>
    exact h.kept (.of_source (n := n) (g := fun r => { r with tally := bits }) (by simp) (by simp) (fun r => ⟨rfl, rfl⟩) (.of_same (by simp) (by simp)))
  | redefine => exact h.kept (redefineFormat_crossKept _ _ s)
  | timeset v held => exact h.kept (timeset_crossKept v s)
  | resume => exact h.kept (.of_takes (by simp) (by simp) ((retargetAll_takesFrom s).after rfl rfl))
  | warmReset => exact h.kept (warmReset_crossKept s)
  | clearCounters =>
    exact h.kept ⟨.of_dests (by simp), fun n => by simp [clearCounters, SameUse], .of_same (by simp) (by simp)⟩
  | goodArrival t c pick => exact h.kept (goodArrival_crossKept t c pick s)
  | erroredArrival t => exact h.kept (erroredArrival_crossKept t s)
  | resetLine b => exact .reset b _
  | commit holds armed single => exact h.kept (.of_takes (by simp) (by simp) (commitArmed_takesFrom holds))
  | commitPair holds bound partner => exact h.commitPair takes holds partner bound
  | @switch d k x holds committed steady =>
    have hn : carries s d k.source.resolved := by
      have carried := (h.takes d k (.inl holds)).1
      cases hs : k.source with
      | fixed n => exact carried n hs
      | unfixed => exact fun m hm => by cases hm
    exact (h.setCurrent hn).kept (.of_takes (by simp) (by simp) (switchCut_takesFrom d _ x _))
  | @lost n watched =>
    exact h.kept (.of_source (by simp) (enterLost_sources n s) (fun r => ⟨rfl, rfl⟩) (.of_same (by simp) (by simp)))
  | giveUp => exact h.kept (.of_takes (by simp) (by simp) (giveUpJoining_takesFrom _ s))
  | _ => exact h.kept (.of_same (by simp) (by simp) (by simp) (by simp))

/-- What every effect makes of a property that it needs before, a step makes of it. -/
theorem step_gives {P Q : State → Prop} (weak : ∀ s, P s → Q s) (pending : ∀ s l, P s → P { s with pending := l })
    (head : ∀ s t, P s → P (headTaken s t)) (reply : ∀ s t r, Q s → Q (queueReply t r s))
    (effect : ∀ s s', P s → Effect s s' → Q s') {s s' : State} (hs : P s) (h : step s = .next s') : Q s' := by
  rcases step_does h with rfl | ⟨rest, e | ⟨t, r, s₁, -, e, rfl⟩⟩
  · exact weak _ hs
  · exact effect _ _ (pending s rest hs) e
  · exact reply _ _ _ (effect _ _ (head _ t (pending s rest hs)) e)

/-- Settles O11: of the takes' own law, only the one format of a SWAP pair is needed. -/
theorem crosspointAndUsageKept : Obligations.CrosspointAndUsageKept := by
  unfold Obligations.CrosspointAndUsageKept
  intro s s' usage takes cross hs
  obtain ⟨current, held⟩ := crosspointLaw_iff.mp cross
  have kept : CrossLaw s' := step_gives (P := fun s => CrossLaw s ∧ TakeLaw s) (fun s h => h.1)
    (fun s l h => ⟨h.1.kept (.of_same rfl rfl rfl rfl), h.2.of_same rfl rfl fun _ => rfl⟩)
    (fun s t h => ⟨h.1.kept (.of_same (by simp) (by simp) (by simp) (by simp)), h.2.of_same (by simp) (by simp) (by simp)⟩)
    (fun s t r h => h.kept (.of_same (by simp) (by simp) (by simp) (by simp)))
    (fun s s' h e => h.1.effect h.2 e) ⟨⟨usage, current, held⟩, takes⟩ hs
  exact ⟨kept.usage, crosspointLaw_iff.mpr ⟨kept.current, kept.takes⟩⟩

end Sys2Proof.Machine
end

section
/-! SUPPORT. The format table with its tracking states (R5–R9), and the offsets and recording states of the destinations (R40, R41, R43),
under every effect of a step. -/

namespace Sys2Proof.Machine

/-! ## Tracking (R9) -/

/-- Two source records that steer a format alike: LOCKED both or neither, with one format. -/
def SameLock (r r' : Source) : Prop := (r'.state == .locked) = (r.state == .locked) ∧ r'.format = r.format

theorem SameLock.refl (r : Source) : SameLock r r := ⟨rfl, rfl⟩

theorem SameLock.of_state {r r' : Source} (state : r'.state = r.state) (format : r'.format = r.format) : SameLock r r' :=
  ⟨by rw [state], format⟩

/-- The tracking state looks at the cadence and at the lock of its source alone (R9). -/
theorem isTracking_congr {sources sources' : Tbl Source 128} {f : FormatNo} {x y : Format} (h : SameCadence x y)
    (locks : ∀ n, x.cadence = some n → SameLock (sources.get n) (sources'.get n)) :
    isTracking sources' f y = isTracking sources f x := by
  unfold isTracking
  rw [h.defined, h.source]
  cases hc : x.cadence with
  | none => rfl
  | some n =>
    obtain ⟨lock, format⟩ := locks n hc
    simp only
    rw [lock, format]

theorem isTracking_undefined {sources : Tbl Source 128} {f : FormatNo} {x : Format} (h : x.defined = false) :
    isTracking sources f x = false := by simp [isTracking, h]

/-- An undefined format reads as R5 gives. -/
theorem FormatLaw.undefined {s : State} (h : FormatLaw s) {f : FormatNo} (hf : (s.formats.get f).defined = false) :
    s.formats.get f = .undefined := by
  have := h.record f
  simpa [formatFits, hf] using this

theorem formatFits_congr {x y : Format} (h : SameCadence x y) (hx : x.defined = true) (fits : formatFits x = true) :
    formatFits y = true := by
  unfold formatFits at fits ⊢
  rw [if_pos hx] at fits
  rwa [if_pos (h.defined.trans hx), h.pi, h.pd, h.pn]

/-- Formats that keep their cadence, and sources and destinations that keep their formats, keep the law when tracking is as R9 says. -/
theorem FormatLaw.evolve {s s' : State} (h : FormatLaw s) (cadences : SameCadences s s')
    (blank : ∀ f, (s.formats.get f).defined = false → s'.formats.get f = s.formats.get f)
    (tracking : ∀ f, (s.formats.get f).defined = true → (s'.formats.get f).tracking = isTracking s'.sources f (s'.formats.get f))
    (source : ∀ n, (s'.sources.get n).format = (s.sources.get n).format)
    (dest : ∀ d, (s'.dests.get d).format = (s.dests.get d).format) : FormatLaw s' where
  record f := by
    cases hf : (s.formats.get f).defined with
    | true => exact formatFits_congr (cadences f) hf (h.record f)
    | false =>
      rw [blank f hf]
      exact h.record f
  ofSource n f hn := by rw [(cadences f).defined]; exact h.ofSource n f (source n ▸ hn)
  ofDest d f hd := by rw [(cadences f).defined]; exact h.ofDest d f (dest d ▸ hd)
  tracking f := by
    cases hf : (s.formats.get f).defined with
    | true => exact tracking f hf
    | false =>
      rw [blank f hf, h.undefined hf, isTracking_undefined rfl]
      rfl

/-- A step that changes neither a cadence, nor a tracking state, nor what steers a format. -/
structure Steered (s s' : State) : Prop where
  cadences : SameCadences s s'
  blank : ∀ f, (s.formats.get f).defined = false → s'.formats.get f = s.formats.get f
  tracking : ∀ f, (s.formats.get f).defined = true → (s'.formats.get f).tracking = (s.formats.get f).tracking
  locks : ∀ n, SameLock (s.sources.get n) (s'.sources.get n)

theorem Steered.of_formats {s s' : State} (formats : s'.formats = s.formats)
    (locks : ∀ n, SameLock (s.sources.get n) (s'.sources.get n)) : Steered s s' :=
  ⟨.of_formats formats, fun f _ => by rw [formats], fun f _ => by rw [formats], locks⟩

theorem Steered.of_same {s s' : State} (formats : s'.formats = s.formats) (sources : s'.sources = s.sources) : Steered s s' :=
  .of_formats formats fun n => by rw [sources]; exact .refl _

/-- One source record changed in nothing that steers a format. -/
theorem Steered.of_source {s s' : State} {n : SourceNo} {g : Source → Source} (formats : s'.formats = s.formats)
    (sources : s'.sources = s.sources.modify n g) (lock : SameLock (s.sources.get n) (g (s.sources.get n))) : Steered s s' :=
  .of_formats formats fun m => by
    rw [sources, Tbl.get_modify]
    split
    · next h => exact h ▸ lock
    · exact .refl _

theorem FormatLaw.steered {s s' : State} (h : FormatLaw s) (e : Steered s s')
    (dest : ∀ d, (s'.dests.get d).format = (s.dests.get d).format) : FormatLaw s' :=
  h.evolve e.cadences e.blank
    (fun f hf => by rw [e.tracking f hf, h.tracking f]; exact (isTracking_congr (e.cadences f) fun n _ => e.locks n).symm)
    (fun n => (e.locks n).2) dest

/-! ## Source-state changes (R33) -/

theorem sourceChanged_formats (n : SourceNo) (previous : SourceState) (s : State) : (sourceChanged n previous s).formats =
    if lockChanges previous (s.sources.get n).state then (evaluateTracking n s).formats else s.formats := by
  rw [sourceChanged_eq]
  have announced : (sourceAnnounced n previous s).formats =
      if lockChanges previous (s.sources.get n).state then (evaluateTracking n s).formats else s.formats := by
    unfold sourceAnnounced
    dsimp only
    by_cases hl : lockChanges previous (s.sources.get n).state = true
    · simp [hl]
    · simp only [hl, Bool.false_or]
      split <;> simp
  split
  · simpa using announced
  · exact announced

/-- A source's state changed, with the effects of R33: the tracking states follow. -/
theorem FormatLaw.sourceChanged {s : State} (h : FormatLaw s) (n : SourceNo) {g : Source → Source}
    (format : (g (s.sources.get n)).format = (s.sources.get n).format) :
    FormatLaw (sourceChanged n (s.sources.get n).state (s.updSource n g)) := by
  set x := s.updSource n g with hx
  have xn : x.sources.get n = g (s.sources.get n) := by simp [hx]
  have xm (m : SourceNo) (hm : n ≠ m) : x.sources.get m = s.sources.get m := by simp [hx, Tbl.get_modify_ne _ _ hm]
  have cadences := sourceChanged_cadences n (s.sources.get n).state x
  have sources : (Machine.sourceChanged n (s.sources.get n).state x).sources = x.sources := by simp
  have formats := sourceChanged_formats n (s.sources.get n).state x
  refine h.evolve cadences (fun f hf => ?_) (fun f hf => ?_) (fun m => ?_) fun d => by simp [hx]
  · rw [formats]
    split
    · rw [evaluateTracking_get, if_neg]
      · rfl
      · change (s.formats.get f).cadence ≠ some n
        rw [h.undefined hf]
        simp [Format.undefined]
    · rfl
  · rw [sources, isTracking_congr (cadences f) fun n _ => .refl _, formats]
    by_cases hc : (s.formats.get f).cadence = some n
    · by_cases hl : lockChanges (s.sources.get n).state (x.sources.get n).state = true
      · rw [if_pos hl, evaluateTracking_get, if_pos (c := (x.formats.get f).cadence = some n) hc]
      · rw [if_neg hl]
        change (s.formats.get f).tracking = isTracking x.sources f (s.formats.get f)
        rw [h.tracking f]
        refine (isTracking_congr (.refl _) fun m hm => ?_).symm
        cases hc.symm.trans hm
        rw [xn]
        refine ⟨?_, format⟩
        rw [xn] at hl
        simp only [lockChanges, bne_iff_ne, ne_eq, not_not] at hl
        exact hl.symm
    · have kept : (if lockChanges (s.sources.get n).state (x.sources.get n).state then (evaluateTracking n x).formats else
          x.formats).get f = s.formats.get f := by
        split
        · rw [evaluateTracking_get, if_neg (c := (x.formats.get f).cadence = some n) hc]
          rfl
        · rfl
      rw [kept, h.tracking f]
      refine (isTracking_congr (.refl _) fun m hm => ?_).symm
      rw [xm m fun e => hc (e ▸ hm)]
      exact .refl _
  · rw [sources]
    by_cases hm : n = m
    · rw [← hm, xn, format]
    · rw [xm m hm]

theorem FormatLaw.enterLost {s : State} (h : FormatLaw s) (n : SourceNo) : FormatLaw (enterLost n s) := h.sourceChanged n rfl

theorem FormatLaw.quarantineSources {s : State} (h : FormatLaw s) (t : Trunk) : FormatLaw (quarantineSources t s) :=
  foldl_invariant (P := FormatLaw) (sourcesOf t) (fun s n _ h => by
    unfold quarantineSource
    split
    · exact h.enterLost n
    · exact h) h

theorem FormatLaw.erroredArrival {s : State} (h : FormatLaw s) (t : Trunk) : FormatLaw (erroredArrival t s) := by
  obtain ⟨s₁, hs, e | ⟨previous, e⟩⟩ := erroredArrival_cases t s
  · rw [e, hs]
    exact h.steered (.of_same rfl rfl) fun _ => rfl
  · have first : FormatLaw s₁ := by
      rw [hs]
      exact h.steered (.of_same rfl rfl) fun _ => rfl
    rw [e]
    exact (first.quarantineSources t).steered (.of_same (by simp) (by simp)) (by simp)

/-! ## Cells -/

/-- A format that is TRACKING is defined (R9). -/
theorem FormatLaw.defined_of_tracking {s : State} (h : FormatLaw s) {f : FormatNo} (ht : (s.formats.get f).tracking = true) :
    (s.formats.get f).defined = true := by
  have := h.tracking f
  rw [ht] at this
  exact (Bool.and_eq_true_iff.mp this.symm).1

theorem FormatLaw.reanchorCheck {s : State} (h : FormatLaw s) (n : SourceNo) : FormatLaw (reanchorCheck n s) := by
  rcases reanchorCheck_cases n s with ⟨-, e⟩ | ⟨f, hf, e⟩
  · rw [e]
    exact h
  · have defined := h.defined_of_tracking hf.2.2.1
    refine h.steered ⟨reanchorCheck_cadences n s, fun g hg => ?_, fun g hg => ?_, fun m => by simp; exact .refl _⟩ (by simp)
    · rw [e, reanchor_formats, Tbl.get_modify_ne]
      rintro rfl
      rw [defined] at hg
      cases hg
    · rw [e, reanchor_formats, Tbl.get_modify]
      split <;> rfl

theorem FormatLaw.captureFrame {s : State} (h : FormatLaw s) (n : SourceNo) : FormatLaw (captureFrame n s) := by
  have changed := h.sourceChanged n (g := fun r => r.captured (sourceFormat s n) s.houseTime) (Source.captured_format _ _ _)
  set y := Machine.reanchorCheck n (Machine.sourceChanged n (s.sources.get n).state
    (s.updSource n fun r => r.captured (sourceFormat s n) s.houseTime))
  exact (changed.reanchorCheck n).steered (.of_source (s := y) (n := n)
    (g := fun r => { r with lastCapture := some y.houseTime, frameWatch := some (watchTime (sourceFormat y n) y.houseTime) })
    rfl rfl ⟨rfl, rfl⟩) fun _ => rfl

theorem Source.entered_lock (r : Source) (b : Bool) : SameLock r (r.entered b) := by
  unfold Source.entered
  split
  · next h =>
    refine ⟨?_, rfl⟩
    rcases h with h | h <;> simp [h]
  · exact .refl r

theorem FormatLaw.trackCell {s : State} (h : FormatLaw s) (n : SourceNo) (c : Cell) : FormatLaw (trackCell n c s) := by
  have sequenced : FormatLaw (sequenceCheck n c.seq s) :=
    h.steered (.of_source (n := n) (by simp) (sequenceCheck_sources n c.seq s) ⟨rfl, rfl⟩) (by simp)
  have entered : FormatLaw ((sequenceCheck n c.seq s).updSource n (·.entered c.frameStart)) :=
    sequenced.steered (.of_source (n := n) rfl rfl (Source.entered_lock _ _)) fun _ => rfl
  unfold Machine.trackCell
  dsimp only
  split
  · exact entered.captureFrame n
  · exact entered

theorem FormatLaw.of_same {s s' : State} (h : FormatLaw s) (formats : s'.formats = s.formats) (sources : s'.sources = s.sources)
    (dest : ∀ d, (s'.dests.get d).format = (s.dests.get d).format) : FormatLaw s' := h.steered (.of_same formats sources) dest

theorem FormatLaw.goodArrival {s : State} (h : FormatLaw s) (t : Trunk) (c : Cell) (pick : PoolNo) :
    FormatLaw (goodArrival t c pick s) := by
  have counted : FormatLaw (goodCell t (s.updReceiver t fun r => { r with good := bump r.good })) :=
    h.of_same (by simp) (by simp) (by simp)
  unfold Machine.goodArrival
  dsimp only
  (repeat' split)
  case isFalse.isTrue =>
    unfold essenceArrival
    dsimp only
    split
    · exact counted.of_same rfl rfl fun _ => rfl
    · exact (counted.trackCell (sourceOf t c.stream) c).of_same (by simp) (by simp) (by simp)
  all_goals exact h.of_same (by simp) (by simp) (by simp)

/-! ## Definitions -/

/-- SOURCE_DEFINE evaluates the formats that its source steers (R22, R23). -/
theorem FormatLaw.storeFormat {s : State} (h : FormatLaw s) (n : SourceNo) {f : Option FormatNo} (defined : namesUndefined s f = false) :
    FormatLaw (storeFormat n f s) := by
  by_cases hf : (s.sources.get n).format = f
  · have : Machine.storeFormat n f s = s := by
      unfold Machine.storeFormat
      rw [if_pos hf]
    rwa [this]
  · set x := Machine.sourceChanged n (s.sources.get n).state (s.updSource n (·.redefined f)) with hx
    have stored : Machine.storeFormat n f s = evaluateTracking n x := by
      unfold Machine.storeFormat
      rw [if_neg hf]
    have cadences : SameCadences s x := sourceChanged_cadences n _ (s.updSource n (·.redefined f))
    have sources : (evaluateTracking n x).sources = s.sources.modify n (·.redefined f) := by simp [hx]
    have formats (g : FormatNo) (hg : (s.formats.get g).cadence ≠ some n) : x.formats.get g = s.formats.get g := by
      rw [hx, sourceChanged_formats]
      split
      · rw [evaluateTracking_get, if_neg (by exact hg)]
        rfl
      · rfl
    have blank (g : FormatNo) (hg : (s.formats.get g).defined = false) : (s.formats.get g).cadence ≠ some n := by
      rw [h.undefined hg]
      simp [Format.undefined]
    have all : SameCadences s (evaluateTracking n x) := cadences.trans (evaluateTracking_cadences n x)
    have steered (g : FormatNo) (hg : (s.formats.get g).cadence ≠ some n) : (evaluateTracking n x).formats.get g = s.formats.get g := by
      rw [evaluateTracking_get, if_neg (by rwa [(cadences g).source]), formats g hg]
    rw [stored]
    refine ⟨fun g => ?_, fun m g hm => ?_, fun d g hd => ?_, fun g => ?_⟩
    · cases hg : (s.formats.get g).defined with
      | true => exact formatFits_congr (all g) hg (h.record g)
      | false =>
        rw [steered g (blank g hg)]
        exact h.record g
    · rw [(all g).defined]
      rw [sources, Tbl.get_modify] at hm
      split at hm
      · have : f = some g := hm
        simpa [namesUndefined, this] using defined
      · exact h.ofSource m g hm
    · rw [(all g).defined]
      exact h.ofDest d g (by simpa [hx] using hd)
    · by_cases hg : (s.formats.get g).cadence = some n
      · rw [evaluateTracking_get, if_pos (by rwa [(cadences g).source])]
        exact (isTracking_congr ⟨rfl, rfl, rfl, rfl, rfl, rfl⟩ fun m _ => by simp; exact .refl _).symm
      · rw [steered g hg, h.tracking g]
        refine (isTracking_congr (.refl _) fun m hm => ?_).symm
        rw [sources, Tbl.get_modify_ne]
        · exact .refl _
        · rintro rfl
          exact hg hm

/-- The ranges of R6 that a define form has passed. -/
theorem formatFits_defined {x : Format} (hd : x.defined = true) (inRange : badPeriod x.pi x.pn x.pd = false) : formatFits x = true := by
  simp only [badPeriod, Bool.or_eq_false_iff, decide_eq_false_iff_not, not_lt, not_or, not_le] at inRange
  simp [formatFits, hd]
  omega

/-- One format record replaced, by one in range whose tracking state is as R9 says. -/
theorem FormatLaw.updFormat {s s' : State} (h : FormatLaw s) {f : FormatNo} {x : Format}
    (formats : ∀ g, s'.formats.get g = if f = g then x else s.formats.get g) (sources : s'.sources = s.sources)
    (dest : ∀ d, (s'.dests.get d).format = (s.dests.get d).format) (fits : formatFits x = true)
    (tracking : x.tracking = isTracking s.sources f x)
    (defined : x.defined = true ∨ ((∀ n, (s.sources.get n).format ≠ some f) ∧ ∀ d, (s.dests.get d).format ≠ some f)) : FormatLaw s' where
  record g := by
    rw [formats]
    split
    · exact fits
    · exact h.record g
  ofSource n g hn := by
    rw [sources] at hn
    rw [formats]
    split
    · next hfg => exact defined.resolve_right fun none => none.1 n (hfg ▸ hn)
    · exact h.ofSource n g hn
  ofDest d g hd := by
    rw [dest] at hd
    rw [formats]
    split
    · next hfg => exact defined.resolve_right fun none => none.2 d (hfg ▸ hd)
    · exact h.ofDest d g hd
  tracking g := by
    rw [formats, sources]
    split
    · next hfg => exact hfg ▸ tracking
    · exact h.tracking g

/-- A format that no record names (R8). -/
theorem formatInUse_false {s : State} {f : FormatNo} (h : formatInUse s f = false) :
    (∀ n, (s.sources.get n).format ≠ some f) ∧ ∀ d, (s.dests.get d).format ≠ some f := by
  simp only [formatInUse, Bool.or_eq_false_iff] at h
  obtain ⟨hs, hd⟩ := h
  rw [Bool.eq_false_iff, ne_eq, Tbl.any_rows, not_exists] at hs hd
  exact ⟨fun n => by simpa using hs n, fun d => by simpa using hd d⟩

theorem FormatLaw.unnamed {s : State} (h : FormatLaw s) {f : FormatNo} (hf : (s.formats.get f).defined = false) :
    (∀ n, (s.sources.get n).format ≠ some f) ∧ ∀ d, (s.dests.get d).format ≠ some f :=
  ⟨fun n hn => Bool.noConfusion (hf.symm.trans (h.ofSource n f hn)), fun d hd => Bool.noConfusion (hf.symm.trans (h.ofDest d f hd))⟩

theorem FormatLaw.newFormat {s : State} (h : FormatLaw s) {f : FormatNo} (undefined : (s.formats.get f).defined = false) {c : Cadence}
    (inRange : badPeriod c.pi c.pn c.pd = false) : FormatLaw (s.updFormat f fun _ => newFormat s.houseTime c) := by
  refine h.updFormat (fun g => by rw [State.updFormat_formats, Tbl.get_modify]) rfl (fun _ => rfl) (formatFits_defined rfl inRange) ?_ (.inl rfl)
  cases hc : c.source with
  | none => simp [Machine.newFormat, isTracking, hc]
  | some n => simp [Machine.newFormat, isTracking, hc, (h.unnamed undefined).1 n]

theorem FormatLaw.undefineFormat {s : State} (h : FormatLaw s) {f : FormatNo} (idle : formatInUse s f = false) :
    FormatLaw (s.updFormat f fun _ => Format.undefined) :=
  h.updFormat (fun g => by rw [State.updFormat_formats, Tbl.get_modify]) rfl (fun _ => rfl) rfl rfl (.inr (formatInUse_false idle))

/-- A format as a redefinition stores it (R7). -/
def redefinedFormat (s : State) (f : FormatNo) (c : Cadence) : Format :=
  { (s.formats.get f).redefined c with tracking := isTracking s.sources f ((s.formats.get f).redefined c) }

theorem formatStored_formats_get (f : FormatNo) (c : Cadence) (s : State) (g : FormatNo) : (formatStored f c s).formats.get g =
    if f = g then redefinedFormat s f c else s.formats.get g := by
  simp only [formatStored, clampOffsets, State.updFormat_formats, Tbl.get_modify]
  split
  · next h => rw [← h]; rfl
  · rfl

theorem redefineFormat_formats_get (f : FormatNo) (c : Cadence) (s : State) (g : FormatNo) : (redefineFormat f c s).formats.get g =
    if f = g then redefinedFormat s f c else s.formats.get g := by
  rw [redefineFormat_eq, ← formatStored_formats_get]
  simp

theorem redefineFormat_dests (f : FormatNo) (c : Cadence) (s : State) : (redefineFormat f c s).dests = s.dests.map fun x =>
    if x.format = some f then { x with offset := clampOffset (redefinedFormat s f c) x.offset } else x := by
  rw [redefineFormat_eq, show ∀ p x, (realignFill p x).dests = x.dests by simp, show ∀ p x, (recomputeTakes p x).dests = x.dests by simp]
  unfold formatStored
  simp only [clampOffsets, State.updFormat_formats, Tbl.get_modify_self]
  rfl

theorem FormatLaw.redefineFormat {s : State} (h : FormatLaw s) {f : FormatNo} (defined : (s.formats.get f).defined = true) {c : Cadence}
    (inRange : badPeriod c.pi c.pn c.pd = false) : FormatLaw (redefineFormat f c s) := by
  refine h.updFormat (redefineFormat_formats_get f c s) (by simp) (fun d => ?_) (formatFits_defined defined inRange)
    (isTracking_congr ⟨rfl, rfl, rfl, rfl, rfl, rfl⟩ fun n _ => .refl _).symm (.inl defined)
  rw [redefineFormat_dests, Tbl.get_map]
  split <;> rfl

/-! ## Times, counters and resets -/

theorem FormatLaw.renormalise {s : State} (h : FormatLaw s) {f : FormatNo} (defined : (s.formats.get f).defined = true) :
    FormatLaw (s.updFormat f (·.renormalised)) := by
  have get (g : FormatNo) : (s.updFormat f (·.renormalised)).formats.get g =
      if f = g then (s.formats.get f).renormalised else s.formats.get g := by
    rw [State.updFormat_formats, Tbl.get_modify]
    split
    · next hfg => rw [hfg]
    · rfl
  refine h.updFormat get rfl (fun _ => rfl) (formatFits_congr (x := s.formats.get f)
    ⟨rfl, rfl, rfl, rfl, rfl, rfl⟩ defined (h.record f)) ?_ (.inl defined)
  exact (h.tracking f).trans (isTracking_congr ⟨rfl, rfl, rfl, rfl, rfl, rfl⟩ fun n _ => .refl _).symm

theorem FormatLaw.timeset {s : State} (h : FormatLaw s) (v : Time) : FormatLaw (shiftTimes v (displayVacated s (cancelAllArmed s))) := by
  have cancelled : FormatLaw (displayVacated s (cancelAllArmed s)) := h.of_same (by simp) (by simp) (by simp)
  refine cancelled.steered ⟨fun f => ?_, fun f hf => ?_, fun f hf => ?_, fun n => ?_⟩ (by simp)
  · simp only [shiftTimes, Tbl.get_map]
    split <;> exact ⟨rfl, rfl, rfl, rfl, rfl, rfl⟩
  · simp only [shiftTimes, Tbl.get_map]
    rw [if_neg (by rw [hf]; exact Bool.false_ne_true)]
  · simp only [shiftTimes, Tbl.get_map]
    split <;> rfl
  · simp only [shiftTimes, Tbl.get_map]
    exact ⟨rfl, rfl⟩

theorem FormatLaw.clearCounters {s : State} (h : FormatLaw s) : FormatLaw (clearCounters s) := by
  refine h.steered ⟨fun f => ?_, fun f hf => ?_, fun f hf => ?_, fun n => ?_⟩ (by simp)
  · simp only [Machine.clearCounters, Tbl.get_map]
    exact ⟨rfl, rfl, rfl, rfl, rfl, rfl⟩
  · simp only [Machine.clearCounters, Tbl.get_map]
    rw [h.undefined hf]
    rfl
  · simp only [Machine.clearCounters, Tbl.get_map]
  · simp only [Machine.clearCounters, Tbl.get_map]
    exact ⟨rfl, rfl⟩

theorem warmReset_formats_get (s : State) (f : FormatNo) : (warmReset s).formats.get f =
    { s.formats.get f with tracking := isTracking (s.sources.map Source.warm) f (s.formats.get f), reanchors := 0 } := by
  simp [warmReset, warmBlocks, clearCounters, warmRecords, evaluateAll]

theorem FormatLaw.warmReset {s : State} (h : FormatLaw s) : FormatLaw (warmReset s) := by
  refine h.evolve (fun f => ?_) (fun f hf => ?_) (fun f hf => ?_) (fun n => ?_) (by simp)
  · rw [warmReset_formats_get]
    exact ⟨rfl, rfl, rfl, rfl, rfl, rfl⟩
  · rw [warmReset_formats_get, isTracking_undefined hf, h.undefined hf]
    rfl
  · rw [warmReset_formats_get]
    refine (isTracking_congr ⟨rfl, rfl, rfl, rfl, rfl, rfl⟩ fun n _ => ?_).symm
    rw [warmReset_sources_get, Tbl.get_map]
    exact ⟨rfl, rfl⟩
  · rw [warmReset_sources_get]
    rfl

/-! ## Offsets -/

theorem OffsetLaw.of_same {s s' : State} (h : OffsetLaw s) (cadences : SameCadences s s') (dests : s'.dests = s.dests) : OffsetLaw s' :=
  fun d => by
    have := h d
    rw [dests]
    unfold offsetFits at this ⊢
    cases hf : (s.dests.get d).format with
    | none => simpa [hf] using this
    | some f => simpa [hf, (cadences f).pi] using this

/-- A destination in nothing changed that the law looks at. -/
def SameFit (x y : Dest) : Prop := y.format = x.format ∧ y.offset = x.offset ∧ (y.cls = x.cls ∧ y.recording = x.recording ∨ y.recording = false)

theorem offsetFits_none {s : State} {x : Dest} (hf : x.format = none) :
    offsetFits s x = true ↔ x.offset = 0 ∧ x.recording = false := by
  simp +contextual [offsetFits, hf]

theorem offsetFits_some {s : State} {x : Dest} {f : FormatNo} (hf : x.format = some f) :
    offsetFits s x = true ↔ (x.cls == .recorder || !x.recording) = true ∧ x.offset.natAbs ≤ (s.formats.get f).pi.toNat / 2 := by
  simp only [offsetFits, hf, Bool.and_eq_true, decide_eq_true_eq]

theorem offsetFits_congr {s s' : State} {x y : Dest} (h : SameFit x y)
    (pi : ∀ f, x.format = some f → (s'.formats.get f).pi = (s.formats.get f).pi) (fits : offsetFits s x = true) :
    offsetFits s' y = true := by
  obtain ⟨hf, ho, hr⟩ := h
  cases hx : x.format with
  | none =>
    rw [offsetFits_none hx] at fits
    rw [offsetFits_none (hf.trans hx), ho]
    refine ⟨fits.1, ?_⟩
    rcases hr with ⟨-, hr⟩ | hr
    · rw [hr, fits.2]
    · exact hr
  | some f =>
    rw [offsetFits_some hx] at fits
    rw [offsetFits_some (hf.trans hx), ho, pi f hx]
    refine ⟨?_, fits.2⟩
    rcases hr with ⟨hc, hr⟩ | hr
    · rw [hc, hr]
      exact fits.1
    · simp [hr]

theorem OffsetLaw.same_fits {s s' : State} (h : OffsetLaw s) (formats : s'.formats = s.formats)
    (dests : ∀ d, SameFit (s.dests.get d) (s'.dests.get d)) : OffsetLaw s' := fun d =>
  offsetFits_congr (dests d) (fun f _ => by rw [formats]) (h d)

/-- One destination changed, and fit afterwards. -/
theorem OffsetLaw.change {s s' : State} (h : OffsetLaw s) (formats : s'.formats = s.formats) (d : DestNo)
    (dests : ∀ e, d ≠ e → s'.dests.get e = s.dests.get e) (this : offsetFits s (s'.dests.get d) = true) : OffsetLaw s' := fun e => by
  have here : offsetFits s (s'.dests.get e) = true := by
    by_cases he : d = e
    · exact he ▸ this
    · rw [dests e he]
      exact h e
  exact offsetFits_congr ⟨rfl, rfl, .inl ⟨rfl, rfl⟩⟩ (fun f _ => by rw [formats]) here

theorem clampOffset_bound (f : Format) (o : Int) : (clampOffset f o).natAbs ≤ f.pi.toNat / 2 := by
  unfold clampOffset
  dsimp only
  omega

/-- Recording after the class is stored, on a RECORDER that was recording alone (R43). -/
theorem storeClass_fits {s : State} {d : DestNo} {c : DestClass} :
    ((s.dests.get d).recording = false → ((storeClass d c s).dests.get d).recording = false) ∧
      (((storeClass d c s).dests.get d).cls == .recorder || !((storeClass d c s).dests.get d).recording) = true := by
  rw [storeClass_dests, Tbl.get_modify_self]
  cases c <;> simp +contextual [recordingFails]

theorem OffsetLaw.defineDest {s : State} (h : OffsetLaw s) (d : DestNo) (format : Option FormatNo) (c : DestClass) (offset : Int) :
    OffsetLaw (defineDest d format c offset s).state := by
  have stored (e : DestNo) (he : d ≠ e) : (storeClass d c s).dests.get e = s.dests.get e := by
    rw [storeClass_dests, Tbl.get_modify_ne _ _ he]
  obtain ⟨quiet, recorder⟩ := storeClass_fits (s := s) (d := d) (c := c)
  rw [defineDest_state]
  cases format with
  | none =>
    dsimp only
    split
    · refine h.change (by simp [undefineDest]) d (fun e he => ?_) ?_
      · rw [undefineDest, State.updSwitching_dests, State.updDest_dests, Tbl.get_modify_ne _ _ he, stored e he]
      · rw [undefineDest, State.updSwitching_dests, State.updDest_dests, Tbl.get_modify_self]
        simp [offsetFits]
    · next undefined =>
      have hf : (s.dests.get d).format = none := by simpa using undefined
      have fits := (offsetFits_none hf).mp (h d)
      refine h.change (by simp) d stored ?_
      have format : ((storeClass d c s).dests.get d).format = none := by rw [storeClass_format, hf]
      have offset : ((storeClass d c s).dests.get d).offset = 0 := by
        rw [storeClass_dests, Tbl.get_modify_self]
        exact fits.1
      exact (offsetFits_none format).mpr ⟨offset, quiet fits.2⟩
  | some f =>
    refine h.change (by simp) d (fun e he => ?_) ?_
    · rw [formatDest_dests, Tbl.get_modify_ne _ _ he, stored e he]
    · rw [formatDest_dests, Tbl.get_modify_self]
      simp only [offsetFits, Bool.and_eq_true, decide_eq_true_eq]
      exact ⟨recorder, clampOffset_bound _ _⟩

theorem OffsetLaw.updFormat {s s' : State} (h : OffsetLaw s) {f : FormatNo} (formats : ∀ g, f ≠ g → s'.formats.get g = s.formats.get g)
    (dests : s'.dests = s.dests) (unnamed : ∀ d, (s.dests.get d).format ≠ some f) : OffsetLaw s' := fun d => by
  rw [dests]
  exact offsetFits_congr (s := s) ⟨rfl, rfl, .inl ⟨rfl, rfl⟩⟩ (fun g hg => by rw [formats g fun (e : f = g) => unnamed d (e ▸ hg)]) (h d)

/-- A redefinition clamps the offsets of its destinations (R7, R41). -/
theorem OffsetLaw.redefineFormat {s : State} (h : OffsetLaw s) (f : FormatNo) (c : Cadence) : OffsetLaw (redefineFormat f c s) := fun d => by
  rw [redefineFormat_dests, Tbl.get_map]
  have fits := h d
  split
  · next hf =>
    simp only [offsetFits, hf, redefineFormat_formats_get, if_true, Bool.and_eq_true, decide_eq_true_eq] at fits ⊢
    exact ⟨fits.1, clampOffset_bound _ _⟩
  · next hf =>
    refine offsetFits_congr (s := s) ⟨rfl, rfl, .inl ⟨rfl, rfl⟩⟩ (fun g hg => ?_) fits
    rw [redefineFormat_formats_get, if_neg fun (e : f = g) => hf (e ▸ hg)]

/-! ## Every effect -/

theorem defineDest_formats (d : DestNo) (format : Option FormatNo) (c : DestClass) (offset : Int) (s : State) :
    (defineDest d format c offset s).state.formats = s.formats := by
  rw [defineDest_state]
  cases format with
  | none =>
    dsimp only
    split <;> simp [undefineDest]
  | some f => simp

/-- DEST_DEFINE leaves every destination with a defined format or none (R39). -/
theorem FormatLaw.defineDest {s : State} (h : FormatLaw s) (d : DestNo) {format : Option FormatNo}
    (defined : namesUndefined s format = false) (c : DestClass) (offset : Int) : FormatLaw (defineDest d format c offset s).state where
  record f := by rw [defineDest_formats]; exact h.record f
  ofSource n f := by rw [defineDest_formats, defineDest_sources]; exact h.ofSource n f
  ofDest e f he := by
    rw [defineDest_format] at he
    rw [defineDest_formats]
    split at he
    · subst he
      simpa [namesUndefined] using defined
    · exact h.ofDest e f he
  tracking f := by rw [defineDest_formats, defineDest_sources]; exact h.tracking f

/-- The two laws together. -/
structure FormatsLaw (s : State) : Prop where
  formats : FormatLaw s
  offsets : OffsetLaw s

theorem FormatsLaw.of_same {s s' : State} (h : FormatsLaw s) (formats : s'.formats = s.formats) (sources : s'.sources = s.sources)
    (dests : s'.dests = s.dests) : FormatsLaw s' :=
  ⟨h.formats.of_same formats sources (by simp [dests]), h.offsets.of_same (.of_formats formats) dests⟩

/-- Destinations that keep their formats, offsets and classes, and record no more than before. -/
theorem FormatsLaw.same_fits {s s' : State} (h : FormatsLaw s) (formats : s'.formats = s.formats)
    (locks : ∀ n, SameLock (s.sources.get n) (s'.sources.get n)) (dests : ∀ d, SameFit (s.dests.get d) (s'.dests.get d)) :
    FormatsLaw s' :=
  ⟨h.formats.steered (.of_formats formats locks) fun d => (dests d).1, h.offsets.same_fits formats dests⟩

theorem FormatsLaw.of_cadences {s s' : State} (h : FormatsLaw s) (formats : FormatLaw s') (cadences : SameCadences s s')
    (dests : s'.dests = s.dests) : FormatsLaw s' := ⟨formats, h.offsets.of_same cadences dests⟩

theorem enterLost_cadences (n : SourceNo) (s : State) : SameCadences s (enterLost n s) :=
  sourceChanged_cadences n _ (s.updSource n _)

theorem quarantineSources_cadences (t : Trunk) (s : State) : SameCadences s (quarantineSources t s) :=
  foldl_invariant (P := SameCadences s) (sourcesOf t) (fun s₁ n _ h => by
    unfold quarantineSource
    split
    · exact h.trans (enterLost_cadences n s₁)
    · exact h) (.of_formats rfl)

theorem erroredArrival_cadences (t : Trunk) (s : State) : SameCadences s (erroredArrival t s) := by
  obtain ⟨s₁, hs, e | ⟨previous, e⟩⟩ := erroredArrival_cases t s
  · rw [e, hs]
    exact .of_formats rfl
  · have first : SameCadences s s₁ := .of_formats (by rw [hs])
    rw [e]
    exact (first.trans (quarantineSources_cadences t s₁)).trans (.of_formats (by simp))

theorem captureFrame_cadences (n : SourceNo) (s : State) : SameCadences s (captureFrame n s) := by
  have changed := sourceChanged_cadences n (s.sources.get n).state (s.updSource n fun r => r.captured (sourceFormat s n) s.houseTime)
  exact (changed.trans (reanchorCheck_cadences n _)).trans (.of_formats rfl)

theorem trackCell_cadences (n : SourceNo) (c : Cell) (s : State) : SameCadences s (trackCell n c s) := by
  have entered : SameCadences s ((sequenceCheck n c.seq s).updSource n (·.entered c.frameStart)) := .of_formats (by simp)
  unfold trackCell
  dsimp only
  split
  · exact entered.trans (captureFrame_cadences n _)
  · exact entered

theorem goodArrival_cadences (t : Trunk) (c : Cell) (pick : PoolNo) (s : State) : SameCadences s (goodArrival t c pick s) := by
  have counted : SameCadences s (goodCell t (s.updReceiver t fun r => { r with good := bump r.good })) := .of_formats (by simp)
  unfold goodArrival
  dsimp only
  (repeat' split)
  case isFalse.isTrue =>
    unfold essenceArrival
    dsimp only
    split
    · exact counted.trans (.of_formats rfl)
    · exact (counted.trans (trackCell_cadences (sourceOf t c.stream) c _)).trans (.of_formats (by simp))
  all_goals exact .of_formats (by simp)

theorem storeFormat_cadences (n : SourceNo) (f : Option FormatNo) (s : State) : SameCadences s (storeFormat n f s) := by
  unfold storeFormat
  dsimp only
  split
  · exact .of_formats rfl
  · exact SameCadences.trans (sourceChanged_cadences n _ (s.updSource n _)) (evaluateTracking_cadences n _)

theorem FormatsLaw.storeRecording {s : State} (h : FormatsLaw s) {d : DestNo} (on : Bool)
    (allowed : on = true → (s.dests.get d).cls = .recorder ∧ (s.dests.get d).format.isSome = true) :
    FormatsLaw (storeRecording d on s) := by
  have get (e : DestNo) : (Machine.storeRecording d on s).dests.get e =
      if d = e then { s.dests.get e with recording := on } else s.dests.get e := by
    rw [Machine.storeRecording, State.updDest_dests, Tbl.get_modify]
  refine ⟨h.formats.of_same rfl rfl (storeRecording_format d on s), h.offsets.change rfl d (fun e he => by rw [get, if_neg he]) ?_⟩
  rw [get, if_pos rfl]
  have fits := h.offsets d
  cases on with
  | false => exact offsetFits_congr (s := s) (x := s.dests.get d) ⟨rfl, rfl, .inr rfl⟩ (fun _ _ => rfl) fits
  | true =>
    obtain ⟨recorder, defined⟩ := allowed rfl
    obtain ⟨f, hf⟩ := Option.isSome_iff_exists.mp defined
    simp only [offsetFits, recorder, hf] at fits ⊢
    simpa using fits

theorem FormatsLaw.reset (l : List Instr) (b : Bool) : FormatsLaw { State.reset with pending := l, resetLine := b } := by
  refine ⟨⟨fun f => ?_, fun n f hn => ?_, fun d f hd => ?_, fun f => ?_⟩, fun d => ?_⟩
  · simp [State.reset, formatFits, Format.undefined]
  · simp [State.reset, Source.reset] at hn
  · simp [State.reset, Dest.reset] at hd
  · simp [State.reset, isTracking, Format.undefined]
  · simp [State.reset, offsetFits, Dest.reset]

theorem FormatsLaw.effect {s s' : State} (h : FormatsLaw s) (e : Effect s s') : FormatsLaw s' := by
  cases e with
  | sweep t tag checked =>
    exact h.of_same (by simp; exact foldl_keeps _ State.formats (fun s a => by simp) _ s)
      (by simp; exact foldl_keeps _ State.sources (fun s a => by simp) _ s) (by simp; exact foldl_keeps _ State.dests (fun s a => by simp) _ s)
  | fire t tag loaded checked =>
    exact h.of_same (by simp; exact foldl_keeps _ State.formats (fun s a => by simp) _ _)
      (by simp; exact foldl_keeps _ State.sources (fun s a => by simp) _ _) (by simp; exact foldl_keeps _ State.dests (fun s a => by simp) _ _)
  | protection =>
    refine h.same_fits (by simp) (fun n => by simp; exact .refl _) fun e => ?_
    rw [storeProtection_dests, Tbl.get_modify]
    split <;> exact ⟨rfl, rfl, .inl ⟨rfl, rfl⟩⟩
  | recordOn defined recorder =>
    rw [recordOn_state]
    exact (h.storeRecording true fun _ => ⟨recorder, defined⟩).of_same (by simp) (by simp) (by simp)
  | recordOff d =>
    rw [recordOff_state]
    exact (h.storeRecording (d := d) false fun hf => by cases hf).of_same (by simp) (by simp) (by simp)
  | destDefine c offset held defined idle => exact ⟨h.formats.defineDest _ defined c offset, h.offsets.defineDest _ _ c offset⟩
  | @sourceDefine n f label defined idle =>
    refine h.of_cadences ?_ ((storeFormat_cadences n f s).trans (.of_formats (by simp))) (by simp)
    exact (h.formats.storeFormat n defined).steered (.of_source (n := n) (by simp) (storeLabel_sources n label _) ⟨rfl, rfl⟩) (by simp)
  | tally n bits =>
    exact h.of_cadences (h.formats.steered (.of_source (n := n) (g := fun r => { r with tally := bits }) (by simp) (by simp) ⟨rfl, rfl⟩)
      (by simp)) (.of_formats (by simp)) (by simp)
  | redefine defined inRange => exact ⟨h.formats.redefineFormat defined inRange, h.offsets.redefineFormat _ _⟩
  | newFormat undefined inRange =>
    exact ⟨h.formats.newFormat undefined inRange,
      h.offsets.updFormat (fun g hg => Tbl.get_modify_ne _ _ hg) rfl (h.formats.unnamed undefined).2⟩
  | undefine idle =>
    exact ⟨h.formats.undefineFormat idle, h.offsets.updFormat (fun g hg => Tbl.get_modify_ne _ _ hg) rfl (formatInUse_false idle).2⟩
  | timeset v held =>
    refine h.of_cadences (h.formats.timeset v) (fun f => ?_) (by simp)
    simp only [shiftTimes, Tbl.get_map, displayVacated_frame, cancelAllArmed_frame]
    split <;> exact ⟨rfl, rfl, rfl, rfl, rfl, rfl⟩
  | warmReset =>
    refine h.of_cadences h.formats.warmReset (fun f => ?_) (by simp)
    rw [warmReset_formats_get]
    exact ⟨rfl, rfl, rfl, rfl, rfl, rfl⟩
  | clearCounters =>
    refine h.of_cadences h.formats.clearCounters (fun f => ?_) (by simp)
    simp only [clearCounters, Tbl.get_map]
    exact ⟨rfl, rfl, rfl, rfl, rfl, rfl⟩
  | goodArrival t c pick => exact h.of_cadences (h.formats.goodArrival t c pick) (goodArrival_cadences t c pick s) (by simp)
  | erroredArrival t => exact h.of_cadences (h.formats.erroredArrival t) (erroredArrival_cadences t s) (by simp)
  | resetLine b => exact .reset _ b
  | @switch d k x =>
    refine FormatsLaw.of_same (s := setCurrent d k.source.resolved s) (h.same_fits (by simp) (fun n => ?_) fun e => ?_) (by simp)
      (by simp) (by simp)
    · rw [setCurrent_sources_get]
      exact ⟨rfl, rfl⟩
    · rw [setCurrent_dests, Tbl.get_modify]
      split <;> exact ⟨rfl, rfl, .inl ⟨rfl, rfl⟩⟩
  | @lost n => exact h.of_cadences (h.formats.enterLost n) (enterLost_cadences n s) (by simp)
  | @renormalise f defined =>
    refine h.of_cadences (h.formats.renormalise defined) (fun g => ?_) rfl
    rw [State.updFormat_formats, Tbl.get_modify]
    split <;> exact ⟨rfl, rfl, rfl, rfl, rfl, rfl⟩
  | _ => exact h.of_same (by simp) (by simp) (by simp)

/-- Settles O8: the tracking states follow every source-state change, and the offsets every format and class. -/
theorem formatAndOffsetLawKept : Obligations.FormatAndOffsetLawKept := by
  unfold Obligations.FormatAndOffsetLawKept
  intro s s' formats offsets hs
  have kept : FormatsLaw s' := step_keeps (P := FormatsLaw) (fun s l h => h.of_same rfl rfl rfl)
    (fun s t h => h.of_same (by simp) (by simp) (by simp)) (fun s t r h => h.of_same (by simp) (by simp) (by simp))
    (fun s s' h e => h.effect e) ⟨formats, offsets⟩ hs
  exact ⟨kept.formats, kept.offsets⟩

end Sys2Proof.Machine
end

section
/-! SUPPORT. What the postings and reports of every effect leave of the queues: essence entries, passed-over counts and replies, and the
bounds of the service and report queues (R97, R98, R150, R151). -/

namespace Sys2Proof.Machine

/-- Nothing but service entries posted and reports queued. -/
structure Posted (s s' : State) : Prop where
  essence : ∀ p, (s'.ports.get p).essence = (s.ports.get p).essence
  passedOver : ∀ p, (s'.ports.get p).passedOver = (s.ports.get p).passedOver
  service : ∀ p, (s.ports.get p).service.Nodup → (s'.ports.get p).service.Nodup
  replies : ∀ t, (s'.returns.get t).replies = (s.returns.get t).replies
  reports : ∀ t, (s.returns.get t).reports.length ≤ Config.reportDepth → (s'.returns.get t).reports.length ≤ Config.reportDepth

theorem Posted.of_same {s s' : State} (ports : s'.ports = s.ports) (returns : s'.returns = s.returns) : Posted s s' := by
  refine ⟨?_, ?_, ?_, ?_, ?_⟩ <;> simp [ports, returns]

theorem Posted.refl (s : State) : Posted s s := .of_same rfl rfl

theorem Posted.trans {a b c : State} (h : Posted a b) (k : Posted b c) : Posted a c :=
  ⟨fun p => (k.essence p).trans (h.essence p), fun p => (k.passedOver p).trans (h.passedOver p),
    fun p hp => k.service p (h.service p hp), fun t => (k.replies t).trans (h.replies t), fun t ht => k.reports t (h.reports t ht)⟩

/-- Records of neither kind changed afterwards. -/
theorem Posted.then {a b c : State} (h : Posted a b) (ports : c.ports = b.ports) (returns : c.returns = b.returns) : Posted a c :=
  h.trans (.of_same ports returns)

/-- Records of neither kind changed before. -/
theorem Posted.before {a b c : State} (h : Posted b c) (ports : b.ports = a.ports) (returns : b.returns = a.returns) : Posted a c :=
  (Posted.of_same ports returns).trans h

theorem Posted.of_ports {s s' : State} (returns : s'.returns = s.returns)
    (ports : ∀ p, s'.ports.get p = s.ports.get p ∨ ∃ k ch, s'.ports.get p = (s.ports.get p).post k ch) : Posted s s' := by
  have port (p : Port) : (s'.ports.get p).essence = (s.ports.get p).essence ∧ (s'.ports.get p).passedOver = (s.ports.get p).passedOver ∧
      ((s.ports.get p).service.Nodup → (s'.ports.get p).service.Nodup) := by
    rcases ports p with h | ⟨k, ch, h⟩ <;> rw [h]
    · exact ⟨rfl, rfl, id⟩
    · exact ⟨by simp, by simp, DropPort.post_nodup _ k ch⟩
  exact ⟨fun p => (port p).1, fun p => (port p).2.1, fun p => (port p).2.2, fun t => by rw [returns], fun t => by rw [returns]; exact id⟩

theorem Posted.of_returns {s s' : State} (ports : s'.ports = s.ports)
    (returns : ∀ t, s'.returns.get t = s.returns.get t ∨ ∃ r, s'.returns.get t = (s.returns.get t).push r) : Posted s s' := by
  have tx (t : Trunk) : (s'.returns.get t).replies = (s.returns.get t).replies ∧
      ((s.returns.get t).reports.length ≤ Config.reportDepth → (s'.returns.get t).reports.length ≤ Config.reportDepth) := by
    rcases returns t with h | ⟨r, h⟩ <;> rw [h]
    · exact ⟨rfl, id⟩
    · exact ⟨ReturnTx.push_replies _ r, ReturnTx.push_reports_length _ r⟩
  exact ⟨fun p => by rw [ports], fun p => by rw [ports], fun p => by rw [ports]; exact id, fun t => (tx t).1, fun t => (tx t).2⟩

theorem Posted.foldl {α : Type} {s s' : State} (step : State → α → State) (h : ∀ s a, Posted s (step s a)) (l : List α)
    (hs : Posted s s') : Posted s (l.foldl step s') :=
  foldl_invariant (P := Posted s) l (fun x a _ hx => hx.trans (h x a)) hs

/-! ## The shared operations -/

theorem queueReport_posted (t : Trunk) (r : Report) (s : State) : Posted s (queueReport t r s) :=
  .of_returns (by simp) fun u => by
    rw [queueReport_get]
    split
    · exact .inr ⟨r, rfl⟩
    · exact .inl rfl

theorem queueMasked_posted (r : Report) (s : State) : Posted s (queueMasked r s) :=
  .of_returns (by simp) fun u => by
    rw [queueMasked_get]
    split
    · exact .inr ⟨r, rfl⟩
    · exact .inl rfl

theorem requestDisplay_posted (d : DestNo) (s : State) : Posted s (requestDisplay d s) :=
  .of_ports (by simp) fun p => by
    rw [requestDisplay_get]
    split
    · exact .inr ⟨_, _, rfl⟩
    · exact .inl rfl

theorem requestDisplays_posted (ds : List DestNo) (s : State) : Posted s (requestDisplays ds s) :=
  .foldl _ (fun s d => requestDisplay_posted d s) ds (.refl s)

theorem displayVacated_posted (b s : State) : Posted s (displayVacated b s) := requestDisplays_posted _ s

theorem postFill_posted (d : DestNo) (s : State) : Posted s (postFill d s) :=
  .of_ports (by simp) fun p => by
    rw [postFill_get]
    split
    · exact .inr ⟨_, _, rfl⟩
    · exact .inl rfl

theorem modeNotice_posted (s : State) : Posted s (modeNotice s) := by
  unfold modeNotice
  split
  · exact (queueMasked_posted _ _).before rfl rfl
  · exact .refl s

theorem salvoNotice_posted (k : SlotNo) (out : TakeOutcome) (s : State) : Posted s (salvoNotice k out s) := by
  have ended : Posted s (s.updSalvo k (·.ended out)) := .of_same rfl rfl
  unfold salvoNotice
  dsimp only
  split
  · split
    · exact ended.trans (queueReport_posted _ _ _)
    · exact ended
  · exact ended

theorem notifyEnd_posted (d : DestNo) (k : Take) (out : TakeOutcome) (s : State) : Posted s (notifyEnd d k out s) := by
  unfold notifyEnd
  split
  · exact salvoNotice_posted _ _ s
  · split
    · exact .refl s
    · exact queueReport_posted _ _ s

theorem removeActive_posted (d : DestNo) (out : TakeOutcome) (s : State) : Posted s (removeActive d out s) := by
  unfold removeActive
  split
  · exact .refl s
  · exact (notifyEnd_posted ..).before rfl rfl

theorem removeArmed_posted (d : DestNo) (out : TakeOutcome) (s : State) : Posted s (removeArmed d out s) := by
  unfold removeArmed
  split
  · exact removeActive_posted ..
  · exact (removeActive_posted ..).trans (removeActive_posted ..)

theorem removeFollow_posted (d : DestNo) (out : TakeOutcome) (s : State) : Posted s (removeFollow d out s) := by
  unfold removeFollow
  split
  · exact .refl s
  · exact (notifyEnd_posted ..).before rfl rfl

theorem complete_posted (d : DestNo) (ended : JoinEnd) (s : State) : Posted s (complete d ended s) := by
  unfold complete
  split
  · exact .refl s
  · next k _ =>
    split
    · set told := notifyEnd d k (outcomeOf ended k.late) (s.setActive d none)
      have ends : Posted s told := (notifyEnd_posted ..).before rfl rfl
      have promoted : Posted s (promote d (requestDisplay d told)) :=
        (ends.trans (requestDisplay_posted d told)).then (by simp) (by simp)
      exact promoted.trans (modeNotice_posted _)
    · exact .refl s

theorem placeTake_posted (b : State) (d : DestNo) (k : Take) (s : State) : Posted s (placeTake b d k s) := by
  unfold placeTake
  dsimp only
  split
  · exact (removeFollow_posted d _ s).then rfl rfl
  · have placed := (removeArmed_posted d .superseded s).then
      (c := (removeArmed d .superseded s).setActive d (some (armedTake s d k))) rfl rfl
    split
    · exact placed.trans (requestDisplay_posted d _)
    · exact placed

theorem armFill_posted (d : DestNo) (x : Time) (s : State) : Posted s (armFill d x s) := .of_same (by simp) (by simp)

theorem lossNotice_posted (n : SourceNo) (d : DestNo) (s : State) : Posted s (lossNotice n d s) := by
  unfold lossNotice
  split
  · split
    · exact Posted.trans ((postFill_posted d (s.updSwitching d fun w => { w with cut := .steady (some n) .waiting })).before rfl rfl)
        (armFill_posted d _ _)
    · exact .refl s
  · split <;> exact .of_same rfl rfl
  · exact .refl s

theorem sourceChanged_posted (n : SourceNo) (previous : SourceState) (s : State) : Posted s (sourceChanged n previous s) := by
  rw [sourceChanged_eq]
  have announced : Posted s (sourceAnnounced n previous s) := by
    have tracked : Posted s (evaluateTracking n s) := .of_same rfl rfl
    unfold sourceAnnounced
    dsimp only
    by_cases hl : lockChanges previous (s.sources.get n).state = true
    · simp only [hl, Bool.true_or, if_true]
      exact (tracked.trans (queueMasked_posted _ _)).trans (requestDisplays_posted _ _)
    · simp only [hl, Bool.false_or]
      split
      · exact (queueMasked_posted _ s).trans (requestDisplays_posted _ _)
      · exact .refl s
  split
  · exact announced.trans (.foldl _ (fun s d => lossNotice_posted n d s) _ (.refl _))
  · exact announced

theorem enterLost_posted (n : SourceNo) (s : State) : Posted s (enterLost n s) :=
  (sourceChanged_posted n _ _).before rfl rfl

/-! ## Cells -/

theorem reanchorCheck_posted (n : SourceNo) (s : State) : Posted s (reanchorCheck n s) := by
  rcases reanchorCheck_cases n s with ⟨-, e⟩ | ⟨f, -, e⟩
  · rw [e]
    exact .refl _
  · rw [e, reanchor_eq]
    exact (queueMasked_posted _ _).before rfl rfl

theorem captureFrame_posted (n : SourceNo) (s : State) : Posted s (captureFrame n s) := by
  have changed : Posted s (sourceChanged n (s.sources.get n).state (s.updSource n fun r => r.captured (sourceFormat s n) s.houseTime)) :=
    (sourceChanged_posted n _ _).before rfl rfl
  exact (changed.trans (reanchorCheck_posted n _)).then rfl rfl

theorem trackCell_posted (n : SourceNo) (c : Cell) (s : State) : Posted s (trackCell n c s) := by
  have entered : Posted s ((sequenceCheck n c.seq s).updSource n (·.entered c.frameStart)) := .of_same (by simp) (by simp)
  unfold trackCell
  dsimp only
  split
  · set x := (sequenceCheck n c.seq s).updSource n (·.entered c.frameStart)
    exact entered.trans (captureFrame_posted n x)
  · exact entered

/-- Admission looks at the essence queues alone (R92). -/
theorem admittedSet_congr {s s' : State} {l acc : List DestNo} (h : ∀ p, (s'.ports.get p).essence = (s.ports.get p).essence) :
    admittedSet s' l acc = admittedSet s l acc := by
  induction l generalizing acc with
  | nil => rfl
  | cons d rest ih =>
    unfold admittedSet
    dsimp only
    rw [h, ih, ih]

theorem settleReceivers_posted (n : SourceNo) (locked : Bool) (got l : List DestNo) (s : State) :
    Posted s (settleReceivers n locked got l s) := by
  refine .foldl _ (fun s d => ?_) l (.refl s)
  split
  · unfold receiveCell
    split
    · exact .of_same rfl rfl
    · exact (complete_posted d _ _).before rfl rfl
    · exact .refl s
  · unfold missCell
    split
    · exact .of_same (by simp) (by simp)
    · exact .refl s
    · exact .of_same rfl rfl
    · exact (complete_posted d _ _).before (by simp [armFillLater]) (by simp [armFillLater])

theorem countRefusals_posted (ds : List DestNo) (s : State) : Posted s (countRefusals ds s) := by
  refine .foldl _ (fun s d => ?_) ds (.refl s)
  have port (p : Port) : (s.updPort (portOf d) fun x => { x with refused := bump x.refused }).ports.get p =
      { s.ports.get p with refused := if portOf d = p then bump (s.ports.get p).refused else (s.ports.get p).refused } := by
    rw [State.updPort_ports, Tbl.get_modify]
    split <;> rfl
  exact ⟨fun p => by rw [port], fun p => by rw [port], fun p => by rw [port]; exact id, fun _ => rfl, fun _ => id⟩

/-- Replication posts and reports, but for one cell stored in a free slot for an admitted set that is not empty (R92–R95). -/
theorem replicate_stores (n : SourceNo) (c : Cell) (pick : PoolNo) (s : State) :
    Posted s (replicate n c pick s) ∧ (replicate n c pick s).pool = s.pool ∨
      ∃ k s₁ l, Posted s s₁ ∧ s₁.pool = s.pool ∧ slotFree s.pool k = true ∧ admittedSet s₁ l [] ≠ [] ∧
        Posted (storeCell k c (admittedSet s₁ l []) s₁) (replicate n c pick s) ∧
        (replicate n c pick s).pool = (storeCell k c (admittedSet s₁ l []) s₁).pool ∧ s₁.margin = s.margin ∧ s₁.contexts = s.contexts := by
  have drained : Posted s (drainEnded n c.frameStart s) := .of_same (by simp) (by simp)
  obtain ⟨s₁, locked, receivers, admitted, refused, hs, -, -, ha, -, ⟨-, e⟩ | ⟨k, some, free, e⟩ | ⟨-, -, e⟩⟩ := replicate_cases n c pick s
  all_goals subst hs
  all_goals have counted := drained.trans (countRefusals_posted refused _)
  · refine .inl ⟨?_, by rw [e]; simp⟩
    rw [e]
    exact counted.trans (settleReceivers_posted ..)
  · have room : admittedSet (countRefusals refused (drainEnded n c.frameStart s)) receivers [] = admitted := by
      rw [ha]
      exact admittedSet_congr fun p => (countRefusals_posted refused _).essence p
    refine .inr ⟨k, countRefusals refused (drainEnded n c.frameStart s), receivers, counted, by simp, takeSlot_free free, ?_⟩
    rw [room, e]
    exact ⟨some, settleReceivers_posted .., by simp, by simp, by simp⟩
  · refine .inl ⟨?_, by rw [e]; simp⟩
    rw [e]
    exact counted.trans ((settleReceivers_posted ..).before rfl rfl)

/-! ## Trunks -/

theorem quarantineSources_posted (t : Trunk) (s : State) : Posted s (quarantineSources t s) :=
  .foldl _ (fun s n => by
    unfold quarantineSource
    split
    · exact enterLost_posted n s
    · exact .refl s) _ (.refl s)

theorem erroredArrival_posted (t : Trunk) (s : State) : Posted s (erroredArrival t s) := by
  unfold erroredArrival
  dsimp only
  split
  · exact .of_same rfl rfl
  · unfold erroredCell
    dsimp only
    split
    · exact (((quarantineSources_posted t _).trans (queueMasked_posted _ _)).before rfl rfl)
    · split
      · exact (queueMasked_posted _ _).before rfl rfl
      · exact .of_same rfl rfl

theorem goodCell_posted (t : Trunk) (s : State) : Posted s (goodCell t s) := by
  unfold goodCell
  dsimp only
  split
  · exact (queueMasked_posted _ _).before rfl rfl
  · exact .of_same rfl rfl

theorem quarantinedGood_posted (t : Trunk) (s : State) : Posted s (quarantinedGood t s) := by
  unfold quarantinedGood
  dsimp only
  split
  · exact (queueMasked_posted _ _).before rfl rfl
  · exact .of_same rfl rfl

/-- A good cell posts and reports, or is essence to replicate (R135–R137). -/
theorem goodArrival_stores (t : Trunk) (c : Cell) (pick : PoolNo) (s : State) :
    Posted s (goodArrival t c pick s) ∧ (goodArrival t c pick s).pool = s.pool ∨
      ∃ n s₁, Posted s s₁ ∧ s₁.pool = s.pool ∧ goodArrival t c pick s = replicate n c pick s₁ := by
  set x := s.updReceiver t fun r => { r with good := bump r.good }
  have good : Posted s (goodCell t x) := (goodCell_posted t x).before rfl rfl
  unfold goodArrival
  dsimp only
  split
  · exact .inl ⟨(quarantinedGood_posted t x).before rfl rfl, by simp⟩
  · split
    · unfold essenceArrival
      dsimp only
      split
      · exact .inl ⟨good.then rfl rfl, by simp⟩
      · exact .inr ⟨_, _, good.trans (trackCell_posted _ c _), by simp [x], rfl⟩
    · split
      · exact .inl ⟨good.then rfl rfl, by simp⟩
      · exact .inl ⟨good, by simp⟩

/-! ## Commands -/

theorem cancelPending_posted (d : DestNo) (spare : Take → Bool) (s : State) : Posted s (cancelPending d spare s) := by
  have armed : Posted s (if removesArmed s d spare then removeArmed d .cancelled s else s) := by
    split
    · exact removeArmed_posted ..
    · exact .refl s
  unfold cancelPending
  dsimp only
  split
  · exact armed.trans (removeFollow_posted ..)
  · exact armed

theorem displayPlaced_posted (b : State) (d : DestNo) (s : State) : Posted s (displayPlaced b d s) := by
  unfold displayPlaced
  split
  · exact requestDisplay_posted d s
  · exact .refl s

theorem createPair_posted (k : Take) (a b : DestNo) (s : State) : Posted s (createPair k a b s) := by
  set x := removeArmed b .superseded (removeArmed a .superseded s)
  have halves : Posted s (placeHalf k b a (placeHalf k a b x)) :=
    ((removeArmed_posted a _ s).trans (removeArmed_posted b _ _)).then rfl rfl
  exact ((halves.trans (displayPlaced_posted ..)).trans (displayPlaced_posted ..)).trans (displayVacated_posted ..)

theorem storeClass_posted (d : DestNo) (c : DestClass) (s : State) : Posted s (storeClass d c s) := by
  unfold storeClass
  dsimp only
  split
  · exact (requestDisplay_posted d _).before rfl rfl
  · exact .of_same rfl rfl

theorem formatDest_posted (d : DestNo) (f : FormatNo) (o : Int) (s : State) : Posted s (formatDest d f o s) := by
  unfold formatDest
  dsimp only
  split
  · exact (requestDisplay_posted d _).before (by simp [armFillNext]) (by simp [armFillNext])
  · (repeat' split) <;> exact .of_same rfl rfl

theorem defineDest_posted (d : DestNo) (format : Option FormatNo) (c : DestClass) (offset : Int) (s : State) :
    Posted s (defineDest d format c offset s).state := by
  rw [defineDest_state]
  cases format with
  | none =>
    dsimp only
    split
    · exact (storeClass_posted d c s).then rfl rfl
    · exact storeClass_posted d c s
  | some f => exact (storeClass_posted d c s).trans (formatDest_posted ..)

theorem storeFormat_posted (n : SourceNo) (f : Option FormatNo) (s : State) : Posted s (storeFormat n f s) := by
  unfold storeFormat
  dsimp only
  split
  · exact .refl s
  · exact Posted.then ((sourceChanged_posted n (s.sources.get n).state (s.updSource n (·.redefined f))).before rfl rfl) rfl rfl

theorem storeLabel_posted (n : SourceNo) (label : Tbl Byte 16) (s : State) : Posted s (storeLabel n label s) := by
  unfold storeLabel
  dsimp only
  split
  · exact .of_same rfl rfl
  · exact (requestDisplays_posted _ _).before rfl rfl

theorem displayRecording_posted (d : DestNo) (was on : Bool) (s : State) : Posted s (displayRecording d was on s) := by
  unfold displayRecording
  split
  · exact .refl s
  · exact requestDisplay_posted d s

theorem recordOn_posted (d : DestNo) (s : State) : Posted s (recordOn d s).state := by
  have cancelled : Posted s (cancelPending d (·.overrideUsed) (storeRecording d true s)) := (cancelPending_posted d _ _).before rfl rfl
  rw [recordOn_state]
  exact (cancelled.trans (displayRecording_posted ..)).trans (displayVacated_posted ..)

theorem firePair_posted (b : State) (slot : SlotNo) (t : Trunk) (tag : Tag) (g : Target) (p : Pair) (s : State) :
    Posted s (firePair b slot t tag g p s) := (placeTake_posted ..).before rfl rfl

theorem storeProtection_posted (d : DestNo) (p : Protection) (owner : Byte) (s : State) : Posted s (storeProtection d p owner s) := by
  unfold storeProtection
  dsimp only
  split
  · exact .of_same rfl rfl
  · exact (requestDisplay_posted d _).before rfl rfl

theorem cancelAllArmed_posted (s : State) : Posted s (cancelAllArmed s) :=
  .foldl _ (fun s d => by
    split
    · exact removeArmed_posted ..
    · exact .refl s) _ (.refl s)

theorem holdMode_posted (s : State) : Posted s (holdMode s) := by
  unfold holdMode
  split
  · exact .refl s
  · split
    · exact (queueMasked_posted _ _).before rfl rfl
    · exact .of_same rfl rfl

theorem clearCounters_posted (s : State) : Posted s (clearCounters s) := by
  refine ⟨?_, ?_, ?_, ?_, ?_⟩ <;> simp [clearCounters]

theorem switchCut_posted (d : DestNo) (new : Option SourceNo) (x : Time) (s : State) : Posted s (switchCut d new x s) := by
  unfold switchCut
  split
  · split
    · refine Posted.trans ?_ (complete_posted d _ _)
      exact Posted.trans ((postFill_posted d (s.updSwitching d fun w => { w with cut := .steady none .waiting })).before rfl rfl)
        (armFill_posted d _ _)
    · (repeat' split) <;> exact .of_same rfl rfl
  · exact .refl s

theorem giveUpJoining_posted (d : DestNo) (s : State) : Posted s (giveUpJoining d s) := by
  refine Posted.trans ?_ (complete_posted d _ _)
  exact Posted.trans ((postFill_posted d (s.updSwitching d fun w => { w with cut := .steady (s.dests.get d).current .waiting })).before
    rfl rfl) (armFill_posted d _ _)

/-! ## Every effect -/

/-- The effects that do more to the queues than post and report. -/
inductive QueueEffect (s : State) : State → Prop where
  | posted {s' : State} (posts : Posted s s') (pool : s'.pool = s.pool) : QueueEffect s s'
  | replicated {s₁ : State} (n : SourceNo) (c : Cell) (pick : PoolNo) (posts : Posted s s₁) (pool : s₁.pool = s.pool) :
      QueueEffect s (replicate n c pick s₁)
  | sent (p : Port) : QueueEffect s (dropOpportunity p s)
  | returned (t : Trunk) : QueueEffect s (returnOpportunity t s)
  | warmReset : QueueEffect s (Machine.warmReset s)
  | reset (b : Bool) : QueueEffect s { State.reset with pending := s.pending, resetLine := b }

theorem Effect.queues {s s' : State} (e : Effect s s') : QueueEffect s s' := by
  cases e with
  | place t tag checked => exact .posted ((placeTake_posted ..).trans (displayVacated_posted ..)) (by simp)
  | cancel d => exact .posted ((cancelPending_posted ..).trans (displayVacated_posted ..)) (by simp)
  | sweep t tag checked =>
    exact .posted (Posted.trans (.foldl _ (fun s d => placeTake_posted ..) _ (.refl s)) (displayVacated_posted ..))
      (by simp; exact foldl_keeps _ State.pool (fun s a => by simp) _ s)
  | swap t tag ne checked => exact .posted (createPair_posted ..) (by simp)
  | @fire slot owner g accepted t tag loaded checked =>
    have fired : Posted s (accepted.foldl (fun s' x => firePair s slot t tag g x.2 s') (s.updSalvo slot (·.fire t tag))) :=
      .foldl _ (fun s x => firePair_posted ..) _ (.of_same rfl rfl)
    exact .posted (fired.trans (displayVacated_posted ..)) (by simp; exact foldl_keeps _ State.pool (fun s a => by simp) _ _)
  | protection => exact .posted (storeProtection_posted ..) (by simp)
  | @recordOn d defined recorder =>
    refine .posted (recordOn_posted d s) ?_
    rw [recordOn_state]
    simp
  | recordOff d =>
    refine .posted ?_ ?_ <;> rw [recordOff_state]
    · exact (displayRecording_posted d _ _ (storeRecording d false s)).before rfl rfl
    · simp
  | @destDefine d format c offset held defined idle =>
    exact .posted (defineDest_posted ..) (by rw [defineDest_state]; cases format <;> dsimp only <;> (try split) <;> simp)
  | sourceDefine label defined idle => exact .posted ((storeFormat_posted ..).trans (storeLabel_posted ..)) (by simp)
  | tally n bits => exact .posted ((requestDisplays_posted _ _).before rfl rfl) (by simp)
  | timeset v held => exact .posted (((cancelAllArmed_posted s).trans (displayVacated_posted ..)).then rfl rfl) (by simp)
  | hold => exact .posted (holdMode_posted s) (by simp)
  | warmReset => exact .warmReset
  | clearCounters => exact .posted (clearCounters_posted s) (by simp)
  | goodArrival t c pick =>
    rcases goodArrival_stores t c pick s with ⟨posts, pool⟩ | ⟨n, s₁, posts, pool, e⟩
    · exact .posted posts pool
    · rw [e]
      exact .replicated n c pick posts pool
  | erroredArrival t => exact .posted (erroredArrival_posted t s) (by simp)
  | dropOpportunity p => exact .sent p
  | returnOpportunity t => exact .returned t
  | resetLine b => exact .reset b
  | commit holds armed single =>
    refine .posted ?_ (by simp)
    unfold commitArmed
    split
    · exact .of_same rfl rfl
    · split
      · exact .of_same rfl rfl
      · exact (removeActive_posted ..).trans (displayVacated_posted ..)
  | switch x holds committed steady => exact .posted ((switchCut_posted ..).before (by simp) (by simp)) (by simp)
  | lost watched => exact .posted (enterLost_posted ..) (by simp)
  | giveUp joining => exact .posted (giveUpJoining_posted ..) (by simp)
  | fill active => exact .posted ((postFill_posted ..).trans (armFill_posted ..)) (by simp [armFillNext])
  | _ => exact .posted (.of_same (by simp) (by simp)) (by simp)

end Sys2Proof.Machine
end

section
/-! SUPPORT. The Cell Pool (R95) and the bounds of the queues (R3, R92, R97, R98, R150, R151, R155) under every effect of a step. -/

namespace Sys2Proof.Machine

/-! ## Counting essence entries -/

theorem sum_over_ports_add (f g : Port → Nat) :
    ((List.finRange 8).map fun p => f p + g p).sum = ((List.finRange 8).map f).sum + ((List.finRange 8).map g).sum := by
  induction List.finRange 8 with
  | nil => rfl
  | cons p rest ih =>
    simp only [List.map_cons, List.sum_cons, ih]
    omega

theorem sum_over_ports_single (q : Port) (n : Nat) : ((List.finRange 8).map fun p => if q = p then n else 0).sum = n := by
  have one : ∀ q : Port, ((List.finRange 8).map fun p => if q = p then 1 else 0).sum = 1 := by decide
  have scaled : (fun p : Port => if q = p then n else 0) = fun p => n * if q = p then 1 else 0 := by
    funext p
    split <;> simp
  rw [scaled, List.sum_map_mul_left, one, Nat.mul_one]

theorem sum_over_ports_zero : ((List.finRange 8).map fun _ : Port => 0).sum = 0 := by decide

/-- Every destination stands on one port. -/
theorem sum_over_ports_count (ds : List DestNo) : ((List.finRange 8).map fun p => ds.countP fun d => portOf d == p).sum = ds.length := by
  induction ds with
  | nil => simp only [List.countP_nil, List.length_nil, sum_over_ports_zero]
  | cons d rest ih =>
    have split (p : Port) : (d :: rest).countP (fun d => portOf d == p) =
        rest.countP (fun d => portOf d == p) + if portOf d = p then 1 else 0 := by
      rw [List.countP_cons]
      simp only [beq_iff_eq]
    simp only [split, sum_over_ports_add, ih, sum_over_ports_single, List.length_cons]

theorem entriesNaming_congr {s s' : State} (h : ∀ p, (s'.ports.get p).essence = (s.ports.get p).essence) (k : PoolNo) :
    entriesNaming s' k = entriesNaming s k := by
  unfold entriesNaming
  simp only [h]

/-- One entry for each destination, all naming the slot stored into. -/
theorem entriesNaming_storeCell (k : PoolNo) (c : Cell) (ds : List DestNo) (s : State) (j : PoolNo) :
    entriesNaming (storeCell k c ds s) j = entriesNaming s j + if k = j then ds.length else 0 := by
  have port (p : Port) : (((storeCell k c ds s).ports.get p).essence.countP fun e => e.slot == j) =
      ((s.ports.get p).essence.countP fun e => e.slot == j) + if k = j then ds.countP fun d => portOf d == p else 0 := by
    rw [storeCell, appendEntries_get, List.countP_append, List.countP_map]
    congr 1
    by_cases h : k = j
    · simp [h, Function.comp_def, List.countP_eq_length_filter]
    · simp [h, Function.comp_def]
  unfold entriesNaming
  rw [List.map_congr_left fun p _ => port p, sum_over_ports_add]
  split
  · rw [sum_over_ports_count]
  · rw [sum_over_ports_zero]

/-- One entry given up by the port that sends it. -/
theorem entriesNaming_sendEssence {p : Port} {e : EssenceEntry} {rest : List EssenceEntry} {s : State}
    (head : (s.ports.get p).essence = e :: rest) (j : PoolNo) :
    entriesNaming s j = entriesNaming (sendEssence p e rest s) j + if e.slot = j then 1 else 0 := by
  have port (q : Port) : ((s.ports.get q).essence.countP fun e => e.slot == j) =
      (((sendEssence p e rest s).ports.get q).essence.countP fun e => e.slot == j) +
        if p = q then (if e.slot = j then 1 else 0) else 0 := by
    simp only [sendEssence, Tbl.get_modify]
    by_cases h : p = q
    · subst h
      simp [head, DropPort.sentOn, List.countP_cons]
    · simp [h]
  unfold entriesNaming
  rw [List.map_congr_left fun q _ => port q, sum_over_ports_add, sum_over_ports_single]

/-! ## The Cell Pool -/

theorem PoolLaw.posted {s s' : State} (h : PoolLaw s) (posts : Posted s s') (pool : s'.pool = s.pool) : PoolLaw s' :=
  ⟨pool ▸ h.canonical, fun k => by rw [pool, h.references, entriesNaming_congr posts.essence]⟩

theorem PoolLaw.storeCell {s : State} (h : PoolLaw s) {k : PoolNo} (free : slotFree s.pool k = true) (c : Cell) {ds : List DestNo}
    (some : ds ≠ []) : PoolLaw (storeCell k c ds s) := by
  have pool : (Machine.storeCell k c ds s).pool = poolInsert ⟨k, ds.length, c⟩ s.pool := by simp [Machine.storeCell]
  refine ⟨?_, fun j => ?_⟩
  · rw [pool]
    exact poolWf_insert h.canonical free (List.length_pos_iff.mpr some)
  · rw [pool, refsOf_insert free, entriesNaming_storeCell, ← h.references]
    split
    · next e =>
      have e : k = j := e
      rw [← e, refsOf_free free]
      exact (Nat.zero_add _).symm
    · rfl

theorem PoolLaw.sendEssence {s : State} (h : PoolLaw s) {p : Port} {e : EssenceEntry} {rest : List EssenceEntry}
    (head : (s.ports.get p).essence = e :: rest) : PoolLaw (sendEssence p e rest s) := by
  have pool : (Machine.sendEssence p e rest s).pool = poolRelease e.slot s.pool := rfl
  refine ⟨?_, fun j => ?_⟩
  · rw [pool]
    exact poolWf_release h.canonical
  · have entries := entriesNaming_sendEssence head j
    rw [pool, refsOf_release h.canonical, h.references]
    split
    · next hj =>
      rw [if_pos hj] at entries
      omega
    · next hj =>
      rw [if_neg hj] at entries
      exact entries

theorem sendService_essence (p : Port) (e : ServiceEntry) (rest : List ServiceEntry) (s : State) (q : Port) :
    ((sendService p e rest s).ports.get q).essence = (s.ports.get q).essence := by
  simp only [sendService, Tbl.get_modify]
  split <;> rfl

/-- Everything that a transmit opportunity of a drop link can do (R98). -/
theorem dropOpportunity_cases (p : Port) (s : State) :
    (∃ e rest, (s.ports.get p).service = e :: rest ∧ dropOpportunity p s = sendService p e rest s) ∨
      (∃ x more, (s.ports.get p).essence = x :: more ∧ ((s.ports.get p).service ≠ [] → serviceTurn s p = false) ∧
        dropOpportunity p s = sendEssence p x more s) ∨ dropOpportunity p s = sendIdle p s := by
  unfold dropOpportunity
  split
  · next e rest hs =>
    split
    · exact .inl ⟨e, rest, hs, rfl⟩
    · next turn =>
      split
      · exact .inr (.inr rfl)
      · next he => exact .inr (.inl ⟨_, _, he, fun _ => by simpa using turn, rfl⟩)
  · next x more hs he => exact .inr (.inl ⟨x, more, he, fun h => absurd hs h, rfl⟩)
  · exact .inr (.inr rfl)

theorem warmReset_essence (s : State) (p : Port) : ((warmReset s).ports.get p).essence = [] := by
  rw [warmReset, (requestDisplays_posted _ _).essence]
  simp [warmBlocks, clearCounters, DropPort.warm]

theorem entriesNaming_empty {s : State} (h : ∀ p, (s.ports.get p).essence = []) (k : PoolNo) : entriesNaming s k = 0 := by
  unfold entriesNaming
  simp only [h, List.countP_nil, sum_over_ports_zero]

theorem PoolLaw.empty {s : State} (pool : s.pool = []) (h : ∀ p, (s.ports.get p).essence = []) : PoolLaw s :=
  ⟨by rw [pool]; decide, fun k => by rw [pool, refsOf_nil, entriesNaming_empty h]⟩

theorem PoolLaw.effect {s s' : State} (h : PoolLaw s) (e : Effect s s') : PoolLaw s' := by
  cases e.queues with
  | posted posts pool => exact h.posted posts pool
  | @replicated s₁ n c pick posts pool =>
    have before := h.posted posts pool
    rcases replicate_stores n c pick s₁ with ⟨posts, pool⟩ | ⟨k, s₂, l, posts, pool, free, some, rest, stored, -, -⟩
    · exact before.posted posts pool
    · exact ((before.posted posts pool).storeCell (pool ▸ free) c some).posted rest stored
  | sent p =>
    rcases dropOpportunity_cases p s with ⟨e, rest, -, hs⟩ | ⟨x, more, head, -, hs⟩ | hs <;> rw [hs]
    · exact ⟨h.canonical, fun k => (h.references k).trans (entriesNaming_congr (sendService_essence p e rest s) k).symm⟩
    · exact h.sendEssence head
    · exact h.posted (.of_same rfl rfl) rfl
  | returned t => exact ⟨by simpa using h.canonical, fun k => by
      rw [entriesNaming_congr (s := s) (fun p => by simp)]
      simpa using h.references k⟩
  | warmReset => exact .empty (by simp [Machine.warmReset, warmBlocks, clearCounters]) (warmReset_essence s)
  | reset b => exact .empty rfl (by simp [State.reset, DropPort.reset])

/-- Settles O12: only a cell stored and an entry sent touch the pool, each with the entries that name the slot. -/
theorem poolLawKept : Obligations.PoolLawKept := by
  unfold Obligations.PoolLawKept
  intro s s' h hs
  exact step_keeps (P := PoolLaw) (fun s l h => h.posted (.of_same rfl rfl) rfl)
    (fun s t h => h.posted (.of_same (by simp) (by simp)) (by simp))
    (fun s t r h => ⟨by simpa using h.canonical, fun k => by
      rw [entriesNaming_congr (s := s) (fun p => by simp)]
      simpa using h.references k⟩) (fun s s' h e => h.effect e) h hs

/-! ## The bounds of the queues -/

theorem QueueBounds.posted {s s' : State} (h : QueueBounds s) (posts : Posted s s') (margin : s'.margin ≤ Config.maxMargin)
    (fifo : ∀ t, (s'.contexts.get t).fifo.length ≤ Config.commandDepth) : QueueBounds s' where
  margin := margin
  fifo := fifo
  replies t := by rw [posts.replies]; exact h.replies t
  reports t := posts.reports t (h.reports t)
  essence p := by rw [posts.essence]; exact h.essence p
  service p := posts.service p (h.service p)
  passedOver p := by rw [posts.passedOver]; exact h.passedOver p

theorem QueueBounds.storeCell {s : State} (h : QueueBounds s) (k : PoolNo) (c : Cell) (l : List DestNo) :
    QueueBounds (storeCell k c (admittedSet s l []) s) := by
  have port (p : Port) := appendEntries_get k (admittedSet s l []) { s with pool := poolInsert ⟨k, (admittedSet s l []).length, c⟩ s.pool } p
  refine ⟨by simpa using h.margin, by simpa using h.fifo, by simpa using h.replies, by simpa using h.reports, fun p => ?_, fun p => ?_,
    fun p => ?_⟩ <;> rw [Machine.storeCell, port]
  · have room := admit_room (s := s) (l := l) (acc := []) (p := p) (by simpa using h.essence p)
    simpa [List.countP_eq_length_filter] using room
  · exact h.service p
  · exact h.passedOver p

/-- One port changed within its bounds. -/
theorem QueueBounds.port {s s' : State} (h : QueueBounds s) {p : Port} {g : DropPort → DropPort} (ports : s'.ports = s.ports.modify p g)
    (margin : s'.margin = s.margin) (contexts : s'.contexts = s.contexts) (returns : s'.returns = s.returns)
    (essence : (g (s.ports.get p)).essence.length ≤ Config.essenceDepth) (service : (g (s.ports.get p)).service.Nodup)
    (passedOver : (g (s.ports.get p)).passedOver ≤ Config.passOverLimit) : QueueBounds s' := by
  refine ⟨margin ▸ h.margin, by rw [contexts]; exact h.fifo, by rw [returns]; exact h.replies, by rw [returns]; exact h.reports,
    fun q => ?_, fun q => ?_, fun q => ?_⟩
  all_goals
    rw [ports, Tbl.get_modify]
    split
  · next e => exact e ▸ essence
  · exact h.essence q
  · next e => exact e ▸ service
  · exact h.service q
  · next e => exact e ▸ passedOver
  · exact h.passedOver q

theorem QueueBounds.dropOpportunity {s : State} (h : QueueBounds s) (p : Port) : QueueBounds (dropOpportunity p s) := by
  rcases dropOpportunity_cases p s with ⟨e, rest, hd, hs⟩ | ⟨x, more, head, turn, hs⟩ | hs <;> rw [hs]
  · have service := h.service p
    rw [hd] at service
    exact h.port (p := p) (g := fun x => { x with service := rest, passedOver := 0 }.sentOn e.channel) rfl rfl rfl rfl (h.essence p)
      (List.nodup_cons.mp service).2 (Nat.zero_le _)
  · have essence := h.essence p
    rw [head, List.length_cons] at essence
    refine h.port (p := p) (g := fun y => { y with
      essence := more, passedOver := if y.service = [] then y.passedOver else y.passedOver + 1 }.sentOn x.channel) rfl rfl rfl rfl
      (Nat.le_of_succ_le essence) (h.service p) ?_
    change (if (s.ports.get p).service = [] then (s.ports.get p).passedOver else (s.ports.get p).passedOver + 1) ≤ Config.passOverLimit
    split
    · exact h.passedOver p
    · next waiting =>
      have early := turn waiting
      simp only [serviceTurn, head, Bool.or_eq_false_iff, decide_eq_false_iff_not, not_le] at early
      exact early.2
  · exact h.posted (.of_same rfl rfl) h.margin h.fifo

/-- A transmit opportunity of a return direction queues nothing (R149). -/
theorem returnOpportunity_eq (t : Trunk) (s : State) : ∃ l g, (g (s.returns.get t)).replies.length ≤ (s.returns.get t).replies.length ∧
    (g (s.returns.get t)).reports.length ≤ (s.returns.get t).reports.length ∧
    returnOpportunity t s = { s with returnLinks := l, returns := s.returns.modify t g } := by
  unfold returnOpportunity
  (repeat' split)
  · next e _ => exact ⟨_, _, by simp [e], by simp, rfl⟩
  · next _ e => exact ⟨_, _, by simp, by simp [e], rfl⟩
  · next e _ _ _ => exact ⟨_, _, by simp [e], by simp, rfl⟩
  · next _ e _ _ => exact ⟨_, _, by simp, by simp [e], rfl⟩
  · exact ⟨s.returnLinks.set t Cell.idle, id, le_rfl, le_rfl, by
      rw [show s.returns.modify t id = s.returns from Tbl.ext_get fun u => by rw [Tbl.get_modify]; split <;> rfl]⟩

theorem QueueBounds.returnOpportunity {s : State} (h : QueueBounds s) (t : Trunk) : QueueBounds (returnOpportunity t s) := by
  obtain ⟨l, g, replies, reports, e⟩ := returnOpportunity_eq t s
  rw [e]
  refine ⟨h.margin, h.fifo, fun u => ?_, fun u => ?_, h.essence, h.service, h.passedOver⟩
  · simp only [Tbl.get_modify]
    split
    · next e => exact e ▸ replies.trans (h.replies t)
    · exact h.replies u
  · simp only [Tbl.get_modify]
    split
    · next e => exact e ▸ reports.trans (h.reports t)
    · exact h.reports u

theorem goodArrival_fifo {s : State} (h : ∀ t, (s.contexts.get t).fifo.length ≤ Config.commandDepth) (t : Trunk) (c : Cell) (pick : PoolNo)
    (u : Trunk) : ((goodArrival t c pick s).contexts.get u).fifo.length ≤ Config.commandDepth := by
  unfold goodArrival
  dsimp only
  (repeat' split)
  case isFalse.isFalse.isTrue =>
    simp only [commandArrival, State.updContext_contexts, Tbl.get_modify, goodCell_frame, State.updReceiver_contexts]
    split
    · split
      · next room => simpa using Nat.succ_le_of_lt room
      · exact h u
    · exact h u
  all_goals simpa using h u

theorem erroredArrival_fifo {s : State} (h : ∀ t, (s.contexts.get t).fifo.length ≤ Config.commandDepth) (t u : Trunk) :
    ((erroredArrival t s).contexts.get u).fifo.length ≤ Config.commandDepth := by
  unfold erroredArrival erroredCell
  dsimp only
  (repeat' split)
  case isFalse.isTrue =>
    rw [enterQuarantine_eq]
    simp only [trunkChanged_frame, quarantineSources_frame, quarantineStages, State.setArm_contexts, State.updContext_contexts,
      Tbl.get_modify]
    split
    · exact Nat.zero_le _
    · exact h u
  all_goals simpa using h u

theorem warmReset_fifo (s : State) (t : Trunk) : ((warmReset s).contexts.get t).fifo = [] := by
  simp [warmReset, warmBlocks, clearCounters, warmRecords, evaluateAll]

theorem resetMargin_bound : State.reset.margin ≤ Config.maxMargin := by decide

/-- What every effect keeps of the margin and of the command FIFOs. -/
theorem Effect.margin_fifo {s s' : State} (e : Effect s s') (h : QueueBounds s) :
    s'.margin ≤ Config.maxMargin ∧ ∀ t, (s'.contexts.get t).fifo.length ≤ Config.commandDepth := by
  have kept {x : State} (margin : x.margin = s.margin) (contexts : x.contexts = s.contexts) :
      x.margin ≤ Config.maxMargin ∧ ∀ t, (x.contexts.get t).fifo.length ≤ Config.commandDepth :=
    ⟨margin ▸ h.margin, by rw [contexts]; exact h.fifo⟩
  cases e with
  | margin bound => exact ⟨bound, h.fifo⟩
  | sweep t tag checked =>
    exact kept (by simp; exact foldl_keeps _ State.margin (fun s a => by simp) _ s)
      (by simp; exact foldl_keeps _ State.contexts (fun s a => by simp) _ s)
  | fire t tag loaded checked =>
    exact kept (by simp; exact foldl_keeps _ State.margin (fun s a => by simp) _ _)
      (by simp; exact foldl_keeps _ State.contexts (fun s a => by simp) _ _)
  | recordOn => exact kept (by rw [recordOn_state]; simp) (by rw [recordOn_state]; simp)
  | recordOff => exact kept (by rw [recordOff_state]; simp) (by rw [recordOff_state]; simp)
  | @destDefine d format c offset held defined idle =>
    rw [defineDest_state]
    cases format with
    | none =>
      dsimp only
      split <;> exact kept (by simp) (by simp)
    | some f => exact kept (by simp) (by simp)
  | goodArrival t c pick => exact ⟨by simpa using h.margin, goodArrival_fifo h.fifo t c pick⟩
  | erroredArrival t => exact ⟨by simpa using h.margin, erroredArrival_fifo h.fifo t⟩
  | warmReset => exact ⟨by simpa using h.margin, fun t => by rw [warmReset_fifo]; exact Nat.zero_le _⟩
  | clearCounters => exact ⟨h.margin, fun t => by simpa [Machine.clearCounters] using h.fifo t⟩
  | resetLine b => exact ⟨resetMargin_bound, fun t => by simp [State.reset]⟩
  | _ => exact kept (by simp) (by simp)

theorem QueueBounds.reset (l : List Instr) (b : Bool) : QueueBounds { State.reset with pending := l, resetLine := b } := by
  refine ⟨resetMargin_bound, ?_, ?_, ?_, ?_, ?_, ?_⟩ <;> simp [State.reset, ReturnTx.reset, DropPort.reset]

theorem warmReset_bounds {s : State} (margin : s.margin ≤ Config.maxMargin) : QueueBounds (warmReset s) := by
  have blocks : QueueBounds (warmBlocks (warmRecords s)) := by
    refine ⟨by simpa using margin, ?_, ?_, ?_, ?_, ?_, ?_⟩ <;>
      simp [warmBlocks, clearCounters, warmRecords, evaluateAll, ReturnTx.reset, DropPort.warm]
  exact blocks.posted (requestDisplays_posted _ _) (by simpa using margin) fun t => by rw [warmReset_fifo]; exact Nat.zero_le _

theorem QueueBounds.effect {s s' : State} (h : QueueBounds s) (e : Effect s s') : QueueBounds s' := by
  obtain ⟨margin, fifo⟩ := e.margin_fifo h
  cases e.queues with
  | posted posts pool => exact h.posted posts margin fifo
  | @replicated s₁ n c pick posts pool =>
    have before : QueueBounds s₁ := h.posted posts (by simpa using margin) (by simpa using fifo)
    rcases replicate_stores n c pick s₁ with ⟨posts, -⟩ | ⟨k, s₂, l, posts, -, -, -, rest, -, same, contexts⟩
    · exact before.posted posts margin fifo
    · have stored := (before.posted posts (same ▸ before.margin) (by rw [contexts]; exact before.fifo)).storeCell k c l
      exact stored.posted rest margin fifo
  | sent p => exact h.dropOpportunity p
  | returned t => exact h.returnOpportunity t
  | warmReset => exact warmReset_bounds h.margin
  | reset b => exact .reset _ b

theorem storeCell_returns (k : PoolNo) (c : Cell) (l : List DestNo) (s : State) : (storeCell k c l s).returns = s.returns := by simp

theorem dropOpportunity_returns (p : Port) (s : State) : (dropOpportunity p s).returns = s.returns := by simp

/-- No effect queues a reply. -/
theorem Effect.replies {s s' : State} (e : Effect s s') (t : Trunk) :
    (s'.returns.get t).replies.length ≤ (s.returns.get t).replies.length := by
  cases e.queues with
  | posted posts pool => rw [posts.replies]
  | @replicated s₁ n c pick posts pool =>
    rcases replicate_stores n c pick s₁ with ⟨rest, -⟩ | ⟨k, s₂, l, stored, -, -, -, rest, -⟩
    · rw [rest.replies, posts.replies]
    · rw [rest.replies, storeCell_returns, stored.replies, posts.replies]
  | sent p => rw [dropOpportunity_returns]
  | returned u =>
    obtain ⟨l, g, replies, -, e⟩ := returnOpportunity_eq u s
    rw [e, Tbl.get_modify]
    split
    · next h => exact h ▸ replies
    · exact le_rfl
  | warmReset => simp [Machine.warmReset, warmBlocks, Machine.clearCounters, ReturnTx.reset]
  | reset b => simp [State.reset, ReturnTx.reset]

/-- Settles O4: postings and reports stay within their bounds, and the other changes make room or test it. -/
theorem queueBoundsKept : Obligations.QueueBoundsKept := by
  unfold Obligations.QueueBoundsKept
  intro s s' h hs
  rcases step_does hs with rfl | ⟨rest, e | ⟨t, r, s₁, room, e, rfl⟩⟩
  · exact h
  · exact (h.posted (.of_same rfl rfl) h.margin h.fifo : QueueBounds { s with pending := rest }).effect e
  · have head : QueueBounds (headTaken { s with pending := rest } t) :=
      h.posted (.of_same (by simp) (by simp)) (by simpa using h.margin) fun u => by
        rw [headTaken_contexts]
        split
        · exact (List.length_tail ▸ Nat.sub_le _ _ : _ ≤ _).trans (h.fifo u)
        · exact h.fifo u
    have bounds := head.effect e
    have free : (s₁.returns.get t).replies.length < Config.replyDepth := (e.replies t).trans_lt (by simpa using room)
    refine ⟨by simpa using bounds.margin, by simpa using bounds.fifo, fun u => ?_, fun u => ?_, by simpa using bounds.essence,
      by simpa using bounds.service, by simpa using bounds.passedOver⟩ <;> rw [queueReply_get]
    · split
      · next queued =>
        rw [List.length_append]
        exact Nat.succ_le_of_lt (queued.2 ▸ free)
      · exact bounds.replies u
    · split
      · exact bounds.reports u
      · exact bounds.reports u

end Sys2Proof.Machine
end

section
/-! SUPPORT. The trunk receivers (R135–R143): what each arrival makes of the receive record and which report it queues, and the laws of
protections, owners, receive records and source records under every effect of a step. -/

namespace Sys2Proof

theorem Tbl.modify_modify {α : Type} {n : Nat} (x : Tbl α n) (i : Fin n) (f g : α → α) :
    (x.modify i f).modify i g = x.modify i fun a => g (f a) :=
  Tbl.ext_get fun j => by
    simp only [Tbl.get_modify]
    split <;> rfl

theorem Tbl.set_set {α : Type} {n : Nat} (x : Tbl α n) (i : Fin n) (a b : α) : (x.set i a).set i b = x.set i b :=
  Tbl.ext_get fun j => by
    simp only [Tbl.get_set]
    split <;> rfl

/-- A record modified is the record set. -/
theorem Tbl.modify_eq_set {α : Type} {n : Nat} (x : Tbl α n) (i : Fin n) (f : α → α) : x.modify i f = x.set i (f (x.get i)) := rfl

namespace Machine

theorem State.updReceiver_updReceiver (s : State) (t : Trunk) (f g : Receiver → Receiver) :
    (s.updReceiver t f).updReceiver t g = s.updReceiver t fun r => g (f r) := by
  simp only [State.updReceiver, Tbl.modify_modify]

theorem State.updReceiver_eq_set {s : State} {t : Trunk} {g : Receiver → Receiver} {r : Receiver} (h : g (s.receivers.get t) = r) :
    s.updReceiver t g = { s with receivers := s.receivers.set t r } := by
  rw [← h]
  rfl

/-- A report queued on the mask if a condition holds. -/
def reportIf (b : Prop) [Decidable b] (r : Report) (s : State) : State := if b then queueMasked r s else s

theorem reportIf_receivers (b : Prop) [Decidable b] (r : Report) (s : State) : (reportIf b r s).receivers = s.receivers := by
  unfold reportIf
  split <;> simp

/-! ## Trunks that are not QUARANTINED (R136) -/

/-- A receive record after a good cell's effect on the error count. -/
def Receiver.lowered (r : Receiver) : Receiver :=
  { r with errors := r.errors - 1, state := if r.state = .degraded ∧ r.errors - 1 < Config.degradedFrom then .clean else r.state }

/-- A receive record after an errored cell's effect on the error count. -/
def Receiver.raised (r : Receiver) : Receiver :=
  { r with
    errors := r.errors + Config.errorWeight
    state := if r.state = .clean ∧ Config.degradedFrom ≤ r.errors + Config.errorWeight then .degraded else r.state }

theorem goodCell_eq (t : Trunk) (s : State) : goodCell t s =
    reportIf ((s.receivers.get t).state = .degraded ∧ (s.receivers.get t).errors - 1 < Config.degradedFrom)
      (.trunkState t .degraded .clean ((s.receivers.get t).errors - 1) s.houseTime) (s.updReceiver t Receiver.lowered) := by
  unfold goodCell reportIf
  dsimp only
  have other (h : ¬((s.receivers.get t).state = .degraded ∧ (s.receivers.get t).errors - 1 < Config.degradedFrom)) :
      s.receivers.modify t (fun r => { r with errors := r.errors - 1 }) = s.receivers.modify t Receiver.lowered := by
    rw [Tbl.modify_eq_set, Tbl.modify_eq_set, Receiver.lowered, if_neg h]
  split
  · next h =>
    have this : s.receivers.modify t (fun r => { r with errors := r.errors - 1, state := .clean }) =
        s.receivers.modify t Receiver.lowered := by
      rw [Tbl.modify_eq_set, Tbl.modify_eq_set, Receiver.lowered, if_pos h]
    rw [State.updReceiver_updReceiver, trunkChanged]
    simp only [State.updReceiver, Tbl.get_modify_self, this]
    simp [Receiver.lowered, h]
  · next h => simp only [State.updReceiver, other h]

theorem erroredCell_eq (t : Trunk) (s : State) : erroredCell t s =
    if Config.maxErrors < (s.receivers.get t).errors + Config.errorWeight then enterQuarantine t s
    else reportIf ((s.receivers.get t).state = .clean ∧ Config.degradedFrom ≤ (s.receivers.get t).errors + Config.errorWeight)
      (.trunkState t .clean .degraded ((s.receivers.get t).errors + Config.errorWeight) s.houseTime)
      (s.updReceiver t Receiver.raised) := by
  unfold erroredCell reportIf
  dsimp only
  split
  · rfl
  · split
    · next h =>
      have this : s.receivers.modify t (fun r => { r with errors := r.errors + Config.errorWeight, state := .degraded }) =
          s.receivers.modify t Receiver.raised := by
        rw [Tbl.modify_eq_set, Tbl.modify_eq_set, Receiver.raised, if_pos h]
      rw [State.updReceiver_updReceiver, trunkChanged]
      simp only [State.updReceiver, Tbl.get_modify_self, this]
      simp [Receiver.raised, h]
    · next h =>
      have this : s.receivers.modify t (fun r => { r with errors := r.errors + Config.errorWeight }) =
          s.receivers.modify t Receiver.raised := by
        rw [Tbl.modify_eq_set, Tbl.modify_eq_set, Receiver.raised, if_neg h]
      simp only [State.updReceiver, this]

/-! ## QUARANTINED trunks (R140–R143) -/

/-- A receive record after recovery (R142). -/
def Receiver.recovered (r : Receiver) : Receiver :=
  { r with state := .clean, errors := 0, runLength := 0, runCount := 0, release := false, inForce := none }

theorem Receiver.run_long {r : Receiver} (h : r.runLength + 1 ≠ Config.runCells) : r.run = { r with runLength := r.runLength + 1 } := by
  rw [Receiver.run, if_neg h]

theorem Receiver.run_complete {r : Receiver} (h : r.runLength + 1 = Config.runCells) :
    r.run = { r with runLength := 0, runCount := min Config.recoveryRuns (r.runCount + 1) } := by
  rw [Receiver.run, if_pos h]

theorem quarantinedGood_eq (t : Trunk) (s : State) : quarantinedGood t s =
    if (s.receivers.get t).runLength + 1 = Config.runCells ∧ (s.receivers.get t).run.recovers = true then
      queueMasked (.trunkState t .quarantined .clean 0 s.houseTime) (s.updReceiver t Receiver.recovered)
    else s.updReceiver t Receiver.run := by
  unfold quarantinedGood
  dsimp only
  rw [State.updReceiver_receivers, Tbl.get_modify_self]
  by_cases h : (s.receivers.get t).runLength + 1 = Config.runCells ∧ (s.receivers.get t).run.recovers = true
  · rw [if_pos (by simpa using h), if_pos h, recover, State.updReceiver_updReceiver]
    have this : s.receivers.modify t (fun r => r.run.recovered) = s.receivers.modify t Receiver.recovered := by
      rw [Tbl.modify_eq_set, Tbl.modify_eq_set, Receiver.run_complete h.1]
      rfl
    simp only [trunkChanged, State.updReceiver, Tbl.get_modify_self]
    change queueMasked _ { s with receivers := s.receivers.modify t (fun r => r.run.recovered) } = _
    rw [this]
  · rw [if_neg (by simpa using h), if_neg h]

/-! ## Arrivals -/

section
variable {t : Trunk} {c : Cell} {pick : PoolNo} {s : State}

theorem exec_trunkCellArrival_good (line : s.resetLine = false) (good : c.good = true) :
    exec (.trunkCellArrival t c pick) s = .next (goodArrival t c pick s) := by
  change execTrunkCellArrival t c pick s = _
  simp [execTrunkCellArrival, line, good]

theorem exec_trunkCellArrival_errored (line : s.resetLine = false) (good : c.good = false) :
    exec (.trunkCellArrival t c pick) s = .next (erroredArrival t s) := by
  change execTrunkCellArrival t c pick s = _
  simp [execTrunkCellArrival, line, good]

theorem exec_lostDelineation (line : s.resetLine = false) : exec (.lostDelineation t) s = .next (erroredArrival t s) := by
  change execLostDelineation t s = _
  simp [execLostDelineation, line]

theorem erroredArrival_quarantined (h : (s.receivers.get t).state = .quarantined) :
    erroredArrival t s = s.updReceiver t fun r => { r with errored := bump r.errored, runLength := 0 } := by
  unfold erroredArrival
  dsimp only
  rw [State.updReceiver_receivers, Tbl.get_modify_self, if_pos h, State.updReceiver_updReceiver]

theorem erroredArrival_other (h : (s.receivers.get t).state ≠ .quarantined) :
    erroredArrival t s = erroredCell t (s.updReceiver t fun r => { r with errored := bump r.errored }) := by
  unfold erroredArrival
  dsimp only
  rw [State.updReceiver_receivers, Tbl.get_modify_self, if_neg h]

theorem goodArrival_quarantined (h : (s.receivers.get t).state = .quarantined) :
    goodArrival t c pick s = quarantinedGood t (s.updReceiver t fun r => { r with good := bump r.good }) := by
  unfold goodArrival
  dsimp only
  rw [State.updReceiver_receivers, Tbl.get_modify_self, if_pos h]

/-- A good cell's effect on the receive record of a trunk that is not QUARANTINED (R135, R136). -/
def goodCounted (t : Trunk) (s : State) : State := goodCell t (s.updReceiver t fun r => { r with good := bump r.good })

theorem goodCounted_eq (t : Trunk) (s : State) : goodCounted t s =
    reportIf ((s.receivers.get t).state = .degraded ∧ (s.receivers.get t).errors - 1 < Config.degradedFrom)
      (.trunkState t .degraded .clean ((s.receivers.get t).errors - 1) s.houseTime)
      (s.updReceiver t fun r => { r with good := bump r.good }.lowered) := by
  rw [goodCounted, goodCell_eq, State.updReceiver_updReceiver]
  simp only [State.updReceiver_receivers, Tbl.get_modify_self]
  rfl

theorem goodArrival_other (h : (s.receivers.get t).state ≠ .quarantined) : goodArrival t c pick s =
    if c.kind = Cell.essenceKind then essenceArrival t c pick (goodCounted t s)
    else if c.kind = Cell.commandKind then commandArrival t c (goodCounted t s)
    else goodCounted t s := by
  unfold goodArrival
  dsimp only
  rw [State.updReceiver_receivers, Tbl.get_modify_self, if_neg h]
  rfl

end

/-- Settles O20. -/
theorem clockAndResetLine : Obligations.ClockAndResetLine := by
  unfold Obligations.ClockAndResetLine
  refine ⟨fun a b => ?_, fun s => ⟨fun x => ?_, fun line => ?_, rfl, rfl, fun line => ⟨?_, fun t c pick => ⟨?_, ?_⟩, fun p => ?_, fun t => ?_⟩⟩⟩
  · rw [isBefore_iff, BitVec.toInt_eq_toNat_cond]
    split <;> omega
  · rw [isDue_iff, BitVec.toInt_eq_toNat_cond]
    have zero : x = s.houseTime ↔ (x - s.houseTime).toNat = 0 := by bv_omega
    rw [zero]
    split <;> omega
  all_goals
    simp [exec, execHouseTick, execTrunkCellArrival, execLostDelineation, execDropTransmitOpportunity,
      execReturnTransmitOpportunity, sendIdle, line]

/-- Settles O21: below the quarantine sum an errored arrival raises the record. -/
theorem erroredCellCounted : Obligations.ErroredCellCounted := by
  unfold Obligations.ErroredCellCounted
  intro t c pick s line good state room
  dsimp only
  rw [exec_lostDelineation line, exec_trunkCellArrival_errored line good, erroredArrival_other state, erroredCell_eq,
    State.updReceiver_updReceiver]
  simp only [State.updReceiver_receivers, Tbl.get_modify_self]
  rw [if_neg (show ¬Config.maxErrors < (s.receivers.get t).errors + Config.errorWeight from not_lt.mpr room)]
  exact ⟨rfl, rfl⟩

/-- Settles O24: a QUARANTINED trunk's record alone, and the report of its recovery. -/
theorem quarantinedCellsRecover : Obligations.QuarantinedCellsRecover := by
  unfold Obligations.QuarantinedCellsRecover
  intro t c pick s line state
  dsimp only
  rw [exec_lostDelineation line, erroredArrival_quarantined state]
  refine ⟨rfl, fun good => ?_, fun good => ?_⟩
  · rw [exec_trunkCellArrival_errored line good, erroredArrival_quarantined state]
    rfl
  · rw [exec_trunkCellArrival_good line good, goodArrival_quarantined state, quarantinedGood_eq]
    simp only [State.updReceiver_receivers, Tbl.get_modify_self, State.updReceiver_updReceiver]
    set r := { s.receivers.get t with good := bump (s.receivers.get t).good }
    by_cases long : (s.receivers.get t).runLength + 1 ≠ Config.runCells
    · rw [if_neg fun h => long h.1, if_pos (c := (s.receivers.get t).runLength + 1 ≠ 16) long]
      exact congrArg _ (State.updReceiver_eq_set (Receiver.run_long (r := r) long))
    · have complete : r.run = { r with runLength := 0, runCount := min 128 (r.runCount + 1) } := Receiver.run_complete (not_not.mp long)
      rw [if_neg (c := (s.receivers.get t).runLength + 1 ≠ 16) long]
      have meets : r.run.recovers = true ↔ min 128 ((s.receivers.get t).runCount + 1) = 128 ∧
          ((s.receivers.get t).inForce = some .auto ∨ (s.receivers.get t).release = true) := by
        rw [complete]
        simp [Receiver.recovers, Config.recoveryRuns, r]
      by_cases recovers : r.run.recovers = true
      · rw [if_pos ⟨not_not.mp long, recovers⟩, if_pos (meets.mp recovers)]
        rfl
      · rw [if_neg fun h => recovers h.2, if_neg fun h => recovers (meets.mpr h)]
        exact congrArg _ (State.updReceiver_eq_set complete)

/-- Settles O23: the record lowered, and the cell passed on by its kind. -/
theorem goodCellPassedOn : Obligations.GoodCellPassedOn := by
  unfold Obligations.GoodCellPassedOn
  intro t c pick s line good state r cleans r' s₁ s₂
  have counted : goodCounted t s = s₂ := goodCounted_eq t s
  have contexts : s₂.contexts = s.contexts := by rw [← counted]; simp [goodCounted]
  have sources : s₂.sources = s.sources := by rw [← counted]; simp [goodCounted]
  have receivers : s₂.receivers = s.receivers.set t r' := by
    rw [← counted, goodCounted_eq, reportIf_receivers]
    rfl
  rw [exec_trunkCellArrival_good line good, goodArrival_other state, counted]
  refine ⟨fun kind => ?_, fun kind => ?_, fun kind undefined => ?_⟩
  · rw [if_neg (by rw [kind]; decide), if_neg (by rw [kind]; decide)]
  · rw [if_neg (by rw [kind]; decide), if_pos (c := c.kind = Cell.commandKind) kind, commandArrival, State.updContext, contexts]
    rfl
  · rw [if_pos (c := c.kind = Cell.essenceKind) kind, essenceArrival]
    rw [if_pos (by rw [sources, undefined]), State.updReceiver, receivers, Tbl.modify_eq_set, Tbl.get_set_self, Tbl.set_set]

/-! ## The laws of protections and receive records -/

theorem receiverFits_clean {r : Receiver} (h : r.state = .clean) : receiverFits r = true ↔
    r.errors < Config.degradedFrom ∧ r.runLength = 0 ∧ r.runCount = 0 ∧ r.inForce = none ∧ r.release = false := by
  simp [receiverFits, h, and_assoc]

theorem receiverFits_degraded {r : Receiver} (h : r.state = .degraded) : receiverFits r = true ↔
    (Config.degradedFrom ≤ r.errors ∧ r.errors ≤ Config.maxErrors) ∧ r.runLength = 0 ∧ r.runCount = 0 ∧ r.inForce = none ∧
      r.release = false := by
  simp [receiverFits, h, and_assoc]

theorem receiverFits_quarantine {r : Receiver} (h : r.state = .quarantined) : receiverFits r = true ↔
    r.errors = Config.maxErrors ∧ r.runLength < Config.runCells ∧ r.runCount ≤ Config.recoveryRuns ∧ r.inForce.isSome = true := by
  simp [receiverFits, h, and_assoc]

theorem receiverFits_lowered {r : Receiver} (h : receiverFits r = true) (state : r.state ≠ .quarantined) :
    receiverFits r.lowered = true := by
  cases hs : r.state with
  | clean =>
    obtain ⟨errors, rest⟩ := (receiverFits_clean hs).mp h
    have lowered : r.lowered.state = .clean := by simp [Receiver.lowered, hs]
    exact (receiverFits_clean lowered).mpr ⟨(Nat.sub_le _ _).trans_lt errors, rest⟩
  | degraded =>
    obtain ⟨⟨-, below⟩, rest⟩ := (receiverFits_degraded hs).mp h
    by_cases hc : r.errors - 1 < Config.degradedFrom
    · have lowered : r.lowered.state = .clean := by simp [Receiver.lowered, hs, hc]
      exact (receiverFits_clean lowered).mpr ⟨hc, rest⟩
    · have lowered : r.lowered.state = .degraded := by simp [Receiver.lowered, hs, hc]
      exact (receiverFits_degraded lowered).mpr ⟨⟨not_lt.mp hc, (Nat.sub_le _ _).trans below⟩, rest⟩
  | quarantined => exact absurd hs state

theorem receiverFits_raised {r : Receiver} (h : receiverFits r = true) (state : r.state ≠ .quarantined)
    (room : r.errors + Config.errorWeight ≤ Config.maxErrors) : receiverFits r.raised = true := by
  cases hs : r.state with
  | clean =>
    obtain ⟨-, rest⟩ := (receiverFits_clean hs).mp h
    by_cases hc : Config.degradedFrom ≤ r.errors + Config.errorWeight
    · have raised : r.raised.state = .degraded := by simp [Receiver.raised, hs, hc]
      exact (receiverFits_degraded raised).mpr ⟨⟨hc, room⟩, rest⟩
    · have raised : r.raised.state = .clean := by
        unfold Receiver.raised
        rw [if_neg fun both => hc both.2]
        exact hs
      exact (receiverFits_clean raised).mpr ⟨not_le.mp hc, rest⟩
  | degraded =>
    obtain ⟨⟨above, -⟩, rest⟩ := (receiverFits_degraded hs).mp h
    have raised : r.raised.state = .degraded := by simp [Receiver.raised, hs]
    exact (receiverFits_degraded raised).mpr ⟨⟨above.trans (Nat.le_add_right _ _), room⟩, rest⟩
  | quarantined => exact absurd hs state

theorem runCells_pos : 0 < Config.runCells := by decide

theorem receiverFits_run {r : Receiver} (h : receiverFits r = true) (state : r.state = .quarantined) : receiverFits r.run = true := by
  obtain ⟨errors, length, count, inForce⟩ := (receiverFits_quarantine state).mp h
  by_cases complete : r.runLength + 1 = Config.runCells
  · rw [Receiver.run_complete complete]
    exact (receiverFits_quarantine (by exact state)).mpr ⟨errors, runCells_pos, Nat.min_le_left _ _, inForce⟩
  · rw [Receiver.run_long complete]
    exact (receiverFits_quarantine (by exact state)).mpr ⟨errors, Nat.lt_of_le_of_ne length complete, count, inForce⟩

theorem receiverFits_recovered (r : Receiver) : receiverFits r.recovered = true := rfl

theorem ReceiverLaw.modify {s s' : State} (h : ReceiverLaw s) {t : Trunk} {g : Receiver → Receiver}
    (receivers : s'.receivers = s.receivers.modify t g) (fits : receiverFits (g (s.receivers.get t)) = true) : ReceiverLaw s' := fun u => by
  rw [receivers, Tbl.get_modify]
  split
  · next e => exact e ▸ fits
  · exact h u

theorem ReceiverLaw.of_same {s s' : State} (h : ReceiverLaw s) (receivers : s'.receivers = s.receivers) : ReceiverLaw s' :=
  fun u => by rw [receivers]; exact h u

theorem ReceiverLaw.goodArrival {s : State} (h : ReceiverLaw s) (t : Trunk) (c : Cell) (pick : PoolNo) :
    ReceiverLaw (goodArrival t c pick s) := by
  by_cases state : (s.receivers.get t).state = .quarantined
  · rw [goodArrival_quarantined state, quarantinedGood_eq]
    split
    · exact h.modify (t := t) (g := fun r => { r with good := bump r.good }.recovered) (by simp [Tbl.modify_modify]) (receiverFits_recovered _)
    · exact h.modify (t := t) (g := fun r => { r with good := bump r.good }.run) (by simp [Tbl.modify_modify])
        (receiverFits_run (r := { s.receivers.get t with good := bump (s.receivers.get t).good }) (h t) state)
  · have counted : ReceiverLaw (goodCounted t s) := by
      refine h.modify (t := t) (g := fun r => { r with good := bump r.good }.lowered) ?_
        (receiverFits_lowered (r := { s.receivers.get t with good := bump (s.receivers.get t).good }) (h t) state)
      rw [goodCounted_eq, reportIf_receivers]
      rfl
    rw [goodArrival_other state]
    (repeat' split)
    · unfold essenceArrival
      dsimp only
      split
      · exact counted.modify (t := t) (g := fun x => { x with undefStream := bump x.undefStream }) rfl (counted t)
      · exact counted.of_same (by simp)
    · exact counted.of_same rfl
    · exact counted

theorem ReceiverLaw.erroredArrival {s : State} (h : ReceiverLaw s) (t : Trunk) : ReceiverLaw (erroredArrival t s) := by
  by_cases state : (s.receivers.get t).state = .quarantined
  · rw [erroredArrival_quarantined state]
    obtain ⟨errors, -, count, inForce⟩ := (receiverFits_quarantine state).mp (h t)
    exact h.modify (t := t) (g := fun r => { r with errored := bump r.errored, runLength := 0 }) rfl
      ((receiverFits_quarantine (by exact state)).mpr ⟨errors, runCells_pos, count, inForce⟩)
  · rw [erroredArrival_other state, erroredCell_eq]
    simp only [State.updReceiver_receivers, Tbl.get_modify_self]
    split
    · rw [enterQuarantine_eq]
      exact h.modify (t := t) (g := fun r => { r with
          errored := bump r.errored, state := .quarantined, errors := Config.maxErrors, runLength := 0, runCount := 0,
          release := false, inForce := some r.policy })
        (by simp [quarantineStages, Tbl.modify_modify]) rfl
    · next room =>
      refine h.modify (t := t) (g := fun r => { r with errored := bump r.errored }.raised) ?_
        (receiverFits_raised (r := { s.receivers.get t with errored := bump (s.receivers.get t).errored }) (h t) state (not_lt.mp room))
      rw [reportIf_receivers, State.updReceiver_updReceiver]
      rfl

/-- The law of protections and owners, and that of the receive records. -/
structure OwnersAndReceivers (s : State) : Prop where
  owners : ProtectionLaw s
  receivers : ReceiverLaw s

theorem ProtectionLaw.of_dests {s s' : State} (h : ProtectionLaw s)
    (dests : ∀ d, (s'.dests.get d).protection = (s.dests.get d).protection ∧ (s'.dests.get d).owner = (s.dests.get d).owner) :
    ProtectionLaw s' := fun d => by
  have fits := h d
  unfold ownerFits at fits ⊢
  rw [(dests d).1, (dests d).2]
  exact fits

theorem OwnersAndReceivers.of_same {s s' : State} (h : OwnersAndReceivers s) (dests : s'.dests = s.dests)
    (receivers : s'.receivers = s.receivers) : OwnersAndReceivers s' :=
  ⟨h.owners.of_dests fun d => by rw [dests]; exact ⟨rfl, rfl⟩, h.receivers.of_same receivers⟩

/-- One destination record changed in neither protection nor owner. -/
theorem OwnersAndReceivers.of_modify {s s' : State} (h : OwnersAndReceivers s) {d : DestNo} {g : Dest → Dest}
    (dests : s'.dests = s.dests.modify d g) (receivers : s'.receivers = s.receivers)
    (same : ∀ x, (g x).protection = x.protection ∧ (g x).owner = x.owner) : OwnersAndReceivers s' :=
  ⟨h.owners.of_dests fun e => by
    rw [dests, Tbl.get_modify]
    split
    · exact same _
    · exact ⟨rfl, rfl⟩, h.receivers.of_same receivers⟩

theorem OwnersAndReceivers.defineDest {s : State} (h : OwnersAndReceivers s) (d : DestNo) (format : Option FormatNo) (c : DestClass)
    (offset : Int) : OwnersAndReceivers (defineDest d format c offset s).state := by
  have stored : OwnersAndReceivers (storeClass d c s) := h.of_modify (storeClass_dests d c s) (by simp) fun _ => ⟨rfl, rfl⟩
  rw [defineDest_state]
  cases format with
  | none =>
    dsimp only
    split
    · exact stored.of_modify (d := d) (g := fun x => { x with format := none, recording := false, offset := 0 }) rfl rfl
        fun _ => ⟨rfl, rfl⟩
    · exact stored
  | some f => exact stored.of_modify (formatDest_dests ..) (by simp) fun _ => ⟨rfl, rfl⟩

theorem OwnersAndReceivers.effect {s s' : State} (h : OwnersAndReceivers s) (e : Effect s s') : OwnersAndReceivers s' := by
  cases e with
  | sweep t tag checked =>
    exact h.of_same (by simp; exact foldl_keeps _ State.dests (fun s a => by simp) _ s)
      (by simp; exact foldl_keeps _ State.receivers (fun s a => by simp) _ s)
  | fire t tag loaded checked =>
    exact h.of_same (by simp; exact foldl_keeps _ State.dests (fun s a => by simp) _ _)
      (by simp; exact foldl_keeps _ State.receivers (fun s a => by simp) _ _)
  | @protection d p owner fits =>
    refine ⟨fun e => ?_, h.receivers.of_same (by simp)⟩
    rw [storeProtection_dests, Tbl.get_modify]
    split
    · next hd => exact hd ▸ fits (h.owners d)
    · exact h.owners e
  | @recordOn d =>
    rw [recordOn_state]
    exact h.of_modify (d := d) (g := fun x => { x with recording := true }) (by simp [storeRecording]) (by simp) fun _ => ⟨rfl, rfl⟩
  | recordOff d =>
    rw [recordOff_state]
    exact h.of_modify (d := d) (g := fun x => { x with recording := false }) (by simp [storeRecording]) (by simp) fun _ => ⟨rfl, rfl⟩
  | destDefine c offset held defined idle => exact h.defineDest _ _ c offset
  | @redefine f c =>
    refine ⟨h.owners.of_dests fun d => ?_, h.receivers.of_same (by simp)⟩
    rw [redefineFormat_dests, Tbl.get_map]
    split <;> exact ⟨rfl, rfl⟩
  | @release u quarantined =>
    refine ⟨h.owners, h.receivers.modify (t := u) (g := fun r => { r with release := true }) rfl
      ((receiverFits_quarantine (by exact quarantined)).mpr ?_)⟩
    exact (receiverFits_quarantine quarantined).mp (h.receivers u)
  | policy u p => exact ⟨h.owners, h.receivers.modify (t := u) (g := fun r => { r with policy := p }) rfl (h.receivers u)⟩
  | warmReset =>
    refine ⟨h.owners.of_dests (by simp), fun t => ?_⟩
    have warm : (Machine.warmReset s).receivers.get t = (s.receivers.get t).warm := by
      simp [Machine.warmReset, warmBlocks, Machine.clearCounters, Receiver.warm, Receiver.reset]
    rw [warm]
    rfl
  | clearCounters =>
    refine ⟨h.owners, fun t => ?_⟩
    simp only [Machine.clearCounters, Tbl.get_map]
    exact h.receivers t
  | goodArrival t c pick => exact ⟨h.owners.of_dests (by simp), h.receivers.goodArrival t c pick⟩
  | erroredArrival t => exact ⟨h.owners.of_dests (by simp), h.receivers.erroredArrival t⟩
  | resetLine b =>
    refine ⟨fun d => ?_, fun t => ?_⟩
    · simp [State.reset, Dest.reset, ownerFits]
    · simp [State.reset, Receiver.reset, receiverFits, Config.degradedFrom]
  | @switch d k x =>
    exact h.of_modify (d := d) (g := fun x => { x with current := k.source.resolved })
      (by simp [setCurrent_dests]) (by simp) fun _ => ⟨rfl, rfl⟩
  | _ => exact h.of_same (by simp) (by simp)

/-- Settles O6: the protection tables keep owners fit, and every arrival leaves a record that fits its state. -/
theorem protectionAndReceiversKept : Obligations.ProtectionAndReceiversKept := by
  unfold Obligations.ProtectionAndReceiversKept
  intro s s' owners receivers hs
  have kept : OwnersAndReceivers s' := step_keeps (P := OwnersAndReceivers) (fun s l h => h.of_same rfl rfl)
    (fun s t h => h.of_same (by simp) (by simp)) (fun s t r h => h.of_same (by simp) (by simp))
    (fun s s' h e => h.effect e) ⟨owners, receivers⟩ hs
  exact ⟨kept.owners, kept.receivers⟩

end Machine
end Sys2Proof
end

section
/-! SUPPORT. The source records under every effect of a step, the totality of every command, and the power-on state. -/

namespace Sys2Proof.Machine

/-! ## Source records (2.1, R28–R31) -/

/-- The captures go with the frame watch, and an UNDEFINED source alone carries no format. -/
def capturesFit (r : Source) : Prop :=
  r.lastCapture.isSome = r.frameWatch.isSome ∧ r.format.isSome = (r.state != .undefined)

theorem capturesFit.carries {r : Source} (h : capturesFit r) (defined : r.state ≠ .undefined) : r.format.isSome = true := by
  rw [h.2]
  simpa using defined

theorem sourceFits_idle {r : Source} (h : r.state = .undefined ∨ r.state = .absent) : sourceFits r = true ↔
    capturesFit r ∧ r.lastCapture = none ∧ r.lastSeq = none ∧ r.inWindow = 0 ∧ r.outWindow = 0 := by
  unfold sourceFits capturesFit
  rcases h with h | h <;> simp [h, and_assoc]

theorem sourceFits_lost {r : Source} (h : r.state = .lost) : sourceFits r = true ↔
    capturesFit r ∧ r.lastCapture = none ∧ r.inWindow = 0 ∧ r.outWindow = 0 := by
  simp [sourceFits, capturesFit, h, and_assoc]

theorem sourceFits_acquiring {r : Source} (h : r.state = .acquiring) : sourceFits r = true ↔
    capturesFit r ∧ r.inWindow ≤ 2 ∧ r.outWindow = 0 := by
  simp [sourceFits, capturesFit, h, and_assoc]

theorem sourceFits_locked {r : Source} (h : r.state = .locked) : sourceFits r = true ↔
    capturesFit r ∧ r.lastCapture.isSome = true ∧ r.inWindow = 3 ∧ r.outWindow ≤ 1 := by
  simp [sourceFits, capturesFit, h, and_assoc]

theorem sourceFits_captures {r : Source} (h : sourceFits r = true) : capturesFit r := by
  cases hs : r.state with
  | undefined => exact ((sourceFits_idle (.inl hs)).mp h).1
  | absent => exact ((sourceFits_idle (.inr hs)).mp h).1
  | acquiring => exact ((sourceFits_acquiring hs).mp h).1
  | locked => exact ((sourceFits_locked hs).mp h).1
  | lost => exact ((sourceFits_lost hs).mp h).1

/-- A source that carries a format enters LOST with everything cleared. -/
theorem sourceFits_gone {r : Source} (h : capturesFit r) (defined : r.state ≠ .undefined) : sourceFits r.gone = true :=
  (sourceFits_lost rfl).mpr ⟨⟨rfl, h.carries defined⟩, rfl, rfl, rfl⟩

/-- The sequence number stored and a break counted enter no fit of a source that cells can have reached. -/
theorem sourceFits_entered {r : Source} (h : sourceFits r = true) (defined : r.state ≠ .undefined) (seq : BitVec 16) (frameStart : Bool) :
    sourceFits ((r.sequenced seq).entered frameStart) = true := by
  have format : r.format.isSome = true := (sourceFits_captures h).carries defined
  unfold Source.entered
  split
  · exact (sourceFits_acquiring rfl).mpr ⟨⟨rfl, format⟩, Nat.zero_le _, rfl⟩
  · next idle =>
    cases hs : r.state with
    | undefined => exact absurd hs defined
    | absent => exact absurd (.inl hs) idle
    | acquiring => exact (sourceFits_acquiring (by exact hs)).mpr ((sourceFits_acquiring hs).mp h)
    | locked => exact (sourceFits_locked (by exact hs)).mpr ((sourceFits_locked hs).mp h)
    | lost => exact (sourceFits_lost (by exact hs)).mpr ((sourceFits_lost hs).mp h)

/-- What counting an interval leaves of an ACQUIRING or LOCKED record (R29, R30). -/
theorem Source.counted_ranges {r : Source} (h : sourceFits r = true) (captures : r.captures = true) (b : Bool) :
    ((r.counted b).state = .acquiring ∧ (r.counted b).inWindow ≤ 2 ∧ (r.counted b).outWindow = 0) ∨
      ((r.counted b).state = .locked ∧ (r.counted b).inWindow = 3 ∧ (r.counted b).outWindow ≤ 1) := by
  simp only [Source.captures, Bool.or_eq_true, beq_iff_eq] at captures
  rcases captures with hs | hs
  · obtain ⟨-, inside, outside⟩ := (sourceFits_acquiring hs).mp h
    simp only [Source.counted, hs]
    split
    · split
      · exact .inr ⟨rfl, rfl, Nat.zero_le _⟩
      · exact .inl ⟨rfl, by simp only; omega, outside⟩
    · exact .inl ⟨rfl, Nat.zero_le _, outside⟩
  · obtain ⟨-, -, inside, outside⟩ := (sourceFits_locked hs).mp h
    simp only [Source.counted, hs]
    split
    · exact .inr ⟨rfl, inside, Nat.zero_le _⟩
    · split
      · exact .inl ⟨rfl, Nat.zero_le _, rfl⟩
      · exact .inr ⟨rfl, inside, by simp only; omega⟩

theorem sourceFits_capturedAt {r : Source} (h : sourceFits r = true) (captures : r.captures = true) (f : Format) (now : Time) :
    sourceFits (r.capturedAt f now) = true := by
  have format : (r.capturedAt f now).format.isSome = true := by
    rw [(Source.capturedAt_use r f now).1]
    refine (sourceFits_captures h).carries fun hs => ?_
    simp [Source.captures, hs] at captures
  have ranges : ((r.captured f now).state = .acquiring ∧ (r.captured f now).inWindow ≤ 2 ∧ (r.captured f now).outWindow = 0) ∨
      ((r.captured f now).state = .locked ∧ (r.captured f now).inWindow = 3 ∧ (r.captured f now).outWindow ≤ 1) := by
    unfold Source.captured
    dsimp only
    split
    · exact Source.counted_ranges (r := { r with phase := saturate32 (deviation f now) }) h captures _
    · next hc =>
      simp only [Source.captures, Bool.or_eq_true, beq_iff_eq] at captures
      rcases captures with hs | hs
      · exact .inl ⟨hs, ((sourceFits_acquiring hs).mp h).2⟩
      · have := ((sourceFits_locked hs).mp h).2.1
        simp [hc] at this
  rcases ranges with ⟨hs, inside, outside⟩ | ⟨hs, inside, outside⟩
  · have state : (r.capturedAt f now).state = .acquiring := hs
    exact (sourceFits_acquiring state).mpr ⟨⟨rfl, by rw [format, state]; rfl⟩, inside, outside⟩
  · have state : (r.capturedAt f now).state = .locked := hs
    exact (sourceFits_locked state).mpr ⟨⟨rfl, by rw [format, state]; rfl⟩, rfl, inside, outside⟩

theorem sourceFits_tracked {r : Source} (h : sourceFits r = true) (defined : r.state ≠ .undefined) (f : Format) (now : Time) (c : Cell) :
    sourceFits (Source.tracked f now c r) = true := by
  have entered := sourceFits_entered h defined c.seq c.frameStart
  unfold Source.tracked
  dsimp only
  split
  · next hc => exact sourceFits_capturedAt entered (Bool.and_eq_true_iff.mp hc).2 f now
  · exact entered

theorem sourceFits_quarantined {r : Source} (h : sourceFits r = true) : sourceFits r.quarantined = true := by
  unfold Source.quarantined
  split
  · next captures =>
    refine sourceFits_gone (sourceFits_captures h) ?_
    intro hs
    simp [Source.captures, hs] at captures
  · exact h

theorem sourceFits_redefined (r : Source) (f : Option FormatNo) : sourceFits (r.redefined f) = true := by
  cases f <;> rfl

theorem sourceFits_warm {r : Source} (h : sourceFits r = true) : sourceFits r.warm = true := by
  have format := (sourceFits_captures h).2
  have warm : r.warm.format.isSome = (r.warm.state != .undefined) := by
    cases hs : r.state <;> rw [hs] at format <;> simp only [Source.warm, hs, format] <;> rfl
  cases hs : r.state with
  | undefined => exact (sourceFits_idle (.inl (by simp [Source.warm, hs]))).mpr ⟨⟨rfl, warm⟩, rfl, rfl, rfl, rfl⟩
  | absent => exact (sourceFits_idle (.inr (by simp [Source.warm, hs]))).mpr ⟨⟨rfl, warm⟩, rfl, rfl, rfl, rfl⟩
  | acquiring | locked | lost =>
    exact (sourceFits_acquiring (by simp [Source.warm, hs])).mpr ⟨⟨rfl, warm⟩, Nat.zero_le _, rfl⟩

/-- Label, tally, gap counter, phase and usage enter no fit, and neither do the values of the times. -/
theorem sourceFits_congr {r r' : Source} (capture : r'.lastCapture.isSome = r.lastCapture.isSome)
    (watch : r'.frameWatch.isSome = r.frameWatch.isSome) (format : r'.format = r.format) (state : r'.state = r.state)
    (seq : r'.lastSeq = r.lastSeq) (inside : r'.inWindow = r.inWindow) (outside : r'.outWindow = r.outWindow) :
    sourceFits r' = sourceFits r := by
  have none (o : Option Time) : (o == none) = !o.isSome := by cases o <;> rfl
  unfold sourceFits
  simp only [none, capture, watch, format, state, seq, inside, outside]

theorem SourceLaw.of_same {s s' : State} (h : SourceLaw s) (sources : s'.sources = s.sources) : SourceLaw s' :=
  fun n => by rw [sources]; exact h n

theorem SourceLaw.modify {s s' : State} (h : SourceLaw s) {n : SourceNo} {g : Source → Source} (sources : s'.sources = s.sources.modify n g)
    (fits : sourceFits (g (s.sources.get n)) = true) : SourceLaw s' := fun m => by
  rw [sources, Tbl.get_modify]
  split
  · next e => exact e ▸ fits
  · exact h m

theorem SourceLaw.map {s s' : State} (h : SourceLaw s) {g : Source → Source} (sources : ∀ n, s'.sources.get n = g (s.sources.get n))
    (fits : ∀ r, sourceFits r = true → sourceFits (g r) = true) : SourceLaw s' := fun n => by
  rw [sources]
  exact fits _ (h n)

theorem SourceLaw.goodArrival {s : State} (h : SourceLaw s) (t : Trunk) (c : Cell) (pick : PoolNo) : SourceLaw (goodArrival t c pick s) := by
  have counted : (goodCounted t s).sources = s.sources := by simp [goodCounted]
  by_cases state : (s.receivers.get t).state = .quarantined
  · rw [goodArrival_quarantined state]
    exact h.of_same (by simp)
  · rw [goodArrival_other state]
    (repeat' split)
    · unfold essenceArrival
      dsimp only
      split
      · exact h.of_same (by simpa using counted)
      · next defined =>
        rw [counted] at defined
        have tracked : SourceLaw (trackCell (sourceOf t c.stream) c (goodCounted t s)) :=
          (h.of_same counted).modify (trackCell_sources _ c _) (sourceFits_tracked (by rw [counted]; exact h _) (by rwa [counted]) _ _ c)
        exact tracked.of_same (by simp)
    · exact h.of_same (by simpa [commandArrival] using counted)
    · exact h.of_same counted

theorem SourceLaw.erroredArrival {s : State} (h : SourceLaw s) (t : Trunk) : SourceLaw (erroredArrival t s) := by
  obtain ⟨s₁, hs, e | ⟨previous, e⟩⟩ := erroredArrival_cases t s
  · rw [e, hs]
    exact h.of_same rfl
  · have sources (n : SourceNo) : (trunkChanged t previous (quarantineSources t s₁)).sources.get n =
        if n ∈ sourcesOf t then (s.sources.get n).quarantined else s.sources.get n := by
      rw [show (trunkChanged t previous (quarantineSources t s₁)).sources = (quarantineSources t s₁).sources by simp,
        quarantineSources_sources_get, hs]
    rw [e]
    intro n
    rw [sources]
    split
    · exact sourceFits_quarantined (h n)
    · exact h n

theorem SourceLaw.effect {s s' : State} (h : SourceLaw s) (e : Effect s s') : SourceLaw s' := by
  cases e with
  | sweep t tag checked => exact h.of_same (by simp; exact foldl_keeps _ State.sources (fun s a => by simp) _ s)
  | fire t tag loaded checked => exact h.of_same (by simp; exact foldl_keeps _ State.sources (fun s a => by simp) _ _)
  | recordOn =>
    rw [recordOn_state]
    exact h.of_same (by simp)
  | recordOff =>
    rw [recordOff_state]
    exact h.of_same (by simp)
  | destDefine c offset held defined idle => exact h.of_same (defineDest_sources ..)
  | @sourceDefine n f label defined idle =>
    have stored : SourceLaw (storeFormat n f s) := by
      refine h.modify (storeFormat_sources n f s) ?_
      split
      · exact h n
      · exact sourceFits_redefined _ f
    exact stored.modify (storeLabel_sources n label _) (stored n)
  | tally n bits => exact h.modify (n := n) (g := fun r => { r with tally := bits }) (by simp) (h n)
  | timeset v held =>
    exact h.map (g := fun r => { r with
        lastCapture := r.lastCapture.map (· + (v - s.houseTime)), frameWatch := r.frameWatch.map (· + (v - s.houseTime)) })
      (fun n => by simp [shiftTimes]) fun r fits =>
        (sourceFits_congr (r := r) (r' := { r with
          lastCapture := r.lastCapture.map (· + (v - s.houseTime)), frameWatch := r.frameWatch.map (· + (v - s.houseTime)) })
          Option.isSome_map Option.isSome_map rfl rfl rfl rfl rfl).trans fits
  | warmReset => exact h.map (g := fun r => { r.warm with gaps := 0 }) (warmReset_sources_get s) fun r fits => sourceFits_warm fits
  | clearCounters => exact h.map (g := fun r => { r with gaps := 0 }) (fun n => by simp [Machine.clearCounters]) fun r fits => fits
  | goodArrival t c pick => exact h.goodArrival t c pick
  | erroredArrival t => exact h.erroredArrival t
  | resetLine b => exact fun n => by simp [State.reset, Source.reset, sourceFits]
  | @switch d k x =>
    refine SourceLaw.of_same (s := setCurrent d k.source.resolved s) (fun n => ?_) (by simp)
    rw [setCurrent_sources_get]
    exact h n
  | @lost n watched =>
    refine h.modify (enterLost_sources n s) (sourceFits_gone (sourceFits_captures (h n)) fun hs => ?_)
    obtain ⟨captures, none, -⟩ := (sourceFits_idle (.inl hs)).mp (h n)
    rw [← captures.1, none] at watched
    cases watched
  | _ => exact h.of_same (by simp)

/-- Settles O7: every state of a source is entered with the captures and counts that it holds. -/
theorem sourceLawKept : Obligations.SourceLawKept := by
  unfold Obligations.SourceLawKept
  intro s s' h hs
  exact step_keeps (P := SourceLaw) (fun s l h => h.of_same rfl) (fun s t h => h.of_same (by simp))
    (fun s t r h => h.of_same (by simp)) (fun s s' h e => h.effect e) h hs

/-! ## Totality -/

/-- Every command answers a next state. -/
theorem exec_next (c : Instr) (s : State) : ∃ s', exec c s = .next s' := by
  cases c with
  | trunkCellArrival t c pick =>
    change ∃ s', execTrunkCellArrival t c pick s = .next s'
    unfold execTrunkCellArrival
    (repeat' split) <;> exact ⟨_, rfl⟩
  | lostDelineation t =>
    change ∃ s', execLostDelineation t s = .next s'
    unfold execLostDelineation
    split <;> exact ⟨_, rfl⟩
  | dropTransmitOpportunity p => exact ⟨_, rfl⟩
  | returnTransmitOpportunity t => exact ⟨_, rfl⟩
  | resetLineAsserted => exact ⟨_, rfl⟩
  | resetLineReleased => exact ⟨_, rfl⟩
  | houseTick => exact ⟨_, rfl⟩
  | commitEvent d =>
    change ∃ s', execCommitEvent d s = .next s'
    unfold execCommitEvent
    (repeat' split) <;> exact ⟨_, rfl⟩
  | swapCommitEvent d =>
    change ∃ s', execSwapCommitEvent d s = .next s'
    unfold execSwapCommitEvent
    (repeat' split) <;> exact ⟨_, rfl⟩
  | switchEvent d =>
    change ∃ s', execSwitchEvent d s = .next s'
    unfold execSwitchEvent
    (repeat' split) <;> exact ⟨_, rfl⟩
  | frameWatchExpiry n =>
    change ∃ s', execFrameWatchExpiry n s = .next s'
    unfold execFrameWatchExpiry
    split <;> exact ⟨_, rfl⟩
  | drainExpiry d =>
    change ∃ s', execDrainExpiry d s = .next s'
    unfold execDrainExpiry
    (repeat' split) <;> exact ⟨_, rfl⟩
  | joinExpiry d =>
    change ∃ s', execJoinExpiry d s = .next s'
    unfold execJoinExpiry
    (repeat' split) <;> exact ⟨_, rfl⟩
  | fillFramePoint d =>
    change ∃ s', execFillFramePoint d s = .next s'
    unfold execFillFramePoint
    split <;> exact ⟨_, rfl⟩
  | renormalisation f =>
    change ∃ s', execRenormalisation f s = .next s'
    unfold execRenormalisation
    split <;> exact ⟨_, rfl⟩
  | take => rw [exec_take]; exact executeHead_next ..
  | probe => rw [exec_probe]; exact executeHead_next ..
  | cancel => rw [exec_cancel]; exact executeHead_next ..
  | sweep => rw [exec_sweep]; exact executeHead_next ..
  | swap => rw [exec_swap]; exact executeHead_next ..
  | salvoLoad => rw [exec_salvoLoad]; exact executeHead_next ..
  | salvoFire => rw [exec_salvoFire]; exact executeHead_next ..
  | salvoClear => rw [exec_salvoClear]; exact executeHead_next ..
  | lock => rw [exec_lock]; exact executeHead_next ..
  | unlock => rw [exec_unlock]; exact executeHead_next ..
  | protect => rw [exec_protect]; exact executeHead_next ..
  | unprotect => rw [exec_unprotect]; exact executeHead_next ..
  | armOverride => rw [exec_armOverride]; exact executeHead_next ..
  | recordState => rw [exec_recordState]; exact executeHead_next ..
  | sourceDefine => rw [exec_sourceDefine]; exact executeHead_next ..
  | sourceTally => rw [exec_sourceTally]; exact executeHead_next ..
  | destDefine => rw [exec_destDefine]; exact executeHead_next ..
  | formatDefine => rw [exec_formatDefine]; exact executeHead_next ..
  | timeset => rw [exec_timeset]; exact executeHead_next ..
  | setMargin => rw [exec_setMargin]; exact executeHead_next ..
  | setReportMask => rw [exec_setReportMask]; exact executeHead_next ..
  | trunkRelease => rw [exec_trunkRelease]; exact executeHead_next ..
  | trunkPolicy => rw [exec_trunkPolicy]; exact executeHead_next ..
  | hold => rw [exec_hold]; exact executeHead_next ..
  | resume => rw [exec_resume]; exact executeHead_next ..
  | resetArm => rw [exec_resetArm]; exact executeHead_next ..
  | reset => rw [exec_reset]; exact executeHead_next ..
  | identify => rw [exec_identify]; exact executeHead_next ..
  | readStatus => rw [exec_readStatus]; exact executeHead_next ..
  | readDest => rw [exec_readDest]; exact executeHead_next ..
  | readSource => rw [exec_readSource]; exact executeHead_next ..
  | readFormat => rw [exec_readFormat]; exact executeHead_next ..
  | readSalvo => rw [exec_readSalvo]; exact executeHead_next ..
  | readCounters => rw [exec_readCounters]; exact executeHead_next ..
  | commandDecodeFailure => rw [exec_commandDecodeFailure]; exact executeHead_next ..

/-- No effect touches the queue of waiting commands (log 1). -/
theorem Effect.pending {s s' : State} (e : Effect s s') : s'.pending = s.pending := by
  cases e with
  | sweep t tag checked => simp; exact foldl_keeps _ State.pending (fun s a => by simp) _ s
  | fire t tag loaded checked => simp; exact foldl_keeps _ State.pending (fun s a => by simp) _ _
  | recordOn => rw [recordOn_state]; simp
  | recordOff => rw [recordOff_state]; simp
  | @destDefine d format c offset held defined idle =>
    rw [defineDest_state]
    cases format with
    | none => dsimp only; split <;> simp
    | some f => simp
  | _ => simp

/-- Settles O2: every row answers a next state, and no effect, FIFO head or reply touches the waiting commands. -/
theorem everyCommandCompletes : Obligations.EveryCommandCompletes := by
  unfold Obligations.EveryCommandCompletes
  intro c s
  obtain ⟨s', hs⟩ := exec_next c s
  refine ⟨s', hs, ?_⟩
  rcases exec_does hs with e | ⟨t, r, s₁, -, e, rfl⟩
  · exact e.pending
  · simpa using e.pending

/-- Settles O1. -/
theorem stepRunsFrontCommand : Obligations.StepRunsFrontCommand := by
  unfold Obligations.StepRunsFrontCommand
  exact ⟨fun s c rest h => by rw [step, h], fun s h => by rw [step, h]⟩

/-! ## The power-on state -/

theorem takesLaw_reset : TakesLaw State.reset :=
  takesLaw_of_empty (by simp [State.reset]) (by simp [State.reset]) (by simp [State.reset])

theorem sound_reset : Sound State.reset where
  queues := .reset _ _
  mode := modeLaw_of_empty (by simp [State.reset]) (by simp [State.reset]) (by simp [State.reset, Switching.reset])
  protection d := by simp [State.reset, Dest.reset, ownerFits]
  receivers t := by simp [State.reset, Receiver.reset, receiverFits, Config.degradedFrom]
  sources n := by simp [State.reset, Source.reset, sourceFits]
  usage := (CrossLaw.reset false []).usage
  formats := (FormatsLaw.reset [] false).formats
  offsets := (FormatsLaw.reset [] false).offsets
  switching := switchLaw_iff.mpr ⟨fun d => by simp [State.reset]; rfl, fun d _ => by simp [State.reset, Dest.reset]⟩
  takes := takesLaw_reset.takes
  crosspoint := crosspointLaw_iff.mpr ⟨(CrossLaw.reset false []).current, (CrossLaw.reset false []).takes⟩
  salvos := salvoLaw_iff.mpr ⟨takesLaw_reset.slots, takesLaw_reset.balanced⟩
  pool := .empty rfl (by simp [State.reset, DropPort.reset])

/-- Settles O3. -/
theorem powerOnState : Obligations.PowerOnState := by
  unfold Obligations.PowerOnState
  refine ⟨sound_reset, rfl, rfl, rfl, rfl, ?_⟩
  simp [State.reset, Source.reset, Dest.reset, Switching.reset, DropPort.reset, Receiver.reset, ReturnTx.reset, Format.undefined,
    SalvoSlot.empty, blankLabel, Tally.off, Tallies.zero]

end Sys2Proof.Machine
end

section
/-! SUPPORT. Reading back the operand bytes of a command (R159, R160, R185, R187): bytes and fields of a list of bytes, each kind of
operand, the header of a COMMAND cell, and with them the row of every command. -/

namespace Sys2Proof

/-! ## Bytes and fields -/

theorem byteAt_append_left {a b : List Byte} {i : Nat} (h : i < a.length) : byteAt (a ++ b) i = byteAt a i := by
  simp only [byteAt, List.getD_eq_getElem?_getD, List.getElem?_append_left h]

/-- A number spelled between two runs of bytes reads back as itself. -/
theorem fieldAt_middle {w : Nat} {a b : List Byte} {x : BitVec w} {i n : Nat} (h : a.length = i) (fits : 2 ^ w ≤ 256 ^ n) :
    fieldAt (a ++ (toBytes n x.toNat ++ b)) i n = x.toNat := by
  rw [fieldAt, List.drop_left' h, List.take_left' (toBytes_length _ _), fromBytes_toBytes_bitVec n x fits]

theorem fieldAt_last {w : Nat} {a : List Byte} {x : BitVec w} {i n : Nat} (h : a.length = i) (fits : 2 ^ w ≤ 256 ^ n) :
    fieldAt (a ++ toBytes n x.toNat) i n = x.toNat := by
  rw [← List.append_nil (toBytes n x.toNat), fieldAt_middle h fits]

/-! ## Operands (R187) -/

/-- A mode operand's byte tells its mode, and the extension bytes its target. -/
theorem modeAt_code {ops : List Byte} {i ext : Nat} {m : ModeOperand} (wf : m.wf = true) (code : byteAt ops i = m.code)
    (target : ∀ x, m = .atTime x → fieldAt ops ext 6 = x.toNat) : modeAt ops i ext = m := by
  unfold modeAt
  cases m with
  | next => rw [code]; rfl
  | frames => rw [code]; rfl
  | atTime x => rw [code, target x rfl]; simp [ModeOperand.code]
  | other c =>
    have code : byteAt ops i = c := code
    have large : 2 < c.toNat := by simpa [ModeOperand.wf] using wf
    rw [code, if_neg (by rintro rfl; simp at large), if_neg (by rintro rfl; simp at large), if_neg (by rintro rfl; simp at large)]

theorem pairsFrom_bytes (ps : List RawPair) : pairsFrom ps.length (ps.flatMap fun p => [p.dest, p.source, p.guardByte]) = ps := by
  induction ps with
  | nil => rfl
  | cons p ps ih => simpa [pairsFrom, byteAt] using ih

theorem tallyOf_byte (y : Tally) : tallyOf y.byte = y := by
  obtain ⟨a, b, c, d⟩ := y
  revert a b c d
  decide

theorem flagByte_bit (b : Bool) : (flagByte b)[0] = b := by cases b <;> decide

theorem Tbl.ofBytes_rows {n : Nat} (x : Tbl Byte n) : Tbl.ofBytes n x.rows = x := by
  obtain ⟨rows, size⟩ := x
  simp only [Tbl.ofBytes, List.take_left' size]

/-! ## The rows of the commands -/

theorem takeOperands_bytes {o : TakeOperands} (wf : o.mode.wf = true) : takeOperands o.bytes = o := by
  have mode : modeAt o.bytes 3 7 = o.mode := by
    refine modeAt_code wf (by simp [byteAt, TakeOperands.bytes]) fun x hx => ?_
    rw [TakeOperands.bytes, hx, ModeOperand.extensionBytes]
    exact fieldAt_last (by simp) (by decide)
  have frames : fieldAt o.bytes 4 2 = o.frames.toNat := by
    rw [TakeOperands.bytes, List.append_assoc, List.append_assoc]
    exact fieldAt_middle rfl (by decide)
  unfold takeOperands
  rw [mode, frames]
  simp [byteAt, TakeOperands.bytes, toBytes, flagByte_bit]

theorem sweepOperands_bytes {o : SweepOperands} (wf : o.mode.wf = true) : sweepOperands
    ([o.first, o.count, o.direction, o.source, o.mode.code] ++ toBytes 2 o.frames.toNat ++ o.mode.extensionBytes) = o := by
  unfold sweepOperands
  rw [modeAt_code wf (by simp [byteAt]) fun x hx => by
      rw [hx, ModeOperand.extensionBytes]
      exact fieldAt_last (by simp) (by decide),
    List.append_assoc, fieldAt_middle (a := [o.first, o.count, o.direction, o.source, o.mode.code]) (i := 5) rfl (by decide)]
  simp [byteAt]

theorem swapOperands_bytes {o : SwapOperands} (wf : o.mode.wf = true) : swapOperands
    ([o.destA, o.destB, o.mode.code] ++ toBytes 2 o.frames.toNat ++ o.mode.extensionBytes) = o := by
  unfold swapOperands
  rw [modeAt_code wf (by simp [byteAt]) fun x hx => by
      rw [hx, ModeOperand.extensionBytes]
      exact fieldAt_last (by simp) (by decide),
    List.append_assoc, fieldAt_middle (a := [o.destA, o.destB, o.mode.code]) (i := 3) rfl (by decide)]
  simp [byteAt]

theorem fireOperands_bytes {o : FireOperands} (wf : o.mode.wf = true) : fireOperands
    ([o.slot, o.fireMode, o.mode.code] ++ toBytes 2 o.frames.toNat ++ o.mode.extensionBytes) = o := by
  unfold fireOperands
  rw [modeAt_code wf (by simp [byteAt]) fun x hx => by
      rw [hx, ModeOperand.extensionBytes]
      exact fieldAt_last (by simp) (by decide),
    List.append_assoc, fieldAt_middle (a := [o.slot, o.fireMode, o.mode.code]) (i := 3) rfl (by decide)]
  simp [byteAt]

theorem loadOperands_bytes {o : LoadOperands} (wf : o.wf = true) : loadOperands
    ([o.slot, o.start, o.count] ++ o.pairs.flatMap fun p => [p.dest, p.source, p.guardByte]) = o := by
  have called : pairsCalledFor o.count = o.pairs.length := by
    simp only [LoadOperands.wf, beq_iff_eq] at wf
    rw [wf, pairsCalledFor]
  unfold loadOperands
  simp [byteAt, called, pairsFrom_bytes]

theorem formatForm_bytes (f : Byte) (pi : BitVec 24) (pn pd wl : BitVec 16) (cadence : Byte) : formatForm
    ([f, 1] ++ toBytes 3 pi.toNat ++ toBytes 2 pn.toNat ++ toBytes 2 pd.toNat ++ toBytes 2 wl.toNat ++ [cadence]) =
      .define pi pn pd wl cadence := by
  set ops := [f, 1] ++ toBytes 3 pi.toNat ++ toBytes 2 pn.toNat ++ toBytes 2 pd.toNat ++ toBytes 2 wl.toNat ++ [cadence] with e
  have hpi : fieldAt ops 2 3 = pi.toNat := by
    rw [e]
    simp only [List.append_assoc]
    exact fieldAt_middle (a := [f, 1]) rfl (by decide)
  have hpn : fieldAt ops 5 2 = pn.toNat := by
    rw [e, List.append_assoc, List.append_assoc, List.append_assoc]
    exact fieldAt_middle rfl (by decide)
  have hpd : fieldAt ops 7 2 = pd.toNat := by
    rw [e, List.append_assoc, List.append_assoc]
    exact fieldAt_middle rfl (by decide)
  have hwl : fieldAt ops 9 2 = wl.toNat := by
    rw [e, List.append_assoc]
    exact fieldAt_middle rfl (by decide)
  unfold formatForm
  rw [hpi, hpn, hpd, hwl]
  simp [byteAt, e, toBytes]

/-- The row of a well-formed command reads back from its operand bytes (11.2). -/
theorem rowOf_spell {i : Instr} {t : Trunk} {k : CommandName} {h : Header} {ops : List Byte} (wf : i.wf = true)
    (e : spell i = some (t, k, h, ops)) : rowOf t h k ops = i := by
  cases i with
  | take t h o => cases e; simp [rowOf, takeOperands_bytes wf]
  | probe t h o => cases e; simp [rowOf, takeOperands_bytes wf]
  | sweep t h o => cases e; simp only [rowOf, sweepOperands_bytes wf]
  | swap t h o => cases e; simp only [rowOf, swapOperands_bytes wf]
  | salvoFire t h o => cases e; simp only [rowOf, fireOperands_bytes wf]
  | salvoLoad t h o => cases e; simp only [rowOf, loadOperands_bytes wf]
  | sourceTally t h n bits => cases e; simp [rowOf, byteAt, tallyOf_byte]
  | readCounters t h g clear => cases e; simp [rowOf, byteAt, flagByte_bit]
  | sourceDefine t h n f label => cases e; simp [rowOf, byteAt, Tbl.ofBytes_rows]
  | destDefine t h o =>
    cases e
    have offset : fieldAt ([o.dest, o.format, o.cls] ++ toBytes 3 o.offset.toNat) 3 3 = o.offset.toNat := fieldAt_last rfl (by decide)
    simp only [rowOf, offset, BitVec.ofNat_toNat, BitVec.setWidth_eq]
    rfl
  | timeset t h v =>
    cases e
    have time : fieldAt (toBytes 6 v.toNat) 0 6 = v.toNat := fieldAt_last (a := []) rfl (by decide)
    simp [rowOf, time]
  | setMargin t h m =>
    cases e
    have margin : fieldAt (toBytes 4 m.toNat) 0 4 = m.toNat := fieldAt_last (a := []) rfl (by decide)
    simp [rowOf, margin]
  | formatDefine t h f form =>
    cases form with
    | undefine => cases e; simp [rowOf, byteAt, formatForm]
    | define pi pn pd wl cadence => cases e; simp only [rowOf, formatForm_bytes]; rfl
  | cancel | salvoClear | lock | unlock | protect | unprotect | armOverride | recordState | setReportMask | trunkRelease | trunkPolicy
  | hold | resume | resetArm | reset | identify | readStatus | readDest | readSource | readFormat | readSalvo => cases e; rfl
  | _ => cases e

/-- Checks 1 to 5 of R159 pass for the spelling of every well-formed command. -/
theorem spelling_checks (i : Instr) : Laws.Spelling.Statement i := by
  cases i with
  | trunkCellArrival => exact Laws.Spelling.trunkCellArrival _ _ _
  | lostDelineation => exact Laws.Spelling.lostDelineation _
  | dropTransmitOpportunity => exact Laws.Spelling.dropTransmitOpportunity _
  | returnTransmitOpportunity => exact Laws.Spelling.returnTransmitOpportunity _
  | resetLineAsserted => exact Laws.Spelling.resetLineAsserted
  | resetLineReleased => exact Laws.Spelling.resetLineReleased
  | commitEvent => exact Laws.Spelling.commitEvent _
  | swapCommitEvent => exact Laws.Spelling.swapCommitEvent _
  | switchEvent => exact Laws.Spelling.switchEvent _
  | frameWatchExpiry => exact Laws.Spelling.frameWatchExpiry _
  | drainExpiry => exact Laws.Spelling.drainExpiry _
  | joinExpiry => exact Laws.Spelling.joinExpiry _
  | fillFramePoint => exact Laws.Spelling.fillFramePoint _
  | renormalisation => exact Laws.Spelling.renormalisation _
  | take => exact Laws.Spelling.take _ _ _
  | probe => exact Laws.Spelling.probe _ _ _
  | cancel => exact Laws.Spelling.cancel _ _ _
  | sweep => exact Laws.Spelling.sweep _ _ _
  | swap => exact Laws.Spelling.swap _ _ _
  | salvoLoad => exact Laws.Spelling.salvoLoad _ _ _
  | salvoFire => exact Laws.Spelling.salvoFire _ _ _
  | salvoClear => exact Laws.Spelling.salvoClear _ _ _
  | lock => exact Laws.Spelling.lock _ _ _
  | unlock => exact Laws.Spelling.unlock _ _ _
  | protect => exact Laws.Spelling.protect _ _ _
  | unprotect => exact Laws.Spelling.unprotect _ _ _
  | armOverride => exact Laws.Spelling.armOverride _ _ _
  | recordState => exact Laws.Spelling.recordState _ _ _ _
  | sourceDefine => exact Laws.Spelling.sourceDefine _ _ _ _ _
  | sourceTally => exact Laws.Spelling.sourceTally _ _ _ _
  | destDefine => exact Laws.Spelling.destDefine _ _ _
  | formatDefine => exact Laws.Spelling.formatDefine _ _ _ _
  | timeset => exact Laws.Spelling.timeset _ _ _
  | setMargin => exact Laws.Spelling.setMargin _ _ _
  | setReportMask => exact Laws.Spelling.setReportMask _ _ _
  | trunkRelease => exact Laws.Spelling.trunkRelease _ _ _
  | trunkPolicy => exact Laws.Spelling.trunkPolicy _ _ _ _
  | hold => exact Laws.Spelling.hold _ _
  | resume => exact Laws.Spelling.resume _ _
  | resetArm => exact Laws.Spelling.resetArm _ _
  | reset => exact Laws.Spelling.reset _ _
  | identify => exact Laws.Spelling.identify _ _
  | readStatus => exact Laws.Spelling.readStatus _ _
  | readDest => exact Laws.Spelling.readDest _ _ _ _ _
  | readSource => exact Laws.Spelling.readSource _ _ _
  | readFormat => exact Laws.Spelling.readFormat _ _ _
  | readSalvo => exact Laws.Spelling.readSalvo _ _ _ _
  | readCounters => exact Laws.Spelling.readCounters _ _ _ _
  | commandDecodeFailure => exact Laws.Spelling.commandDecodeFailure _ _ _ _ _
  | houseTick => exact Laws.Spelling.houseTick

/-! ## The COMMAND cell (11.2) -/

section
variable {k : CommandName} {h : Header} {ops : List Byte}

/-- The payload of a COMMAND cell: the header, the operand bytes, and zeros. -/
theorem commandCell_payload (short : ops.length ≤ 48) : (commandCell k h ops).payload.rows =
    ([k.codes.1, k.codes.2] ++ (toBytes 2 h.tag.toNat ++ [h.owner, BitVec.ofNat 8 ops.length])) ++ (ops ++ List.replicate (50 - ops.length) 0) := by
  change (([k.codes.1, k.codes.2] ++ toBytes 2 h.tag.toNat ++ [h.owner, BitVec.ofNat 8 ops.length] ++ ops) ++ List.replicate 56 0).take 56 = _
  rw [List.take_append, List.take_of_length_le (by simp; omega), List.take_replicate]
  simp only [List.append_assoc, List.length_append, List.length_cons, List.length_nil, toBytes_length]
  congr 5
  omega

theorem headerOf_commandCell (short : ops.length ≤ 48) :
    headerOf (commandCell k h ops) = ⟨k.codes.1, k.codes.2, h.tag, h.owner, ops.length⟩ := by
  have tag : fieldAt (commandCell k h ops).payload.rows 2 2 = h.tag.toNat := by
    rw [commandCell_payload short, List.append_assoc, List.append_assoc]
    exact fieldAt_middle rfl (by decide)
  unfold headerOf
  rw [tag, commandCell_payload short]
  simp [byteAt, toBytes]
  omega

theorem commandCell_operands (short : ops.length ≤ 48) :
    (commandCell k h ops).payload.rows.drop 6 = ops ++ List.replicate (50 - ops.length) 0 := by
  rw [commandCell_payload short]
  exact List.drop_left' (by simp)

theorem modeOffset_lt {i : Nat} (hm : k.modeOffset = some i) : i < k.fixedLength := by
  cases k <;> cases hm <;> decide

/-- What the fixed operands call for is read from the operand bytes alone. -/
theorem extension_append {rest : List Byte} (long : k.fixedLength ≤ ops.length) : k.extension (ops ++ rest) = k.extension ops := by
  unfold CommandName.extension
  cases hm : k.modeOffset with
  | some i =>
    dsimp only
    rw [byteAt_append_left ((modeOffset_lt hm).trans_le long)]
  | none =>
    dsimp only
    split
    · next hk =>
      subst hk
      rw [byteAt_append_left (lt_of_lt_of_le (by decide) long)]
    · rfl

end

/-- A COMMAND cell that passes the checks of R159 decodes to the row of its operand bytes. -/
theorem decodeCommand_commandCell {k : CommandName} {h : Header} {ops : List Byte} (t : Trunk) (named : commandOf k.codes.1 k.codes.2 = some k)
    (length : ops.length = k.fixedLength + k.extension ops) (short : ops.length ≤ 48) :
    decodeCommand t (commandCell k h ops) = rowOf t h k ops := by
  have long : k.fixedLength ≤ ops.length := by omega
  unfold decodeCommand
  rw [headerOf_commandCell short]
  dsimp only
  rw [if_neg (by omega), named]
  dsimp only
  rw [if_neg (by omega), commandCell_operands short, extension_append long, if_neg (by omega), List.take_left]

theorem commandCell_good (k : CommandName) (h : Header) (ops : List Byte) : (commandCell k h ops).good = true := by
  unfold Cell.good
  rw [commandCell, Cell.make_crcMatches]
  rfl

/-- Settles O13: the cell passes the checks of R159, and each operand reads back from its bytes. -/
theorem decodeInvertsEncode : Obligations.DecodeInvertsEncode := by
  unfold Obligations.DecodeInvertsEncode
  intro i t k h ops wf e
  obtain ⟨named, length, short⟩ := spelling_checks i wf t k h ops e
  exact ⟨(decodeCommand_commandCell t named length short).trans (rowOf_spell wf e), commandCell_good k h ops, rfl⟩

end Sys2Proof
end

section
/-! SUPPORT. The commands that change one record or none: what each makes of the state in which its FIFO head was taken, and what each
command leaves of the arm records (R54). -/

namespace Sys2Proof.Machine

/-! ## DISPLAY entries requested (R133) -/

/-- Requesting DISPLAY entries changes the ports alone. -/
theorem requestDisplays_eq (ds : List DestNo) (s : State) :
    requestDisplays ds s = { s with ports := (requestDisplays ds s).ports } := by
  apply State.ext <;> simp

/-- The entries requested depend on the destinations and the ports alone. -/
theorem requestDisplays_ports_congr (ds : List DestNo) {s s' : State} (hd : s.dests = s'.dests) (hp : s.ports = s'.ports) :
    (requestDisplays ds s).ports = (requestDisplays ds s').ports := by
  induction ds generalizing s s' with
  | nil => exact hp
  | cons d ds ih =>
    refine ih (s := requestDisplay d s) (s' := requestDisplay d s') (by simpa using hd) ?_
    unfold requestDisplay
    rw [hd]
    split
    · simp [hp]
    · exact hp

/-- Requesting DISPLAY entries in a state with the destinations and ports of another. -/
theorem requestDisplays_of_same (ds : List DestNo) {s s' : State} (hd : s.dests = s'.dests) (hp : s.ports = s'.ports) :
    requestDisplays ds s = { s with ports := (requestDisplays ds s').ports } := by
  rw [requestDisplays_eq, requestDisplays_ports_congr ds hd hp]

/-! ## A ready command, by what its act gives -/

/-- The state and reply of a ready command, from its act. -/
theorem executeCommand_of_act {t : Trunk} {i : Instr} {k : CommandName} {h : Header} {act : Arm → State → Result} {s s₁ : State}
    {st : Status} {fields : List ReplyField} (hr : headReady s t i = true)
    (hact : act (s.arms.get t) (headTaken s t) = ⟨s₁, st, fields⟩) :
    executeCommand t i k h act s = .next (answered t k h st fields s₁) := by
  rw [executeCommand_ready hr, hact]

/-- A ready command that its act refuses changes nothing. -/
theorem executeCommand_refused {t : Trunk} {i : Instr} {k : CommandName} {h : Header} {act : Arm → State → Result} {s : State}
    {st : Status} {fields : List ReplyField} (hr : headReady s t i = true)
    (hact : act (s.arms.get t) (headTaken s t) = refuse (headTaken s t) st fields) :
    executeCommand t i k h act s = .next (answered t k h st fields (headTaken s t)) :=
  executeCommand_of_act hr hact

/-! ## The report mask and the margin (R165, R3) -/

/-- Settles O52. -/
theorem reportMaskReplaced : Obligations.ReportMaskReplaced := by
  unfold Obligations.ReportMaskReplaced
  intro t h m s hr
  exact (exec_setReportMask ..).trans (executeCommand_of_act hr rfl)

/-- Settles O17: by the mode and the bound. -/
theorem setMarginResult : Obligations.SetMarginResult := by
  unfold Obligations.SetMarginResult
  intro t h m s hr
  rw [exec_setMargin]
  by_cases hm : s.mode = .held
  · rw [if_neg (not_not.mpr hm)]
    by_cases hb : m.toNat ≤ 1000000
    · rw [if_pos hb]
      exact executeCommand_of_act hr ((if_neg (not_not.mpr hm)).trans (if_pos hb))
    · rw [if_neg hb]
      exact executeCommand_of_act hr ((if_neg (not_not.mpr hm)).trans (if_neg hb))
  · rw [if_pos hm]
    exact executeCommand_refused hr (if_pos hm)

/-! ## A source's tally (R25) -/

/-- Settles O51: requesting the DISPLAY entries changes the ports alone, and reads no tally. -/
theorem sourceTallyReplacesBits : Obligations.SourceTallyReplacesBits := by
  unfold Obligations.SourceTallyReplacesBits
  intro t h b bits s hr
  rw [exec_sourceTally]
  refine ⟨fun hb => ?_, fun n hn => ?_⟩
  · refine executeCommand_refused hr ?_
    simp only [actSourceTally, sourceNumber_none.mpr hb]
  · split
    · next undefined =>
      refine executeCommand_refused hr ?_
      simp only [actSourceTally, hn]
      exact if_pos undefined
    · next defined =>
      refine executeCommand_of_act hr ?_
      simp only [actSourceTally, hn]
      refine (if_neg defined).trans ?_
      exact congrArg (Result.mk · .ok []) (requestDisplays_of_same (s' := s) _ rfl rfl)

/-! ## Trunk commands (R144, R146) -/

theorem trunkRelease_of_named {t u : Trunk} {h : Header} {b : Byte} {s : State} (hr : headReady s t (.trunkRelease t h b) = true)
    (hu : trunkOperand b = some u) : exec (.trunkRelease t h b) s = .next (
        if u = t then answered t .trunkRelease h .operandError [] (headTaken s t)
        else if (s.receivers.get u).state = .quarantined then
          answered t .trunkRelease h .ok [.enumeration 2, .quantity (BitVec.ofNat 8 (s.receivers.get u).runCount), .flag true]
            { headTaken s t with receivers := s.receivers.modify u fun r => { r with release := true } }
        else answered t .trunkRelease h .ok
          [.enumeration (if (s.receivers.get u).state = .clean then 0 else 1),
            .quantity (BitVec.ofNat 8 (s.receivers.get u).runCount), .flag false] (headTaken s t)) := by
  rw [exec_trunkRelease]
  split
  · next own =>
    refine executeCommand_refused hr ?_
    simp only [actTrunkRelease, hu, if_pos own]
  · next other =>
    cases hx : (s.receivers.get u).state <;>
      exact executeCommand_of_act hr (by simp [actTrunkRelease, hu, if_neg other, hx, trunkStateCode, countField, numByte, State.updReceiver])

theorem policyCode_operand {b : Byte} {p : Policy} (h : policyOperand b = some p) : policyCode p = b := by
  unfold policyOperand at h
  split at h
  · next zero => cases h; exact zero.symm
  · split at h <;> cases h
    next one => exact one.symm

/-- Settles O53: each operand in its order, and then the state of the named trunk. -/
theorem trunkCommandsAct : Obligations.TrunkCommandsAct := by
  unfold Obligations.TrunkCommandsAct
  intro t h b pb s
  refine ⟨fun hr => ⟨fun hb => ?_, fun u hu => trunkRelease_of_named hr hu⟩, fun hr => ⟨fun hb => ?_, fun u hu => ⟨fun hp => ?_, fun p hp => ?_⟩⟩⟩
  · exact (exec_trunkRelease ..).trans (executeCommand_refused hr (by simp only [actTrunkRelease, trunkOperand_none.mpr hb]))
  · exact (exec_trunkPolicy ..).trans (executeCommand_refused hr (by simp only [actTrunkPolicy, trunkOperand_none.mpr hb]))
  · exact (exec_trunkPolicy ..).trans (executeCommand_refused hr (by simp only [actTrunkPolicy, hu, policyOperand_none.mpr hp]))
  · refine ⟨optionalField .enumeration 0
        ((if ((headTaken s t).receivers.get u).state = .quarantined then ((headTaken s t).receivers.get u).inForce else none).map
          policyCode),
      (exec_trunkPolicy ..).trans (executeCommand_of_act hr ?_), fun free => ?_, fun q quarantined inForce => ?_⟩
    · simp only [actTrunkPolicy, hu, hp, policyCode_operand hp]
      rfl
    · have free' : ((headTaken s t).receivers.get u).state ≠ .quarantined := free
      rw [if_neg free']
      rfl
    · have quarantined' : ((headTaken s t).receivers.get u).state = .quarantined := quarantined
      have inForce' : ((headTaken s t).receivers.get u).inForce = some q := inForce
      rw [if_pos quarantined', inForce']
      cases q <;> rfl

/-! ## HOLD (R175, R176) -/

theorem headTaken_committedCount (s : State) (t : Trunk) : committedCount (headTaken s t) = committedCount s := rfl

/-- Settles O54: by the mode, and in RUN by the two counts. -/
theorem holdEntersHolding : Obligations.HoldEntersHolding := by
  unfold Obligations.HoldEntersHolding
  intro t h s hr committed cutting counts armed deferred u
  have hcommitted : committedCount u = committed := Tbl.count_eq ..
  have hcutting : cutCount u = cutting := Tbl.count_eq ..
  have harmed : u.active.count isArmed = armed := Tbl.count_eq ..
  have hdeferred : u.active.count isDeferred = deferred := Tbl.count_eq ..
  have hmode : u.mode = s.mode := rfl
  have hcounts : [countField (committedCount u), countField (cutCount u)] = counts := by
    rw [hcommitted, hcutting]
    rfl
  have act : ∀ m v, holdMode u = v → v.mode = m → actHold u = ⟨v, .ok, .enumeration (modeCode m) :: counts⟩ := by
    rintro m v rfl rfl
    rw [← hcounts]
    rfl
  have idle : noCutInProgress u = true ↔ committed = 0 ∧ cutting = 0 := by
    rw [noCutInProgress, hcommitted, hcutting, Bool.and_eq_true, beq_iff_eq, beq_iff_eq]
  rw [exec_hold, executeCommand_ready hr]
  cases mode : s.mode with
  | run =>
    rw [mode] at hmode
    dsimp only
    split
    · next c =>
      rw [act .held (queueMasked (.held s.houseTime armed deferred) { u with mode := .held }) _ (by simp)]
      · rfl
      · rw [holdMode, if_neg (not_not.mpr hmode), if_pos (idle.mpr c), reachHeld]
        dsimp only
        rw [harmed, hdeferred]
        rfl
    · next c =>
      rw [act .holding { u with mode := .holding } _ rfl]
      · rfl
      · rw [holdMode, if_neg (not_not.mpr hmode), if_neg (fun e => c (idle.mp e))]
  | holding =>
    rw [mode] at hmode
    rw [act .holding u (if_pos (by simp [hmode])) hmode]
    rfl
  | held =>
    rw [mode] at hmode
    rw [act .held u (if_pos (by simp [hmode])) hmode]
    rfl

/-! ## RESUME (R178, R18) -/

/-- Settles O55: `retargetAll` re-targets the takes that RESUME finds, and each is ARMED. -/
theorem resumeRetargets : Obligations.ResumeRetargets := by
  unfold Obligations.ResumeRetargets
  intro t h s hr
  refine ⟨fun hm => ?_, fun hm => ?_⟩
  · exact (exec_resume ..).trans (executeCommand_of_act hr (if_pos hm))
  · intro waits chosen
    have hchosen : ∀ d, resumes (headTaken s t) d = chosen d := fun d => rfl
    have kept : ∀ d, (retargetAll (headTaken s t)).active.get d =
        if chosen d then (s.active.get d).map fun k => retargeted (headTaken s t) d { k with deferred := false }
        else s.active.get d := fun d => by
      rw [← hchosen]
      exact Tbl.get_mapIdx ..
    refine ⟨{ retargetAll (headTaken s t) with mode := .run }, (exec_resume ..).trans (executeCommand_of_act hr ?_), rfl,
      fun d hd => ?_, fun d k hk hd => ?_⟩
    · have code : modeCode s.mode = if s.mode = .holding then 1 else 2 := by
        cases mode : s.mode with
        | run => exact absurd mode hm
        | holding | held => rfl
      rw [← code]
      exact if_neg hm
    · exact (kept d).trans (if_neg (by simp [hd]))
    · rw [kept, if_pos hd, hk]
      rfl

end Sys2Proof.Machine
end

section
/-! SUPPORT. The read commands (R166, R167, R170, R171), cells that fail decoding (R159), and what each command leaves of the arm
records (R54). -/

namespace Sys2Proof.Machine

/-! ## Reads -/

theorem exec_identify_ready {t : Trunk} {h : Header} {s : State} (hr : headReady s t (.identify t h) = true) :
    exec (.identify t h) s = .next (answered t .identify h .ok identifyFields (headTaken s t)) :=
  (exec_identify ..).trans (executeCommand_of_act hr rfl)

theorem statusFields_eq (s : State) : statusFields s =
    [.enumeration (modeCode s.mode), .time s.houseTime, .margin s.margin, .bits s.reportMask] ++
      ((List.finRange 8).map fun v => .enumeration (trunkStateCode (s.receivers.get v).state)) ++
      [.word (BitVec.ofNat 16 (2048 - s.pool.length)),
        countField ((List.finRange 128).countP fun d => isCommitted (s.active.get d)),
        countField ((List.finRange 128).countP fun d => (s.switching.get d).cut.inProgress),
        countField ((List.finRange 32).countP fun k => decide (0 < (s.salvos.get k).outstanding))] := by
  have fired : ∀ k : SlotNo, ((s.salvos.get k).state == .fired) = decide (0 < (s.salvos.get k).outstanding) := fun k => by
    unfold SalvoSlot.state
    repeat' split
    all_goals simp_all
  simp only [statusFields, committedCount, cutCount, firedCount, Tbl.count_eq, Tbl.rows_eq, List.map_map, fired]
  rfl

theorem salvoFields_eq (x : SalvoSlot) (low : Bool) : salvoFields x low =
    [.enumeration (if 0 < x.outstanding then 2 else if x.count = 0 then 0 else 1), countField x.count, countField x.outstanding,
      countField x.tallies.done, countField x.tallies.late, countField x.tallies.noSignal, countField x.tallies.superseded,
      countField x.tallies.guardFail, countField x.tallies.cancelled, .flag x.firingTrunk.isSome,
      .quantity ((x.firingTrunk.map fun v => BitVec.ofNat 8 v.val).getD 0), .flag x.firingTag.isSome, .tag (x.firingTag.getD 0)] ++
      (List.finRange 8).map fun i : Fin 8 => .pair (x.positions.get (if low then i.castLE (by decide) else i.natAdd 8)) := by
  have state : salvoStateCode x.state = if 0 < x.outstanding then 2 else if x.count = 0 then 0 else 1 := by
    unfold SalvoSlot.state
    repeat' split
    all_goals simp_all [salvoStateCode]
  have half : (if low then x.positions.rows.take 8 else x.positions.rows.drop 8) = (List.finRange 8).map fun i : Fin 8 =>
      x.positions.get (if low then i.castLE (by decide) else i.natAdd 8) := by
    cases low
    · exact Tbl.drop_rows (m := 8) (n := 8) x.positions
    · exact Tbl.take_rows x.positions (by decide)
  simp [salvoFields, state, half, Tallies.list, optionalField, List.map_map, numByte]

/-- Settles O57: each read answers its record's fields, after the checks of its operands. -/
theorem readsReturnRecords : Obligations.ReadsReturnRecords := by
  unfold Obligations.ReadsReturnRecords
  intro t h b hb s u byte
  refine ⟨fun hr => exec_identify_ready hr, fun hr => ?status, fun hr => ⟨fun out => ?_, fun n hn => ?_⟩,
    fun hr => ⟨fun out => ?_, fun f hf => ?_⟩, fun hr => ⟨fun out => ?_, fun k hk => ⟨fun out => ?_, fun low hl => ?_⟩⟩⟩
  case status =>
    rw [exec_readStatus, executeCommand_ready hr]
    exact congrArg (fun l => Host.Outcome.next (answered t .readStatus h .ok l u)) (statusFields_eq u)
  · exact (exec_readSource ..).trans (executeCommand_refused hr (by simp only [actReadSource, sourceNumber_none.mpr out]))
  · refine (exec_readSource ..).trans (executeCommand_of_act hr ?_)
    simp only [actReadSource, hn]
    rfl
  · exact (exec_readFormat ..).trans (executeCommand_refused hr (by simp only [actReadFormat, formatNumber_none.mpr out]))
  · refine (exec_readFormat ..).trans (executeCommand_of_act hr ?_)
    simp only [actReadFormat, hf]
    have code : ∀ on : Bool, trackingCode on = if on then 1 else 0 := fun on => by cases on <;> rfl
    rw [formatFields, code]
    rfl
  · exact (exec_readSalvo ..).trans (executeCommand_refused hr (by simp only [actReadSalvo, slotOperand_none.mpr out]))
  · exact (exec_readSalvo ..).trans (executeCommand_refused hr (by simp only [actReadSalvo, hk, halfOperand_none.mpr out]))
  · refine (exec_readSalvo ..).trans (executeCommand_of_act hr ?_)
    simp only [actReadSalvo, hk, hl]
    exact congrArg (Result.mk u .ok) (salvoFields_eq ..)

/-! ## Cells that fail decoding (R159) -/

/-- Everything that decoding can make of a COMMAND cell. -/
theorem decodeCommand_cases (t : Trunk) (c : Cell) :
    (∃ st, (st = .lengthError ∨ st = .codeError) ∧
      decodeCommand t c = .commandDecodeFailure t (headerOf c).code (headerOf c).sub (headerOf c).tag st) ∨
    ∃ h k ops, decodeCommand t c = rowOf t h k ops := by
  unfold decodeCommand
  dsimp only
  split
  · exact .inl ⟨_, .inl rfl, rfl⟩
  · split
    · exact .inl ⟨_, .inr rfl, rfl⟩
    · split
      · exact .inl ⟨_, .inl rfl, rfl⟩
      · split
        · exact .inl ⟨_, .inl rfl, rfl⟩
        · exact .inr ⟨_, _, _, rfl⟩

theorem rowOf_ne_failure (t : Trunk) (h : Header) (k : CommandName) (ops : List Byte) (code sub : Byte) (tag : Tag) (st : Status) :
    rowOf t h k ops ≠ .commandDecodeFailure t code sub tag st := by
  cases k <;> exact fun e => by cases e

/-- Settles O60. -/
theorem decodeFailureOnlyAnswers : Obligations.DecodeFailureOnlyAnswers := by
  unfold Obligations.DecodeFailureOnlyAnswers
  intro t c code sub tag st s head decoded room
  refine ⟨?_, ?_⟩
  · have ready : headReady s t (.commandDecodeFailure t code sub tag st) = true := headReady_iff.mpr ⟨c, head, decoded, room⟩
    rw [exec_commandDecodeFailure, executeHead, if_pos ready]
  · rcases decodeCommand_cases t c with ⟨st', why, e⟩ | ⟨h, k, ops, e⟩
    · rw [e] at decoded
      cases decoded
      exact ⟨rfl, rfl, rfl, why⟩
    · exact (rowOf_ne_failure _ _ _ _ _ _ _ _ (e.symm.trans decoded)).elim

/-! ## What a command's act leaves of the arm records -/

section
variable (t : Trunk) (h : Header) (s : State)

theorem actTake_arms (o : TakeOperands) (arm : Arm) : (actTake t h o arm s).state.arms = s.arms := by
  unfold actTake
  split <;> simp

theorem actProbe_arms (o : TakeOperands) (arm : Arm) : (actProbe h o arm s).state.arms = s.arms := by
  unfold actProbe
  split <;> rfl

theorem actCancel_arms (b : Byte) : (actCancel h b s).state.arms = s.arms := by
  unfold actCancel
  repeat' split
  all_goals simp

theorem actSweep_arms (o : SweepOperands) : (actSweep t h o s).state.arms = s.arms := by
  unfold actSweep
  repeat' split
  any_goals rfl
  simp
  exact foldl_keeps _ State.arms (fun s a => by simp) _ s

theorem actSwap_arms (o : SwapOperands) : (actSwap t h o s).state.arms = s.arms := by
  unfold actSwap
  dsimp only
  repeat' split
  any_goals rfl
  all_goals simp

theorem actSalvoLoad_arms (o : LoadOperands) : (actSalvoLoad o s).state.arms = s.arms := by
  unfold actSalvoLoad
  repeat' split
  all_goals simp

theorem actSalvoClear_arms (b : Byte) : (actSalvoClear b s).state.arms = s.arms := by
  unfold actSalvoClear
  repeat' split
  all_goals simp

theorem actSalvoFire_arms (o : FireOperands) : (actSalvoFire t h o s).state.arms = s.arms := by
  unfold actSalvoFire fireSalvo
  dsimp only
  repeat' split
  any_goals rfl
  simp
  exact foldl_keeps _ State.arms (fun s a => by simp) _ _

theorem actProtection_arms (needsOwner : Bool) (outcome : Dest → Byte → ProtectionOutcome) (b : Byte) :
    (actProtection needsOwner outcome h b s).state.arms = s.arms := by
  unfold actProtection
  repeat' split
  all_goals simp

theorem actRecordState_arms (b code : Byte) : (actRecordState b code s).state.arms = s.arms := by
  unfold actRecordState
  repeat' split
  any_goals rfl
  · rw [recordOn_state]; simp
  · rw [recordOff_state]; simp

theorem actSourceDefine_arms (n f : Byte) (label : Tbl Byte 16) : (actSourceDefine n f label s).state.arms = s.arms := by
  unfold actSourceDefine
  repeat' split
  all_goals simp

theorem actSourceTally_arms (n : Byte) (bits : Tally) : (actSourceTally n bits s).state.arms = s.arms := by
  unfold actSourceTally
  repeat' split
  all_goals simp

theorem defineDest_arms (d : DestNo) (f : Option FormatNo) (c : DestClass) (v : Int) :
    (defineDest d f c v s).state.arms = s.arms := by
  rw [defineDest_state]
  cases f with
  | none => dsimp only; split <;> simp
  | some f => simp

theorem actDestDefine_arms (o : DestOperands) : (actDestDefine o s).state.arms = s.arms := by
  unfold actDestDefine
  repeat' split
  any_goals rfl
  exact defineDest_arms ..

theorem actFormatDefine_arms (f : Byte) (form : FormatForm) : (actFormatDefine f form s).state.arms = s.arms := by
  unfold actFormatDefine undefineFormat defineFormat
  repeat' split
  all_goals simp

theorem actTimeset_arms (v : Time) : (actTimeset v s).state.arms = s.arms := by
  unfold actTimeset
  split <;> simp

theorem actSetMargin_arms (m : BitVec 32) : (actSetMargin m s).state.arms = s.arms := by
  unfold actSetMargin
  repeat' split
  all_goals rfl

theorem actTrunkRelease_arms (b : Byte) : (actTrunkRelease t b s).state.arms = s.arms := by
  unfold actTrunkRelease
  dsimp only
  repeat' split
  all_goals simp

theorem actTrunkPolicy_arms (b p : Byte) : (actTrunkPolicy b p s).state.arms = s.arms := by
  unfold actTrunkPolicy
  repeat' split
  all_goals simp

theorem actHold_arms : (actHold s).state.arms = s.arms :=
  show (holdMode s).arms = s.arms by simp

theorem actResume_arms : (actResume s).state.arms = s.arms := by
  unfold actResume
  split <;> simp

theorem actReadDest_arms (a n w : Byte) : (actReadDest a n w s).state.arms = s.arms := by
  unfold actReadDest
  repeat' split
  all_goals rfl

theorem actReadSource_arms (b : Byte) : (actReadSource b s).state.arms = s.arms := by
  unfold actReadSource
  split <;> rfl

theorem actReadFormat_arms (b : Byte) : (actReadFormat b s).state.arms = s.arms := by
  unfold actReadFormat
  split <;> rfl

theorem actReadSalvo_arms (b half : Byte) : (actReadSalvo b half s).state.arms = s.arms := by
  unfold actReadSalvo
  repeat' split
  all_goals rfl

theorem actReadCounters_arms (g : Byte) (clear : Bool) : (actReadCounters g clear s).state.arms = s.arms := by
  unfold actReadCounters
  repeat' split
  all_goals rfl

end

/-! ## What a command leaves of the arm records (R54) -/

theorem answered_arms (t : Trunk) (k : CommandName) (h : Header) (st : Status) (fields : List ReplyField) (s : State) :
    (answered t k h st fields s).arms = s.arms := by
  unfold answered
  simp

theorem warmReset_arms (s : State) : (warmReset s).arms = Tbl.fill 8 .clear := by
  simp [Machine.warmReset, warmBlocks, Machine.clearCounters, warmRecords, evaluateAll]

/-- The law of R54 for the execution of the command `i` of trunk `t`. -/
def SpendsArm (s s' : State) (t : Trunk) (i : Instr) : Prop :=
  let resets := (∃ h, i = .reset t h) ∧ s.arms.get t = .reset
  (resets → ∀ u, s'.arms.get u = .clear) ∧
    (¬resets → ∀ u, u ≠ t → s'.arms.get u = s.arms.get u) ∧
    (s'.arms.get t ≠ .clear →
      (∃ h d, i = .armOverride t h d ∧ ∃ e, destOperand d = some e ∧ s'.arms.get t = .overriding e h.owner) ∨
        ∃ h, i = .resetArm t h ∧ s'.arms.get t = .reset)

/-- A command other than RESET whose act leaves the arms leaves its trunk none, and the others theirs. -/
theorem spendsArm_of_kept {s s' : State} {t : Trunk} {i : Instr} (hi : ∀ h, i ≠ .reset t h)
    (kept : s'.arms = (headTaken s t).arms) : SpendsArm s s' t i := by
  have none : s'.arms.get t = .clear := by rw [kept, headTaken_arms, if_pos rfl]
  refine ⟨fun ⟨⟨h, e⟩, _⟩ => absurd e (hi h), fun _ u hu => ?_, fun some => absurd none some⟩
  rw [kept, headTaken_arms, if_neg hu.symm]

/-- A command executed whose act leaves the arms. -/
theorem spendsArm_of_act {s s' : State} {t : Trunk} {i : Instr} {k : CommandName} {h : Header} {act : Arm → State → Result}
    (hr : headReady s t i = true) (hi : ∀ h, i ≠ .reset t h)
    (run : exec i s = executeCommand t i k h act s) (hs : exec i s = .next s')
    (hact : ∀ arm u, (act arm u).state.arms = u.arms) : SpendsArm s s' t i := by
  rw [run, executeCommand_ready hr] at hs
  cases hs
  exact spendsArm_of_kept hi ((answered_arms ..).trans (hact ..))

/-- RESET: with the reset arm in hand no arm is left anywhere, and with another its own is spent. -/
theorem spendsArm_reset {s s' : State} {t : Trunk} {h : Header} (hr : headReady s t (.reset t h) = true)
    (hs : exec (.reset t h) s = .next s') : SpendsArm s s' t (.reset t h) := by
  rw [exec_reset, executeCommand_ready hr] at hs
  cases hs
  simp only [SpendsArm, answered_arms, actReset_state]
  by_cases arm : s.arms.get t = .reset
  · rw [if_pos arm, warmReset_arms]
    exact ⟨fun _ u => Tbl.get_fill .., fun free => absurd ⟨⟨h, rfl⟩, arm⟩ free, fun some => absurd (Tbl.get_fill ..) some⟩
  · rw [if_neg arm]
    refine ⟨fun both => absurd both.2 arm, fun _ u hu => ?_, fun some => ?_⟩
    · rw [headTaken_arms, if_neg hu.symm]
    · rw [headTaken_arms, if_pos rfl] at some
      exact absurd rfl some

/-- ARM_OVERRIDE leaves its own trunk the override arm of a destination in range (R55). -/
theorem spendsArm_armOverride {s s' : State} {t : Trunk} {h : Header} {b : Byte}
    (hr : headReady s t (.armOverride t h b) = true) (hs : exec (.armOverride t h b) s = .next s') :
    SpendsArm s s' t (.armOverride t h b) := by
  rw [exec_armOverride, executeCommand_ready hr] at hs
  cases hd : destOperand b with
  | none =>
    have act : actArmOverride t h b (headTaken s t) = refuse (headTaken s t) .range := by simp only [actArmOverride, hd]
    rw [act] at hs
    cases hs
    exact spendsArm_of_kept (fun _ e => by cases e) (answered_arms ..)
  | some e =>
    have act : actArmOverride t h b (headTaken s t) = ⟨(headTaken s t).setArm t (.overriding e h.owner), .ok, []⟩ := by
      simp only [actArmOverride, hd]
    rw [act] at hs
    cases hs
    simp only [SpendsArm, answered_arms, headTaken_setArm]
    refine ⟨fun both => ?_, fun _ u hu => Tbl.get_set_ne _ _ hu.symm,
      fun _ => .inl ⟨h, b, rfl, e, hd, Tbl.get_set_self ..⟩⟩
    obtain ⟨⟨h', e'⟩, -⟩ := both
    cases e'

/-- RESET_ARM leaves its own trunk the reset arm (R180). -/
theorem spendsArm_resetArm {s s' : State} {t : Trunk} {h : Header} (hr : headReady s t (.resetArm t h) = true)
    (hs : exec (.resetArm t h) s = .next s') : SpendsArm s s' t (.resetArm t h) := by
  rw [exec_resetArm, executeCommand_ready hr] at hs
  cases hs
  simp only [SpendsArm, answered_arms, headTaken_setArm]
  refine ⟨fun both => ?_, fun _ u hu => Tbl.get_set_ne _ _ hu.symm, fun _ => .inr ⟨h, rfl, Tbl.get_set_self ..⟩⟩
  obtain ⟨⟨h', e'⟩, -⟩ := both
  cases e'

/-- Every command of the table, ready at the head of its FIFO, keeps the law of R54. -/
theorem spendsArm_rowOf {s s' : State} {t : Trunk} {h : Header} {k : CommandName} {ops : List Byte}
    (hr : headReady s t (rowOf t h k ops) = true) (hs : exec (rowOf t h k ops) s = .next s') :
    SpendsArm s s' t (rowOf t h k ops) := by
  cases k with
  | reset => exact spendsArm_reset hr hs
  | armOverride => exact spendsArm_armOverride hr hs
  | resetArm => exact spendsArm_resetArm hr hs
  | take => exact spendsArm_of_act hr (fun _ e => by cases e) (exec_take ..) hs fun arm u => actTake_arms t h u _ arm
  | probe => exact spendsArm_of_act hr (fun _ e => by cases e) (exec_probe ..) hs fun arm u => actProbe_arms h u _ arm
  | cancel => exact spendsArm_of_act hr (fun _ e => by cases e) (exec_cancel ..) hs fun _ u => actCancel_arms h u _
  | sweep => exact spendsArm_of_act hr (fun _ e => by cases e) (exec_sweep ..) hs fun _ u => actSweep_arms t h u _
  | swap => exact spendsArm_of_act hr (fun _ e => by cases e) (exec_swap ..) hs fun _ u => actSwap_arms t h u _
  | salvoLoad => exact spendsArm_of_act hr (fun _ e => by cases e) (exec_salvoLoad ..) hs fun _ u => actSalvoLoad_arms u _
  | salvoFire => exact spendsArm_of_act hr (fun _ e => by cases e) (exec_salvoFire ..) hs fun _ u => actSalvoFire_arms t h u _
  | salvoClear => exact spendsArm_of_act hr (fun _ e => by cases e) (exec_salvoClear ..) hs fun _ u => actSalvoClear_arms u _
  | lock => exact spendsArm_of_act hr (fun _ e => by cases e) (exec_lock ..) hs fun _ u => actProtection_arms h u _ _ _
  | unlock => exact spendsArm_of_act hr (fun _ e => by cases e) (exec_unlock ..) hs fun _ u => actProtection_arms h u _ _ _
  | protect => exact spendsArm_of_act hr (fun _ e => by cases e) (exec_protect ..) hs fun _ u => actProtection_arms h u _ _ _
  | unprotect => exact spendsArm_of_act hr (fun _ e => by cases e) (exec_unprotect ..) hs fun _ u => actProtection_arms h u _ _ _
  | recordState => exact spendsArm_of_act hr (fun _ e => by cases e) (exec_recordState ..) hs fun _ u => actRecordState_arms u _ _
  | sourceTally => exact spendsArm_of_act hr (fun _ e => by cases e) (exec_sourceTally ..) hs fun _ u => actSourceTally_arms u _ _
  | hold => exact spendsArm_of_act hr (fun _ e => by cases e) (exec_hold ..) hs fun _ u => actHold_arms u
  | resume => exact spendsArm_of_act hr (fun _ e => by cases e) (exec_resume ..) hs fun _ u => actResume_arms u
  | identify => exact spendsArm_of_act hr (fun _ e => by cases e) (exec_identify ..) hs fun _ _ => rfl
  | readStatus => exact spendsArm_of_act hr (fun _ e => by cases e) (exec_readStatus ..) hs fun _ _ => rfl
  | readDest => exact spendsArm_of_act hr (fun _ e => by cases e) (exec_readDest ..) hs fun _ u => actReadDest_arms u _ _ _
  | readSource => exact spendsArm_of_act hr (fun _ e => by cases e) (exec_readSource ..) hs fun _ u => actReadSource_arms u _
  | readFormat => exact spendsArm_of_act hr (fun _ e => by cases e) (exec_readFormat ..) hs fun _ u => actReadFormat_arms u _
  | readSalvo => exact spendsArm_of_act hr (fun _ e => by cases e) (exec_readSalvo ..) hs fun _ u => actReadSalvo_arms u _ _
  | readCounters => exact spendsArm_of_act hr (fun _ e => by cases e) (exec_readCounters ..) hs fun _ u => actReadCounters_arms u _ _
  | sourceDefine => exact spendsArm_of_act hr (fun _ e => by cases e) (exec_sourceDefine ..) hs fun _ u => actSourceDefine_arms u _ _ _
  | destDefine => exact spendsArm_of_act hr (fun _ e => by cases e) (exec_destDefine ..) hs fun _ u => actDestDefine_arms u _
  | formatDefine => exact spendsArm_of_act hr (fun _ e => by cases e) (exec_formatDefine ..) hs fun _ u => actFormatDefine_arms u _ _
  | timeset => exact spendsArm_of_act hr (fun _ e => by cases e) (exec_timeset ..) hs fun _ u => actTimeset_arms u _
  | setMargin => exact spendsArm_of_act hr (fun _ e => by cases e) (exec_setMargin ..) hs fun _ u => actSetMargin_arms u _
  | setReportMask => exact spendsArm_of_act hr (fun _ e => by cases e) (exec_setReportMask ..) hs fun _ _ => rfl
  | trunkRelease => exact spendsArm_of_act hr (fun _ e => by cases e) (exec_trunkRelease ..) hs fun _ u => actTrunkRelease_arms t u _
  | trunkPolicy => exact spendsArm_of_act hr (fun _ e => by cases e) (exec_trunkPolicy ..) hs fun _ u => actTrunkPolicy_arms u _ _

/-- Settles O14: a cell that fails decoding and every command of the table keep the law of R54. -/
theorem armsLastOneCommand : Obligations.ArmsLastOneCommand := by
  unfold Obligations.ArmsLastOneCommand
  intro s s' t c head room hs
  have ready : headReady s t (decodeCommand t c) = true := headReady_iff.mpr ⟨c, head, rfl, room⟩
  show SpendsArm s s' t (decodeCommand t c)
  rcases decodeCommand_cases t c with ⟨st, -, e⟩ | ⟨h, k, ops, e⟩ <;> rw [e] at ready hs ⊢
  · rw [exec_commandDecodeFailure, executeHead, if_pos ready] at hs
    cases hs
    exact spendsArm_of_kept (fun _ e => by cases e) (by simp)
  · exact spendsArm_rowOf ready hs

end Sys2Proof.Machine
end

section
/-! SUPPORT. READ_DEST (R168, R169): the destinations of its range, and the bytes of both summaries (R188). -/

namespace Sys2Proof.Machine

/-! ## The range (R168) -/

theorem wrapOperand_zero : wrapOperand 0 = some none := rfl

/-- A wrap operand that is no zero names an aligned group (R168). -/
theorem wrapOperand_group {w : Byte} (h : w.toNat < 5) (nonzero : w ≠ 0) :
    wrapOperand w = some (some (2 ^ (w.toNat + 2))) ∧ 2 ^ (w.toNat + 2) ∣ 128 := by
  have cases : w = 1 ∨ w = 2 ∨ w = 3 ∨ w = 4 := by
    have : w.toNat ≠ 0 := fun e => nonzero (BitVec.eq_of_toNat_eq e)
    bv_omega
  rcases cases with rfl | rfl | rfl | rfl <;> decide

theorem destAt_val {i : Nat} (h : i < 128) : (destAt i).val = i := Nat.mod_eq_of_lt h

/-- The places of an unwrapped range. -/
theorem readRange_none (d : DestNo) (n i : Nat) :
    (readRange d n none)[i]?.map (·.val) = if i < n ∧ d.val + i < 128 then some (d.val + i) else none := by
  rw [readRange, List.getElem?_map]
  by_cases hi : i < n ∧ d.val + i < 128
  · rw [if_pos hi, List.getElem?_range (by omega)]
    exact congrArg some (destAt_val hi.2)
  · rw [if_neg hi, List.getElem?_eq_none (by rw [List.length_range]; omega)]
    rfl

/-- The places of a range wrapped in a group that divides the part's destinations. -/
theorem readRange_some (d : DestNo) (n i : Nat) {g : Nat} (hg : g ∣ 128) :
    (readRange d n (some g))[i]?.map (·.val) = if i < n then some (d.val / g * g + (d.val % g + i) % g) else none := by
  rw [readRange, List.getElem?_map]
  have start : d.val - d.val % g = d.val / g * g := by
    have := Nat.div_add_mod' d.val g
    omega
  have inside : d.val / g * g + (d.val % g + i) % g < 128 := by
    obtain ⟨q, hq⟩ := hg
    have pos : 0 < g := Nat.pos_of_ne_zero fun e => by simp [e] at hq
    have group : d.val / g < q := Nat.div_lt_of_lt_mul (hq ▸ d.isLt)
    have place : (d.val % g + i) % g < g := Nat.mod_lt _ pos
    calc d.val / g * g + (d.val % g + i) % g < (d.val / g + 1) * g := by rw [Nat.add_mul, Nat.one_mul]; omega
      _ ≤ q * g := Nat.mul_le_mul_right g group
      _ = 128 := by rw [Nat.mul_comm, ← hq]
  by_cases hi : i < n
  · rw [if_pos hi, List.getElem?_range hi, start]
    exact congrArg some (destAt_val inside)
  · rw [if_neg hi, List.getElem?_eq_none (by rw [List.length_range]; omega)]
    rfl

theorem destSummaries_eq (s : State) (ds : List DestNo) (truncated : Bool) : destSummaries s ds truncated =
    (BitVec.ofNat 8 ds.length ||| if truncated then 0x80 else 0) ::
      ds.flatMap fun e => if ds.length = 1 then detailedSummary s e else compactSummary s e := by
  have mark : bitAt 7 truncated = if truncated then 0x80 else 0 := rfl
  rw [destSummaries, mark]
  by_cases one : ds.length = 1
  · simp only [if_pos one]
    rfl
  · simp only [if_neg one]
    rfl

/-! ## The bytes of a compact summary (R188) -/

/-- What bit `n` of a byte is worth. -/
def bitValue (n : Nat) (b : Bool) : Nat := if b then 2 ^ n else 0

theorem cutCode_eq (cut : Cut) : codeAt 5 (cutCode cut) = BitVec.ofNat 8
    (match cut with | .steady _ _ => 0 | .draining _ _ _ => 32 | .joining _ => 64) := by
  cases cut <;> rfl

theorem noFormat_or_cut : ∀ k : Fin 3,
    (0 : Byte) ||| bitAt 4 false ||| BitVec.ofNat 8 (32 * k.val) = BitVec.ofNat 8 (0 + 32 * k.val) := by decide

theorem formatNumber_or_cut : ∀ f : FormatNo, ∀ k : Fin 3,
    numByte f.val ||| bitAt 4 true ||| BitVec.ofNat 8 (32 * k.val) = BitVec.ofNat 8 (f.val + 16 + 32 * k.val) := by decide

/-- Byte 1: the format, its presence and the switching state. -/
theorem formatCut_byte (f : Option FormatNo) (cut : Cut) :
    (f.map fun f => numByte f.val).getD 0 ||| bitAt 4 f.isSome ||| codeAt 5 (cutCode cut) =
      BitVec.ofNat 8 ((match f with | some f => f.val + 16 | none => 0) +
        match cut with | .steady _ _ => 0 | .draining _ _ _ => 32 | .joining _ => 64) := by
  rw [cutCode_eq]
  cases f with
  | none =>
    cases cut with
    | steady => exact noFormat_or_cut 0
    | draining => exact noFormat_or_cut 1
    | joining => exact noFormat_or_cut 2
  | some f =>
    cases cut with
    | steady => exact formatNumber_or_cut f 0
    | draining => exact formatNumber_or_cut f 1
    | joining => exact formatNumber_or_cut f 2

theorem flags_or (cls : DestClass) (p : Protection) : ∀ r w f b u : Bool,
    codeAt 0 (classCode cls) ||| bitAt 1 r ||| codeAt 2 (protectionCode p) ||| codeAt 4 (if w then 1 else 0) ||| bitAt 5 f |||
        bitAt 6 b ||| bitAt 7 u =
      BitVec.ofNat 8 (bitValue 0 (cls == .recorder) + bitValue 1 r +
        (match p with | .free => 0 | .locked => 4 | .guarded => 8) + bitValue 4 w + bitValue 5 f + bitValue 6 b +
        bitValue 7 u) := by
  cases cls <;> cases p <;> decide

/-- Byte 2: class, recording, protection, the forwarding flag and the presence of takes. -/
theorem flags_byte (cls : DestClass) (p : Protection) (cut : Cut) (r f b u : Bool) :
    codeAt 0 (classCode cls) ||| bitAt 1 r ||| codeAt 2 (protectionCode p) ||| codeAt 4 (forwardingCode cut) ||| bitAt 5 f |||
        bitAt 6 b ||| bitAt 7 u =
      BitVec.ofNat 8 (bitValue 0 (cls == .recorder) + bitValue 1 r +
        (match p with | .free => 0 | .locked => 4 | .guarded => 8) +
        bitValue 4 (match cut with | .steady _ .waiting => true | _ => false) + bitValue 5 f + bitValue 6 b + bitValue 7 u) := by
  have flag : forwardingCode cut = if (match cut with | .steady _ .waiting => true | _ => false) then 1 else 0 := by
    cases cut with
    | steady m flag => cases flag <;> rfl
    | draining | joining => rfl
  rw [flag, flags_or]

theorem shift_extract (x : BitVec 24) : BitVec.ofNat 8 (x.toNat / 256 ^ 2) = x.extractLsb' 16 8 ∧
    BitVec.ofNat 8 (x.toNat / 256 ^ 1) = x.extractLsb' 8 8 ∧ BitVec.ofNat 8 (x.toNat / 256 ^ 0) = x.extractLsb' 0 8 := by
  refine ⟨?_, ?_, ?_⟩ <;> apply BitVec.eq_of_toNat_eq <;> simp [Nat.shiftRight_eq_div_pow]

/-- The three bytes of an offset. -/
theorem signedBytes_three (v : Int) : signedBytes 3 v =
    [(BitVec.ofInt 24 v).extractLsb' 16 8, (BitVec.ofInt 24 v).extractLsb' 8 8, (BitVec.ofInt 24 v).extractLsb' 0 8] := by
  obtain ⟨high, middle, low⟩ := shift_extract (BitVec.ofInt 24 v)
  rw [← high, ← middle, ← low]
  rfl

theorem indicators_or (k : Option TakeState) : ∀ r l g n p : Bool,
    (Indicators.byte ⟨r, l, g, n, p⟩ ||| codeAt 5 ((k.map takeStateCode).getD 0)) =
      BitVec.ofNat 8 (bitValue 0 r + bitValue 1 l + bitValue 2 g + bitValue 3 n + bitValue 4 p +
        match k with | none => 0 | some .armed => 32 | some .committed => 64 | some .following => 96) := by
  rcases k with - | k
  · decide
  · cases k <;> decide

theorem tally_or : ∀ a b c d e f g h : Bool,
    Tally.byte ⟨a, b, c, d⟩ ||| bitAt 4 e ||| bitAt 5 f ||| bitAt 6 g ||| bitAt 7 h =
      BitVec.ofNat 8 (bitValue 0 a + bitValue 1 b + bitValue 2 c + bitValue 3 d + bitValue 4 e + bitValue 5 f + bitValue 6 g +
        bitValue 7 h) := by decide

/-- The destination is JOINING: it forwards no source. -/
def Cut.isJoining : Cut → Bool
  | .joining _ => true
  | _ => false

/-- The source that a cut forwards, if it forwards one. -/
def Cut.shown : Cut → Option SourceNo
  | .steady m _ => m
  | .draining old _ _ => some old
  | .joining _ => none

theorem forwardedByte_eq (cut : Cut) :
    forwardedByte cut.forwarded = if cut.isJoining then 254 else sourceByte cut.shown := by
  cases cut with
  | steady m => cases m <;> rfl
  | draining | joining => rfl

theorem noSignal_eq (s : State) (d : DestNo) : noSignal s d =
    ((s.switching.get d).cut.isJoining || (s.switching.get d).fill.isSome ||
      match (s.switching.get d).cut.shown with | some n => (s.sources.get n).state != .locked | none => true) := by
  unfold noSignal
  dsimp only
  cases (s.switching.get d).cut with
  | steady m => cases m <;> rfl
  | draining => rfl
  | joining => simp [Cut.forwarded, Cut.isJoining]

theorem displayContents_indicators (s : State) (d : DestNo) : (displayContents s d).indicators = indicators s d := by
  unfold displayContents
  split <;> rfl

theorem displayContents_tally (s : State) (d : DestNo) : (displayContents s d).tally =
    match (s.switching.get d).cut.shown with | some n => (s.sources.get n).tally | none => Tally.off := by
  unfold displayContents
  cases (s.switching.get d).cut with
  | steady m => cases m <;> rfl
  | draining | joining => rfl

/-- Byte 9: the indicators and the state of the active position. -/
theorem indicators_byte (s : State) (d : DestNo) :
    (displayContents s d).indicators.byte ||| codeAt 5 (positionCode (s.active.get d)) =
      BitVec.ofNat 8 (bitValue 0 (recordingFails (s.dests.get d)) + bitValue 1 ((s.dests.get d).protection == .locked) +
        bitValue 2 ((s.dests.get d).protection == .guarded) + bitValue 3 (noSignal s d) + bitValue 4 (s.active.get d).isSome +
        match s.active.get d with
        | none => 0
        | some k => (match k.state with | .armed => 32 | .committed => 64 | .following => 96)) := by
  have code : positionCode (s.active.get d) = (((s.active.get d).map (·.state)).map takeStateCode).getD 0 := by
    rw [Option.map_map]
    rfl
  rw [displayContents_indicators, code]
  refine (indicators_or ..).trans ?_
  cases s.active.get d with
  | none => rfl
  | some k =>
    simp only [Option.map_some]
    cases k.state <;> rfl

/-- Byte 10: the tally of the source shown and the flags of the active take. -/
theorem tally_byte (s : State) (d : DestNo) (e f g h : Bool) :
    (displayContents s d).tally.byte ||| bitAt 4 e ||| bitAt 5 f ||| bitAt 6 g ||| bitAt 7 h =
      BitVec.ofNat 8 ((match (s.switching.get d).cut.shown with
        | some n => bitValue 0 (s.sources.get n).tally.pgm + bitValue 1 (s.sources.get n).tally.pvw +
            bitValue 2 (s.sources.get n).tally.iso + bitValue 3 (s.sources.get n).tally.aux
        | none => 0) + bitValue 4 e + bitValue 5 f + bitValue 6 g + bitValue 7 h) := by
  rw [displayContents_tally]
  cases (s.switching.get d).cut.shown with
  | none => exact tally_or false false false false e f g h
  | some n => exact tally_or _ _ _ _ e f g h

theorem tail_or : ∀ a b : Bool, bitAt 0 a ||| bitAt 1 b = BitVec.ofNat 8 (bitValue 0 a + bitValue 1 b) := by decide

theorem takeSourceByte_eq (k : TakeSource) : takeSourceByte k =
    match k with | .fixed n => (match n with | some m => BitVec.ofNat 8 m.val | none => 255) | .unfixed => 255 := by
  cases k with
  | fixed n => cases n <;> rfl
  | unfixed => rfl

/-- Byte 11: the source of the active take. -/
theorem activeSource_byte (o : Option Take) : (o.map fun k => takeSourceByte k.source).getD 0 =
    match o with
    | some k => (match k.source with | .fixed n => (match n with | some m => BitVec.ofNat 8 m.val | none => 255) | .unfixed => 255)
    | none => 0 := by
  cases o with
  | none => rfl
  | some k => exact takeSourceByte_eq k.source

/-! ## What a detailed summary adds (R188) -/

/-- The bytes of a number, most significant first. -/
def bytesOf (count v : Nat) : List Byte := (List.range count).map fun i => BitVec.ofNat 8 (v / 256 ^ (count - 1 - i))

theorem toBytes_eq (n v : Nat) : toBytes n v = bytesOf n v := by
  induction n with
  | zero => rfl
  | succ n ih =>
    rw [toBytes, ih, bytesOf, bytesOf, List.range_succ_eq_map, List.map_cons, List.map_map]
    refine congrArg₂ List.cons (by simp) (List.map_congr_left fun i _ => ?_)
    have : n - 1 - i = n + 1 - 1 - (i + 1) := by omega
    simp [this]

theorem slotByte_eq (o : Option SlotNo) : slotByte o = match o with | some m => BitVec.ofNat 8 m.val | none => 255 := by
  cases o <;> rfl

theorem guardByteOf_eq (g : Option (Option SourceNo)) : guardByteOf g =
    match g with | none => 0xFE | some n => (match n with | some m => BitVec.ofNat 8 m.val | none => 255) := by
  cases g with
  | none => rfl
  | some n => cases n <;> rfl

theorem placedBytes_eq (o : Option Placed) : placedBytes o =
    match o with
    | some p => bytesOf 6 p.switchPoint.toNat ++ bytesOf 4 p.frame.toNat
    | none => List.replicate 10 0 := by
  cases o with
  | none => rfl
  | some p => rw [placedBytes, toBytes_eq, toBytes_eq]

theorem targetModeCode_eq (m : TargetMode) : targetModeCode m =
    match m with | .next => BitVec.ofNat 8 0 | .frames => 1 | .atTime => 2 := by cases m <;> rfl

theorem partnerByte_eq (o : Option DestNo) : (o.map fun p => numByte p.val).getD 255 =
    match o with | some e => BitVec.ofNat 8 e.val | none => 255 := by cases o <;> rfl

theorem activeSummary_eq (o : Option Take) : activeSummary o =
    match o with
    | none => List.replicate 25 0
    | some k =>
      [match k.guardSource with
        | none => 0xFE
        | some n => (match n with | some m => BitVec.ofNat 8 m.val | none => 255),
        match k.mode with | .next => BitVec.ofNat 8 0 | .frames => 1 | .atTime => 2] ++
        bytesOf 6 k.target.toNat ++ bytesOf 2 k.frames.toNat ++
        (match k.placed with
          | some p => bytesOf 6 p.switchPoint.toNat ++ bytesOf 4 p.frame.toNat
          | none => List.replicate 10 0) ++
        [BitVec.ofNat 8 k.trunk.val] ++ bytesOf 2 k.tag.toNat ++
        [match k.salvo with | some m => BitVec.ofNat 8 m.val | none => 255,
          match k.partner with | some e => BitVec.ofNat 8 e.val | none => 255] := by
  cases o with
  | none => rfl
  | some k =>
    simp only [activeSummary, toBytes_eq, placedBytes_eq, guardByteOf_eq, targetModeCode_eq, slotByte_eq, partnerByte_eq]
    rfl

theorem followSummary_eq (o : Option Take) : followSummary o =
    match o with
    | none => List.replicate 6 0
    | some q =>
      [match q.source with
        | .fixed n => (match n with | some m => BitVec.ofNat 8 m.val | none => 255)
        | .unfixed => 255,
        match q.mode with | .next => BitVec.ofNat 8 0 | .frames => 1 | .atTime => 2, BitVec.ofNat 8 q.trunk.val] ++
        bytesOf 2 q.tag.toNat ++ [match q.salvo with | some m => BitVec.ofNat 8 m.val | none => 255] := by
  cases o with
  | none => rfl
  | some q =>
    simp only [followSummary, toBytes_eq, takeSourceByte_eq, targetModeCode_eq, slotByte_eq]
    rfl

/-- Settles O58: the checks and the range; then the twelve bytes of a compact summary one by one, and what a detailed one adds. -/
theorem readDestReturnsRange : Obligations.ReadDestReturnsRange := by
  unfold Obligations.ReadDestReturnsRange
  refine ⟨fun t h b n w s hr => ⟨fun out => ?_, fun d hd => ⟨fun bad => ?_, fun low high wrap => ?_⟩⟩, ?_⟩
  · exact (exec_readDest ..).trans (executeCommand_refused hr (by simp only [actReadDest, destOperand_none.mpr out]))
  · refine (exec_readDest ..).trans (executeCommand_refused hr ?_)
    simp only [actReadDest, hd]
    by_cases count : n.toNat < 1 ∨ 4 < n.toNat
    · exact if_pos count
    · rw [if_neg count, wrapOperand_none.mpr (by omega)]
  · have count : ¬(n.toNat < 1 ∨ 4 < n.toNat) := by omega
    have answer : ∀ g, wrapOperand w = some g → exec (.readDest t h b n w) s = .next (answered t .readDest h .ok
        [.packed (destSummaries (headTaken s t) (readRange d n.toNat g) (truncates d n.toNat g))] (headTaken s t)) := fun g hg => by
      refine (exec_readDest ..).trans (executeCommand_of_act hr ?_)
      simp only [actReadDest, hd, if_neg count, hg]
    by_cases zero : w = 0
    · subst zero
      refine ⟨readRange d n.toNat none, truncates d n.toNat none, ?_, fun _ => ⟨readRange_none d n.toNat, ?_⟩,
        fun nonzero => absurd rfl nonzero⟩
      · rw [answer none wrapOperand_zero, destSummaries_eq]
        rfl
      · simp only [truncates, Option.isNone_none, Bool.true_and, decide_eq_decide]
        omega
    · obtain ⟨group, divides⟩ := wrapOperand_group wrap zero
      refine ⟨readRange d n.toNat (some (2 ^ (w.toNat + 2))), false, ?_, fun e => absurd e zero,
        fun _ => ⟨rfl, fun i => readRange_some d n.toNat i divides⟩⟩
      rw [answer _ group, destSummaries_eq]
      rfl
  · intro s d x w active follow byte bytes bit known goes moded slot joining shown noPicture tally offset compact
    have compactEq : compactSummary s d = compact := by
      unfold compactSummary
      dsimp only
      rw [formatCut_byte, flags_byte, signedBytes_three, forwardedByte_eq, indicators_byte, tally_byte, noSignal_eq, activeSource_byte]
      rfl
    refine ⟨compactEq, ?_⟩
    rw [detailedSummary, compactEq, tail_or, activeSummary_eq, followSummary_eq]
    rfl

end Sys2Proof.Machine
end

section
/-! SUPPORT. Frame points and postings as functions of what they read, and the warm reset (R181) record by record. -/

namespace Sys2Proof.Machine

/-! ## Frame points depend on the cadence and the epoch alone (R10, R11) -/

theorem addTicks_natCast (x : Time) (n : Nat) : addTicks x n = x + BitVec.ofNat 48 n := by
  rw [addTicks, BitVec.ofInt_natCast]

/-- The record `y` has the frame points of the record `x`: cadence, epoch and epoch number are the same. -/
structure SameFrames (x y : Format) : Prop where
  pi : y.pi = x.pi
  pn : y.pn = x.pn
  pd : y.pd = x.pd
  epoch : y.epoch = x.epoch
  epochFrame : y.epochFrame = x.epochFrame

section
variable {x y : Format} (h : SameFrames x y)
include h

theorem SameFrames.g : y.g = x.g := by rw [Format.g, Format.g, h.pi, h.pd, h.pn]

theorem frameFrom_congr (o : Int) (at' : Time) : frameFrom y o at' = frameFrom x o at' := by
  unfold frameFrom
  rw [h.epoch, h.pd, h.g]

theorem framePoint_congr (o : Int) (k : Nat) : framePoint y o k = framePoint x o k := by
  unfold framePoint
  rw [h.epoch, h.pi, h.pn, h.pd]

theorem frameNumber_congr (k : Nat) : frameNumber y k = frameNumber x k := by
  unfold frameNumber
  rw [h.epochFrame]

theorem firstPoint_congr (o : Int) (at' : Time) : firstPoint y o at' = firstPoint x o at' := by
  unfold firstPoint
  rw [frameFrom_congr h, framePoint_congr h]

theorem switchPlace_congr (o : Int) (m : Nat) (target : Time) (n : Nat) :
    switchPlace y o m target n = switchPlace x o m target n := by
  unfold switchPlace
  simp only [frameFrom_congr h, framePoint_congr h, frameNumber_congr h]

end

/-- Every format keeps its frame points. -/
def SameFramePoints (s s' : State) : Prop := ∀ f, SameFrames (s.formats.get f) (s'.formats.get f)

theorem SameFramePoints.of_formats {s s' : State} (h : s'.formats = s.formats) : SameFramePoints s s' :=
  fun f => by rw [h]; exact ⟨rfl, rfl, rfl, rfl, rfl⟩

theorem SameFramePoints.trans {s s' s'' : State} (h : SameFramePoints s s') (h' : SameFramePoints s' s'') : SameFramePoints s s'' :=
  fun f => ⟨(h' f).pi.trans (h f).pi, (h' f).pn.trans (h f).pn, (h' f).pd.trans (h f).pd, (h' f).epoch.trans (h f).epoch,
    (h' f).epochFrame.trans (h f).epochFrame⟩

theorem formatOf_frames {s s' : State} (h : SameFramePoints s s') (hd : s'.dests = s.dests) (d : DestNo) :
    SameFrames (formatOf s d) (formatOf s' d) := by
  unfold formatOf
  rw [hd]
  cases (s.dests.get d).format with
  | none => exact ⟨rfl, rfl, rfl, rfl, rfl⟩
  | some f => exact h f

theorem pointFrom_congr {s s' : State} (h : SameFramePoints s s') (hd : s'.dests = s.dests) (d : DestNo) (x : Time) :
    pointFrom s' d x = pointFrom s d x := by
  unfold pointFrom
  rw [firstPoint_congr (formatOf_frames h hd d), hd]

theorem placeFor_congr {s s' : State} (h : SameFramePoints s s') (hd : s'.dests = s.dests) (hm : s'.margin = s.margin) (d : DestNo)
    (mode : TargetMode) (x : Time) (n : BitVec 16) : placeFor s' d mode x n = placeFor s d mode x n := by
  unfold placeFor
  rw [switchPlace_congr (formatOf_frames h hd d), hd, hm]

/-! ## The service queue of a port after a run of requests (R97, R133) -/

theorem requestDisplays_get (ds : List DestNo) (s : State) (p : Port) : (requestDisplays ds s).ports.get p =
    (ds.filter fun d => (s.dests.get d).format.isSome && decide (portOf d = p)).foldl (fun x d => x.post .display (channelOf d))
      (s.ports.get p) := by
  induction ds generalizing s with
  | nil => rfl
  | cons d ds ih =>
    show (requestDisplays ds (requestDisplay d s)).ports.get p = _
    have dests : (requestDisplay d s).dests = s.dests := by simp
    rw [ih, dests, requestDisplay_get, List.filter_cons]
    by_cases here : (s.dests.get d).format.isSome ∧ portOf d = p
    · rw [if_pos here, if_pos (by simpa using here), List.foldl_cons]
    · rw [if_neg here, if_neg (by simpa using here)]

/-- Entries posted one after the other for channels that differ and have none queued. -/
theorem foldl_post_display (l : List Channel) (x : DropPort) (nodup : l.Nodup) (fresh : ∀ ch ∈ l, (⟨.display, ch⟩ : ServiceEntry) ∉ x.service) :
    l.foldl (fun x ch => x.post .display ch) x = { x with service := x.service ++ l.map fun ch => ⟨.display, ch⟩ } := by
  induction l generalizing x with
  | nil => simp
  | cons ch l ih =>
    obtain ⟨new, rest⟩ := List.nodup_cons.mp nodup
    have step : x.post .display ch = { x with service := x.service ++ [⟨.display, ch⟩] } := by
      rw [DropPort.post, if_neg (fresh ch (List.mem_cons_self ..))]
    rw [List.foldl_cons, step, ih _ rest fun c hc => ?_]
    · simp
    · have other : c ≠ ch := fun e => new (e ▸ hc)
      simpa [other] using fresh c (List.mem_cons_of_mem _ hc)

theorem channelOf_destOf (p : Port) (ch : Channel) : channelOf (destOf p ch) = ch := by
  apply Fin.ext
  simp only [channelOf, destOf]
  omega

/-- The destinations of a port, in ascending order, are those of its channels. -/
theorem filter_portOf : ∀ p : Port, (List.finRange 128).filter (fun d => decide (portOf d = p)) = (List.finRange 16).map (destOf p) := by
  decide

/-- The requests for every destination, to a port whose service queue is empty: one entry for each channel that has a format. -/
theorem requestDisplays_all_get {s : State} {p : Port} (empty : (s.ports.get p).service = []) :
    (requestDisplays (List.finRange 128) s).ports.get p = { s.ports.get p with
      service := ((List.finRange 16).filter fun ch => (s.dests.get (destOf p ch)).format.isSome).map fun ch => ⟨.display, ch⟩ } := by
  have channels : ((List.finRange 128).filter fun d => (s.dests.get d).format.isSome && decide (portOf d = p)) =
      ((List.finRange 16).filter fun ch => (s.dests.get (destOf p ch)).format.isSome).map (destOf p) := by
    rw [← List.filter_filter, filter_portOf, List.filter_map]
    rfl
  rw [requestDisplays_get, channels, List.foldl_map]
  simp only [channelOf_destOf]
  rw [foldl_post_display _ _ ((List.nodup_finRange 16).filter _) (by simp [empty]), empty]
  simp

/-! ## The warm reset (R181) -/

theorem warmRecords_frames (s : State) : SameFramePoints s (warmRecords s) := fun f => by
  simp only [warmRecords, evaluateAll, Tbl.get_mapIdx]
  exact ⟨rfl, rfl, rfl, rfl, rfl⟩

theorem warmReset_fill (s : State) (d : DestNo) : ((warmReset s).switching.get d).fill =
    if (s.dests.get d).format = none then none
    else if (s.dests.get d).current = none then some (pointFrom s d (s.houseTime + 1))
    else some (pointFrom s d (s.houseTime + BitVec.ofNat 48 ((formatOf s d).pi.toNat + 1))) := by
  rw [warmReset_switching, warmSwitching]
  have dests : (warmRecords s).dests = s.dests := rfl
  have now : (warmRecords s).houseTime = s.houseTime := rfl
  simp only [warmFill, dests, now, pointFrom_congr (warmRecords_frames s) dests, (formatOf_frames (warmRecords_frames s) dests d).pi]
  cases (s.dests.get d).format with
  | none => rfl
  | some f =>
    cases (s.dests.get d).current with
    | none => rfl
    | some n => exact congrArg (fun x => some (pointFrom s d x)) (addTicks_natCast ..)

/-- No source is LOCKED after a warm reset, so no format is tracking. -/
theorem isTracking_warm (s : State) (f : FormatNo) (x : Format) : isTracking (s.sources.map Source.warm) f x = false := by
  have unlocked : ∀ n, (s.sources.get n).warm.state ≠ .locked := fun n => by
    show (match (s.sources.get n).state with
      | .undefined => .undefined
      | .absent => .absent
      | .acquiring | .locked | .lost => .acquiring) ≠ SourceState.locked
    split <;> simp
  unfold isTracking
  cases x.cadence with
  | none => simp
  | some n => simp [unlocked]

theorem warmReset_ports (s : State) (p : Port) : (warmReset s).ports.get p = { s.ports.get p with
    essence := [], passedOver := 0, sent := 0, refused := 0, coalesced := 0,
    service := ((List.finRange 16).filter fun ch => (s.dests.get (destOf p ch)).format.isSome).map fun ch => ⟨.display, ch⟩ } := by
  have before : (warmBlocks (warmRecords s)).ports.get p = { (s.ports.get p).warm with sent := 0, refused := 0, coalesced := 0 } := by
    simp [warmBlocks, clearCounters, warmRecords, evaluateAll]
  have dests : (warmBlocks (warmRecords s)).dests = s.dests := rfl
  rw [warmReset, requestDisplays_all_get (by rw [before]; rfl), before, dests]
  rfl

/-- The records that the warm reset sets to one value, and those it keeps. -/
theorem warmReset_records (s : State) : warmReset s = { s with
    arms := Tbl.fill 8 .clear, active := Tbl.fill 128 none, follow := Tbl.fill 128 none,
    salvos := Tbl.fill 32 SalvoSlot.empty, pool := [], poolExhausted := 0, contexts := Tbl.fill 8 ⟨[], 0⟩,
    returns := Tbl.fill 8 ReturnTx.reset, mode := s.mode.warm,
    formats := (warmReset s).formats, sources := (warmReset s).sources, switching := (warmReset s).switching,
    ports := (warmReset s).ports, receivers := (warmReset s).receivers } := by
  have contexts : (warmReset s).contexts = Tbl.fill 8 ⟨[], 0⟩ := Tbl.ext_get fun t => by
    simp [warmReset, warmBlocks, clearCounters, warmRecords, evaluateAll]
  have returns : (warmReset s).returns = Tbl.fill 8 ReturnTx.reset := Tbl.ext_get fun t => by
    simp [warmReset, warmBlocks, clearCounters, ReturnTx.reset]
  apply State.ext
  case contexts => exact contexts
  case returns => exact returns
  case mode => exact warmReset_mode s
  all_goals simp [warmReset, warmBlocks, clearCounters, warmRecords, evaluateAll]

theorem warm_state (r : Source) : r.warm = { r with
    state := if r.state = .locked ∨ r.state = .lost then .acquiring else r.state
    lastCapture := none, frameWatch := none, lastSeq := none, inWindow := 0, outWindow := 0 } := by
  unfold Source.warm
  cases h : r.state <;> simp

/-- Settles O56: by the arm in hand; the warm reset record by record. -/
theorem warmResetKeepsAndClears : Obligations.WarmResetKeepsAndClears := by
  unfold Obligations.WarmResetKeepsAndClears
  intro t h s hr
  refine ⟨fun arm => ?_, fun arm => ⟨warmReset (headTaken s t), ?_, ?_, fun n => ?_, fun f => ?_, fun d => ?_, fun p => ?_, fun u => ?_⟩⟩
  · exact (exec_reset ..).trans (executeCommand_refused hr (if_neg arm))
  · have code : modeCode (warmReset (headTaken s t)).mode = if s.mode = .run then 0 else 2 := by
      rw [warmReset_mode]
      show modeCode s.mode.warm = _
      cases s.mode <;> rfl
    refine (exec_reset ..).trans (executeCommand_of_act hr ((if_pos arm).trans ?_))
    rw [← code]
    rfl
  · have mode : s.mode.warm = if s.mode = .run then .run else .held := by cases s.mode <;> rfl
    rw [← mode]
    exact warmReset_records (headTaken s t)
  · rw [warmReset_sources_get, warm_state]
    rfl
  · rw [warmReset_formats_get, isTracking_warm]
    rfl
  · have fill : ((warmReset (headTaken s t)).switching.get d).fill = if (s.dests.get d).format = none then none
        else if (s.dests.get d).current = none then some (pointFrom s d (s.houseTime + 1))
        else some (pointFrom s d (s.houseTime + BitVec.ofNat 48 ((formatOf s d).pi.toNat + 1))) := warmReset_fill (headTaken s t) d
    refine ⟨?_, ?_, fill⟩
    · rw [warmReset_switching, warmSwitching]
      show Cut.steady (if (s.dests.get d).format.isSome then (s.dests.get d).current else none) .waiting = _
      cases (s.dests.get d).format <;> rfl
    · rw [fill]
      cases (s.dests.get d).format with
      | none => rfl
      | some f => cases (s.dests.get d).current <;> rfl
  · exact warmReset_ports (headTaken s t) p
  · simp [warmReset, warmBlocks, clearCounters, warmRecords, evaluateAll, Receiver.warm, Receiver.reset]

end Sys2Proof.Machine
end

section
/-! SUPPORT. Takes removed and made known (R65, R66, R114): what an ended take tells the reports and the slots depends on these and on now
alone, so a run of removals tells what a list of takes tells. TIMESET's cancellations (R4). -/

namespace Sys2Proof.Machine

/-! ## Telling the end of takes -/

/-- Everything that the end of a take reads and changes is the same. -/
structure SameTold (u v : State) : Prop where
  now : u.houseTime = v.houseTime
  salvos : u.salvos = v.salvos
  returns : u.returns = v.returns

theorem SameTold.refl (s : State) : SameTold s s := ⟨rfl, rfl, rfl⟩

theorem SameTold.symm {u v : State} (h : SameTold u v) : SameTold v u := ⟨h.now.symm, h.salvos.symm, h.returns.symm⟩

theorem SameTold.trans {u v w : State} (h : SameTold u v) (h' : SameTold v w) : SameTold u w :=
  ⟨h.now.trans h'.now, h.salvos.trans h'.salvos, h.returns.trans h'.returns⟩

theorem salvoNotice_told {u v : State} (h : SameTold u v) (m : SlotNo) (out : TakeOutcome) :
    SameTold (salvoNotice m out u) (salvoNotice m out v) := by
  have plain : SameTold (u.updSalvo m (·.ended out)) (v.updSalvo m (·.ended out)) :=
    ⟨h.now, congrArg (·.modify m (·.ended out)) h.salvos, h.returns⟩
  have reported : ∀ t r, SameTold (queueReport t r (u.updSalvo m (·.ended out))) (queueReport t r (v.updSalvo m (·.ended out))) :=
    fun t r => ⟨h.now, plain.salvos, congrArg (·.modify t (·.push r)) h.returns⟩
  unfold salvoNotice
  rw [h.salvos, h.now]
  dsimp only
  split
  · split
    · exact reported _ _
    · exact plain
  · exact plain

theorem notifyEnd_told {u v : State} (h : SameTold u v) (d : DestNo) (k : Take) (out : TakeOutcome) :
    SameTold (notifyEnd d k out u) (notifyEnd d k out v) := by
  unfold notifyEnd
  cases k.salvo with
  | some m => exact salvoNotice_told h m out
  | none =>
    dsimp only
    split
    · exact h
    · rw [h.now]
      exact ⟨h.now, h.salvos, congrArg (fun x => x.modify k.trunk
        (·.push (.takeDone d k.tag out k.source k.late k.placed v.houseTime))) h.returns⟩

/-- The ends of a list of takes made known, one after the other. -/
def tell (out : TakeOutcome) (l : List (DestNo × Take)) (s : State) : State := l.foldl (fun u x => notifyEnd x.1 x.2 out u) s

theorem tell_told {u v : State} (h : SameTold u v) (out : TakeOutcome) (l : List (DestNo × Take)) :
    SameTold (tell out l u) (tell out l v) := by
  induction l generalizing u v with
  | nil => exact h
  | cons x l ih => exact ih (notifyEnd_told h x.1 x.2 out)

theorem tell_append (out : TakeOutcome) (l l' : List (DestNo × Take)) (s : State) :
    tell out (l ++ l') s = tell out l' (tell out l s) := List.foldl_append ..

/-- The take that the active position of a destination holds, if it holds one. -/
def heldAt (s : State) (d : DestNo) : List (DestNo × Take) := (s.active.get d).toList.map fun k => (d, k)

/-- The take that the follow position of a destination holds, if it holds one. -/
def followAt (s : State) (d : DestNo) : List (DestNo × Take) := (s.follow.get d).toList.map fun k => (d, k)

/-- The takes that leave with the one in the active position of `d`: itself and its bound partner. -/
def leaving (s : State) (d : DestNo) : List (DestNo × Take) :=
  heldAt s d ++ ((boundPartner s d).toList.filter (· ≠ d)).flatMap (heldAt s)

theorem leaving_eq (s : State) (d : DestNo) : leaving s d =
    match boundPartner s d with
    | none => heldAt s d
    | some e => if e = d then heldAt s d else heldAt s d ++ heldAt s e := by
  unfold leaving
  cases boundPartner s d with
  | none => simp
  | some e => by_cases h : e = d <;> simp [h]

theorem removeActive_told (d : DestNo) (out : TakeOutcome) (s : State) :
    SameTold (removeActive d out s) (tell out (heldAt s d) s) := by
  cases h : s.active.get d with
  | none =>
    rw [removeActive_none h, heldAt, h]
    exact .refl s
  | some k =>
    rw [removeActive_some h, heldAt, h]
    exact notifyEnd_told (u := s.setActive d none) (v := s) ⟨rfl, rfl, rfl⟩ d k out

theorem removeFollow_told (d : DestNo) (out : TakeOutcome) (s : State) :
    SameTold (removeFollow d out s) (tell out (followAt s d) s) := by
  cases h : s.follow.get d with
  | none =>
    rw [removeFollow_none h, followAt, h]
    exact .refl s
  | some k =>
    have step : removeFollow d out s = notifyEnd d k out (s.setFollow d none) := by simp [removeFollow, h]
    rw [step, followAt, h]
    exact notifyEnd_told (u := s.setFollow d none) (v := s) ⟨rfl, rfl, rfl⟩ d k out

/-- Removing an ARMED take tells what it and its partner tell. -/
theorem removeArmed_told (d : DestNo) (out : TakeOutcome) (s : State) :
    SameTold (removeArmed d out s) (tell out (leaving s d) s) := by
  rw [leaving_eq]
  unfold removeArmed
  cases boundPartner s d with
  | none => exact removeActive_told d out s
  | some e =>
    dsimp only
    have first := removeActive_told d out s
    by_cases h : e = d
    · rw [if_pos h, h, removeActive_none (removeActive_get .. |>.trans (if_pos rfl))]
      exact first
    · rw [if_neg h, tell_append]
      have same : heldAt (removeActive d out s) e = heldAt s e := by
        rw [heldAt, removeActive_get, if_neg (Ne.symm h), heldAt]
      exact (removeActive_told e out _).trans (same ▸ tell_told first out _)

/-! ## Runs of removals -/

/-- A property of the destinations run through and the state, kept by each of a run. -/
theorem foldl_prefix {α β : Type} {P : List α → β → Prop} {f : β → α → β} {l : List α} {b : β} (start : P [] b)
    (step : ∀ pre a post x, l = pre ++ a :: post → P pre x → P (pre ++ [a]) (f x a)) : P l (l.foldl f b) := by
  suffices h : ∀ post pre x, l = pre ++ post → P pre x → P l (post.foldl f x) from h l [] b rfl start
  intro post
  induction post with
  | nil =>
    intro pre x e h
    rwa [e, List.append_nil]
  | cons a post ih =>
    intro pre x e h
    exact ih (pre ++ [a]) (f x a) (by rw [e, List.append_assoc, List.singleton_append]) (step pre a post x e h)

/-- In a list ordered by `r`, the members before one are those that `r` puts before it. -/
theorem mem_before_iff {α : Type} {r : α → α → Prop} (asymm : ∀ a b, r a b → ¬r b a) {l pre post : List α} {a : α}
    (ordered : l.Pairwise r) (e : l = pre ++ a :: post) (b : α) : b ∈ pre ↔ b ∈ l ∧ r b a := by
  subst e
  obtain ⟨-, tail, across⟩ := List.pairwise_append.mp ordered
  obtain ⟨after, -⟩ := List.pairwise_cons.mp tail
  refine ⟨fun h => ⟨List.mem_append_left _ h, across b h a (List.mem_cons_self ..)⟩, fun ⟨h, before⟩ => ?_⟩
  rcases List.mem_append.mp h with h | h
  · exact h
  · rcases List.mem_cons.mp h with rfl | h
    · exact absurd before (asymm _ _ before)
    · exact absurd before (asymm _ _ (after b h))

/-- In `x` the takes of the destinations `D` of `s` have been dealt with: a destination outside `D` keeps its take but for one bound to `D`,
and no take of `D` is bound any more. -/
structure DealtWith (s : State) (D : DestNo → Prop) (x : State) : Prop where
  kept : ∀ e, ¬D e → (∀ p, boundPartner s e = some p → ¬D p) → x.active.get e = s.active.get e
  gone : ∀ e p, ¬D e → boundPartner s e = some p → D p → x.active.get e = none
  unbound : ∀ e, D e → boundPartner x e = none

/-- The partner of a destination not dealt with yet, as it stands now. -/
theorem DealtWith.boundPartner {s x : State} {D : DestNo → Prop} (h : DealtWith s D x) {d : DestNo} (hd : ¬D d)
    (free : ∀ p, Machine.boundPartner s d = some p → ¬D p) : Machine.boundPartner x d = Machine.boundPartner s d := by
  have own : x.active.get d = s.active.get d := h.kept d hd free
  cases hp : Machine.boundPartner s d with
  | some p =>
    have partner : x.active.get p = s.active.get p := h.kept p (free p hp) fun q hq => by
      rw [boundPartner_symm hp] at hq
      cases hq
      exact hd
    rw [boundPartner_iff] at hp ⊢
    rwa [own, partner]
  | none =>
    by_contra hn
    obtain ⟨p, hx⟩ := Option.ne_none_iff_exists'.mp hn
    have outside : ¬D p := fun inside => by
      have := boundPartner_symm hx
      rw [h.unbound p inside] at this
      cases this
    obtain ⟨k, q, hk, hq, ka, qa, kp, qp⟩ := boundPartner_some hx
    have same : x.active.get p = s.active.get p := h.kept p outside fun r hr inside => by
      rw [h.gone p r outside hr inside] at hq
      cases hq
    have bound : Machine.boundPartner s d = some p := boundPartner_iff.mpr ⟨k, q, own ▸ hk, same ▸ hq, ka, qa, kp, qp⟩
    rw [hp] at bound
    cases bound

/-- What leaves with a take not dealt with yet. -/
theorem DealtWith.leaving {s x : State} {D : DestNo → Prop} (h : DealtWith s D x) {d : DestNo} (hd : ¬D d)
    (free : ∀ p, Machine.boundPartner s d = some p → ¬D p) : Machine.leaving x d = Machine.leaving s d := by
  have own : heldAt x d = heldAt s d := by rw [heldAt, h.kept d hd free, heldAt]
  rw [leaving_eq, leaving_eq, h.boundPartner hd free, own]
  cases hp : Machine.boundPartner s d with
  | none => rfl
  | some p =>
    have partner : heldAt x p = heldAt s p := by
      rw [heldAt, h.kept p (free p hp) (fun q hq => by rw [boundPartner_symm hp] at hq; cases hq; exact hd), heldAt]
    simp only [partner]

/-! ## TIMESET's cancellations (R4) -/

/-- What the cancellation of a destination's take tells, in ascending order: a partner further on goes with it. -/
def cancelledAt (s : State) (d : DestNo) : List (DestNo × Take) :=
  if isArmed (s.active.get d) = false then []
  else match boundPartner s d with
    | none => heldAt s d
    | some e => if e < d then [] else if e = d then heldAt s d else heldAt s d ++ heldAt s e

/-- The state of `cancelAllArmed` when it has run through the destinations `pre`. -/
structure CancelledSoFar (s : State) (pre : List DestNo) (x : State) : Prop where
  active : ∀ e, x.active.get e =
    if isArmed (s.active.get e) = true ∧ (e ∈ pre ∨ ∃ p ∈ pre, boundPartner s e = some p) then none else s.active.get e
  told : SameTold x (tell .cancelled (pre.flatMap (cancelledAt s)) s)

theorem armed_of_bound {s : State} {d p : DestNo} (h : boundPartner s d = some p) : isArmed (s.active.get d) = true := by
  obtain ⟨k, -, hk, -, ka, -⟩ := boundPartner_some h
  exact isArmed_iff.mpr ⟨k, hk, ka⟩

theorem CancelledSoFar.dealt {s x : State} {pre : List DestNo} (h : CancelledSoFar s pre x) : DealtWith s (· ∈ pre) x where
  kept e he free := by
    rw [h.active, if_neg]
    rintro ⟨-, inside | ⟨p, hp, hb⟩⟩
    · exact he inside
    · exact free p hb hp
  gone e p he hb hp := by rw [h.active, if_pos ⟨armed_of_bound hb, .inr ⟨p, hp, hb⟩⟩]
  unbound e he := by
    by_cases armed : isArmed (s.active.get e) = true
    · exact boundPartner_empty (by rw [h.active, if_pos ⟨armed, .inl he⟩])
    · refine boundPartner_not_armed ?_
      rw [h.active, if_neg (fun both => armed both.1)]
      simpa using armed

/-- One destination more: its take and the one bound to it are gone, and what they tell is told. -/
theorem CancelledSoFar.extend {s x x' : State} {pre : List DestNo} {d : DestNo} (h : CancelledSoFar s pre x)
    (gone : ∀ e, isArmed (s.active.get e) = true → e = d ∨ boundPartner s e = some d → x'.active.get e = none)
    (kept : ∀ e, ¬(isArmed (s.active.get e) = true ∧ (e = d ∨ boundPartner s e = some d)) → x'.active.get e = x.active.get e)
    (told : SameTold x' (tell .cancelled (cancelledAt s d) x)) : CancelledSoFar s (pre ++ [d]) x' where
  active e := by
    by_cases new : isArmed (s.active.get e) = true ∧ (e = d ∨ boundPartner s e = some d)
    · have reached : e ∈ pre ++ [d] ∨ ∃ p ∈ pre ++ [d], boundPartner s e = some p :=
        new.2.imp (fun own => by simp [own]) fun hb => ⟨d, by simp, hb⟩
      rw [gone e new.1 new.2, if_pos ⟨new.1, reached⟩]
    · rw [kept e new, h.active]
      refine if_congr (and_congr_right fun armed => ?_) rfl rfl
      have other : e ≠ d ∧ boundPartner s e ≠ some d := ⟨fun he => new ⟨armed, .inl he⟩, fun hb => new ⟨armed, .inr hb⟩⟩
      simp only [List.mem_append, List.mem_singleton, other.1, or_false]
      refine or_congr_right ⟨fun ⟨p, hp, hb⟩ => ⟨p, .inl hp, hb⟩, fun ⟨p, hp, hb⟩ => ⟨p, hp.resolve_right ?_, hb⟩⟩
      exact fun hpd => other.2 (hpd ▸ hb)
  told := by
    have list : (pre ++ [d]).flatMap (cancelledAt s) = pre.flatMap (cancelledAt s) ++ cancelledAt s d := by simp
    rw [list, tell_append]
    exact told.trans (tell_told h.told ..)

theorem CancelledSoFar.step {s x : State} {pre post : List DestNo} {d : DestNo} (e : List.finRange 128 = pre ++ d :: post)
    (h : CancelledSoFar s pre x) :
    CancelledSoFar s (pre ++ [d]) (if isArmed (x.active.get d) then removeArmed d .cancelled x else x) := by
  have before : ∀ p, p ∈ pre ↔ p < d := fun p => by
    simpa using mem_before_iff (r := (· < ·)) (fun _ _ => lt_asymm) (List.pairwise_lt_finRange 128) e p
  have new : d ∉ pre := fun inside => lt_irrefl d ((before d).mp inside)
  by_cases armed : isArmed (s.active.get d) = true
  · by_cases partner : ∃ p ∈ pre, boundPartner s d = some p
    · obtain ⟨p, hp, hb⟩ := partner
      have none : x.active.get d = none := h.dealt.gone d p new hb hp
      have quiet : cancelledAt s d = [] := by simp [cancelledAt, armed, hb, (before p).mp hp]
      rw [none, if_neg (by simp [isArmed])]
      refine h.extend (fun c hc own => ?_) (fun _ _ => rfl) (quiet ▸ .refl x)
      rcases own with rfl | hcd
      · exact none
      · obtain rfl : p = c := Option.some.inj (hb.symm.trans (boundPartner_symm hcd))
        rw [h.active, if_pos ⟨hc, .inl hp⟩]
    · have free : ∀ p, boundPartner s d = some p → p ∉ pre := fun p hb hp => partner ⟨p, hp, hb⟩
      have own : x.active.get d = s.active.get d := h.dealt.kept d new free
      have leaves : cancelledAt s d = leaving x d := by
        rw [h.dealt.leaving new free, leaving_eq, cancelledAt, if_neg (by simp [armed])]
        cases hb : boundPartner s d with
        | none => rfl
        | some p => exact if_neg fun lt => free p hb ((before p).mpr lt)
      rw [own, if_pos armed]
      refine h.extend (fun c hc leaving => ?_) (fun c hc => ?_) (leaves ▸ removeArmed_told d .cancelled x) <;>
        rw [removeArmed_get, h.dealt.boundPartner new free]
      · rw [if_pos (leaving.imp Eq.symm boundPartner_symm)]
      · rw [if_neg]
        rintro (rfl | hb)
        · exact hc ⟨armed, .inl rfl⟩
        · exact hc ⟨armed_of_bound (boundPartner_symm hb), .inr (boundPartner_symm hb)⟩
  · have unbound : boundPartner s d = none := boundPartner_not_armed (by simpa using armed)
    have own : x.active.get d = s.active.get d := h.dealt.kept d new fun p hb => by simp [unbound] at hb
    have quiet : cancelledAt s d = [] := by simp [cancelledAt, armed]
    rw [own, if_neg armed]
    refine h.extend (fun c hc leaving => ?_) (fun _ _ => rfl) (quiet ▸ .refl x)
    rcases leaving with rfl | hb
    · exact absurd hc armed
    · exact absurd (armed_of_bound (boundPartner_symm hb)) armed

theorem cancelAllArmed_done (s : State) : CancelledSoFar s (List.finRange 128) (cancelAllArmed s) := by
  unfold cancelAllArmed
  refine foldl_prefix (P := CancelledSoFar s) ⟨fun e => ?_, .refl s⟩ fun pre d post x e h => h.step e
  rw [if_neg]
  simp

theorem cancelAllArmed_get (s : State) (d : DestNo) :
    (cancelAllArmed s).active.get d = if isArmed (s.active.get d) then none else s.active.get d := by
  rw [(cancelAllArmed_done s).active]
  exact if_congr ⟨And.left, fun armed => ⟨armed, .inl (List.mem_finRange d)⟩⟩ rfl rfl

/-- Settles O18: the cancellations, destination by destination, and then the shift of every held time. -/
theorem timesetShiftsEveryTime : Obligations.TimesetShiftsEveryTime := by
  unfold Obligations.TimesetShiftsEveryTime
  intro t h v s hr
  refine ⟨fun hm => (exec_timeset ..).trans (executeCommand_refused hr (if_pos hm)), fun hm => ?_⟩
  have act : actTimeset v (headTaken s t) =
      ⟨shiftTimes v (displayVacated (headTaken s t) (cancelAllArmed (headTaken s t))), .ok, [countField (s.active.count isArmed)]⟩ :=
    if_neg (not_not.mpr hm)
  have active : ∀ d, (cancelAllArmed (headTaken s t)).active.get d = if isArmed (s.active.get d) then none else s.active.get d :=
    cancelAllArmed_get (headTaken s t)
  have vacated : ((List.finRange 128).filter fun d => ((headTaken s t).active.get d).isSome &&
      ((cancelAllArmed (headTaken s t)).active.get d).isNone) = (List.finRange 128).filter fun d => isArmed (s.active.get d) := by
    refine List.filter_congr fun d _ => ?_
    rw [active]
    show ((s.active.get d).isSome && _) = _
    cases s.active.get d with
    | none => rfl
    | some k => by_cases armed : isArmed (some k) = true <;> simp [armed]
  refine ⟨_, (exec_timeset ..).trans (executeCommand_of_act hr act), ?_, fun f => ?_, fun n => ?_, fun d => ⟨?_, ?_⟩, fun d => ?_, ?_⟩
  · apply State.ext <;> simp [shiftTimes]
  · simp [shiftTimes]
  · simp [shiftTimes]
  · simp [shiftTimes]
  · have cut : ((shiftTimes v (displayVacated (headTaken s t) (cancelAllArmed (headTaken s t)))).switching.get d).cut =
        (s.switching.get d).cut.shifted (v - s.houseTime) := by simp [shiftTimes]
    rw [cut]
    cases (s.switching.get d).cut <;> rfl
  · simp [shiftTimes, active]
  · intro held removed told
    have all : SameTold (cancelAllArmed (headTaken s t)) told :=
      (cancelAllArmed_done _).told.trans (tell_told (u := headTaken s t) (v := s) ⟨rfl, rfl, rfl⟩ ..)
    refine ⟨?_, ?_, ?_⟩
    · simpa [shiftTimes] using all.salvos
    · simpa [shiftTimes] using all.returns
    · show (displayVacated (headTaken s t) (cancelAllArmed (headTaken s t))).ports = _
      rw [displayVacated, vacated]
      exact requestDisplays_ports_congr _ (by simp) (by simp)

end Sys2Proof.Machine
end

section
/-! SUPPORT. The Cadence Unit's arithmetic (R10–R14, R16) and FORMAT_DEFINE (R6–R8, R18). -/

namespace Sys2Proof.Machine

/-! ## Frame points (R10, R11) -/

/-- The ticks from the first frame point to that of frame `k` (R10). -/
def Format.ahead (f : Format) (k : Nat) : Nat := k * f.pi.toNat + k * f.pn.toNat / f.pd.toNat

theorem framePoint_eq (f : Format) (o : Int) (k : Nat) : framePoint f o k = f.epoch + BitVec.ofInt 48 (o + f.ahead k) := by
  rw [framePoint, addTicks, Format.ahead]
  push_cast
  rw [add_assoc]

theorem ahead_eq (f : Format) (k : Nat) (pd : 0 < f.pd.toNat) : f.ahead k = k * f.g / f.pd.toNat := by
  have sum : k * f.g = k * f.pn.toNat + k * f.pi.toNat * f.pd.toNat := by rw [Format.g]; ring
  rw [sum, Nat.add_mul_div_right _ _ pd, Format.ahead, Nat.add_comm]

/-- A frame is at or after `a` ticks from the first when as many periods cover them. -/
theorem le_ahead_iff (f : Format) (a k : Nat) (pd : 0 < f.pd.toNat) : a ≤ f.ahead k ↔ a * f.pd.toNat ≤ k * f.g := by
  rw [ahead_eq f k pd, Nat.le_div_iff_mul_le pd]

/-- Frame `k` is the least whose point is not `v` ticks before (R11). -/
def IsLeastFrame (f : Format) (v : Int) (k : Nat) : Prop := v ≤ f.ahead k ∧ ∀ j < k, (f.ahead j : Int) < v

theorem isLeastFrame_unique {f : Format} {v : Int} {k j : Nat} (h : IsLeastFrame f v k) (h' : IsLeastFrame f v j) : k = j := by
  rcases lt_trichotomy k j with lt | eq | gt
  · exact absurd (h'.2 k lt) (not_lt.mpr h.1)
  · exact eq
  · exact absurd (h.2 j gt) (not_lt.mpr h'.1)

/-- The frame found is the least. -/
theorem frameFrom_isLeast (f : Format) (o : Int) (x : Time) (pd : 0 < f.pd.toNat) (g : 0 < f.g) :
    IsLeastFrame f (x - (f.epoch + BitVec.ofInt 48 o)).toInt (frameFrom f o x) := by
  have found : frameFrom f o x = if (x - (f.epoch + BitVec.ofInt 48 o)).toInt ≤ 0 then 0
      else ((x - (f.epoch + BitVec.ofInt 48 o)).toInt.toNat * f.pd.toNat + f.g - 1) / f.g := rfl
  rw [found]
  generalize (x - (f.epoch + BitVec.ofInt 48 o)).toInt = v
  by_cases past : v ≤ 0
  · rw [if_pos past]
    exact ⟨past.trans (Int.natCast_nonneg _), fun j hj => absurd hj (Nat.not_lt_zero j)⟩
  · rw [if_neg past]
    obtain ⟨a, rfl⟩ := Int.eq_ofNat_of_zero_le (le_of_not_ge past)
    have covers : ∀ k, a * f.pd.toNat ≤ k * f.g ↔ (a * f.pd.toNat + f.g - 1) / f.g ≤ k := fun k => by
      rw [Nat.div_le_iff_le_mul_add_pred g, Nat.mul_comm k]
      omega
    refine ⟨?_, fun j hj => ?_⟩
    · exact Int.ofNat_le.mpr ((le_ahead_iff f a _ pd).mpr ((covers _).mpr le_rfl))
    · exact Int.ofNat_lt.mpr (not_le.mp fun le => not_le.mpr hj ((covers j).mp ((le_ahead_iff f a j pd).mp le)))

/-! ## Measuring a source (R13, R14) -/

theorem intervalInWindow_iff (f : Format) (l c : Time) : intervalInWindow f l c = true ↔
    |(f.pd.toNat : Int) * (c - l).toInt - f.g| ≤ f.pd.toNat * f.wl.toNat := by
  rw [intervalInWindow, decide_eq_true_iff, Int.abs_eq_natAbs, signedDiff]
  exact_mod_cast Iff.rfl

/-- Settles O15: the closed forms, and the least frame by the quotient that `frameFrom` takes. -/
theorem firstFramePointIsLeast : Obligations.FirstFramePointIsLeast := by
  unfold Obligations.FirstFramePointIsLeast
  refine ⟨?_, ?_, fun s d f x mode n format => ?_⟩
  · intro f o x m n pd g ahead point number least
    have found : ∀ y, IsLeastFrame f (y - (f.epoch + BitVec.ofInt 48 o)).toInt (frameFrom f o y) :=
      fun y => frameFrom_isLeast f o y pd g
    refine ⟨fun k => ⟨framePoint_eq f o k, rfl⟩, found x, fun k hk => ?_, fun k hk => ?_⟩
    · rw [firstPoint, isLeastFrame_unique (found x) hk]
      exact framePoint_eq f o k
    · rw [switchPlace, addTicks_natCast, isLeastFrame_unique (found _) hk]
      exact congrArg (Placed.mk · _) (framePoint_eq f o (k + n))
  · intro f l c g age j
    refine ⟨rfl, ?_, intervalInWindow_iff f l c⟩
    rw [deviation, signedDiff, framePoint_eq, zero_add, BitVec.ofInt_natCast]
    rfl
  · have own : formatOf s d = s.formats.get f := by rw [formatOf, format]
    refine ⟨own, ?_, ?_⟩
    · rw [pointFrom, own]
    · rw [placeFor, own]
      rfl

/-! ## Renormalisation (R16) -/

theorem renormalised_point (x : Format) (o : Int) (k : Nat) (pd : 0 < x.pd.toNat) :
    framePoint x.renormalised o k = framePoint x o (k + 2 ^ 39 / x.g * x.pd.toNat) := by
  have later : x.ahead (k + 2 ^ 39 / x.g * x.pd.toNat) = x.ahead k + 2 ^ 39 / x.g * x.g := by
    rw [ahead_eq x _ pd, ahead_eq x _ pd]
    have sum : (k + 2 ^ 39 / x.g * x.pd.toNat) * x.g = k * x.g + 2 ^ 39 / x.g * x.g * x.pd.toNat := by ring
    rw [sum, Nat.add_mul_div_right _ _ pd]
  have same : x.renormalised.ahead k = x.ahead k := rfl
  have epoch : x.renormalised.epoch = x.epoch + BitVec.ofInt 48 (2 ^ 39 / x.g * x.g : Nat) := rfl
  rw [framePoint_eq, framePoint_eq, later, same, epoch, BitVec.add_assoc, ← BitVec.ofInt_add]
  congr 2
  push_cast
  ring

/-- Settles O16. -/
theorem renormalisationKeepsFramePoints : Obligations.RenormalisationKeepsFramePoints := by
  unfold Obligations.RenormalisationKeepsFramePoints
  intro f s defined due pd x q y
  have moved : x.renormalised = y := by
    show ({ x with epoch := addTicks x.epoch (q * x.g : Nat), epochFrame := x.epochFrame + BitVec.ofNat 32 (q * x.pd.toNat) } : Format) = y
    rw [addTicks_natCast]
  refine ⟨?_, fun o k => ⟨?_, ?_⟩⟩
  · have time : renormalTime x = addTicks x.epoch (2 ^ 40) := by
      rw [renormalTime, Config.renormalAge]
      norm_num
    show execRenormalisation f s = _
    rw [execRenormalisation, if_pos (Bool.and_eq_true_iff.mpr ⟨defined, time ▸ due⟩), State.updFormat, Tbl.modify_eq_set]
    exact congrArg (fun v => Host.Outcome.next { s with formats := s.formats.set f v }) moved
  · rw [← moved]
    exact renormalised_point x o k pd
  · show x.epochFrame + BitVec.ofNat 32 (q * x.pd.toNat) + BitVec.ofNat 32 k = x.epochFrame + BitVec.ofNat 32 (k + q * x.pd.toNat)
    rw [BitVec.add_assoc, ← BitVec.ofNat_add, Nat.add_comm]

/-! ## Recomputation and realignment of a destination with a format (R17, R18, R90) -/

/-- An ARMED take recomputed, written out (R18). -/
theorem recomputed_armed {s : State} {d : DestNo} {f : FormatNo} {k : Take} (format : (s.dests.get d).format = some f)
    (armed : k.state = .armed) : recomputed s d k =
      let p := switchPlace (s.formats.get f) (s.dests.get d).offset s.margin k.target (if k.mode = .frames then k.frames.toNat else 0)
      let q := switchPlace (s.formats.get f) (s.dests.get d).offset s.margin s.houseTime 0
      if isDue s (addTicks p.switchPoint (-s.margin)) then
        { k with mode := .next, target := s.houseTime, frames := 0, late := true, placed := some q }
      else { k with placed := some p } := by
  have own : formatOf s d = s.formats.get f := by rw [formatOf, format]
  have due : mustRetarget s d k = isDue s (addTicks (switchPlace (s.formats.get f) (s.dests.get d).offset s.margin k.target
      (if k.mode = .frames then k.frames.toNat else 0)).switchPoint (-s.margin)) := by
    rw [← own]
    rfl
  rw [recomputed, due, ← own]
  cases k
  cases armed
  rfl

/-- A switching record realigned: its cut stands, and an active fill timer takes the first frame point after now (R90). -/
theorem realigned_get {s : State} {p : DestNo → Bool} (d : DestNo) :
    ((realignFill p s).switching.get d).cut = (s.switching.get d).cut ∧
      ((realignFill p s).switching.get d).fill = if p d then (s.switching.get d).fill.map fun _ => pointFrom s d (s.houseTime + 1)
        else (s.switching.get d).fill := by
  refine ⟨realignFill_cut p s d, ?_⟩
  rw [realignFill_get]
  cases hp : p d with
  | false => simp
  | true => cases hf : (s.switching.get d).fill <;> simp [hf]

theorem pointFrom_format {s : State} {d : DestNo} {f : FormatNo} (format : (s.dests.get d).format = some f) (x : Time) :
    pointFrom s d x = firstPoint (s.formats.get f) (s.dests.get d).offset x := by
  have own : formatOf s d = s.formats.get f := by rw [formatOf, format]
  rw [pointFrom, own]

/-! ## FORMAT_DEFINE (R6–R8) -/

theorem badPeriod_false {pi : BitVec 24} {pn pd : BitVec 16} : badPeriod pi pn pd = false ↔
    10000 ≤ pi.toNat ∧ 1 ≤ pd.toNat ∧ pd.toNat ≤ 4095 ∧ pn.toNat < pd.toNat := by
  have minPeriod : Config.minPeriod = 10000 := rfl
  have maxDenominator : Config.maxDenominator = 4095 := rfl
  simp only [badPeriod, minPeriod, maxDenominator, Bool.or_eq_false_iff, decide_eq_false_iff_not]
  omega

theorem sourceOperand_none {b : Byte} : sourceOperand b = none ↔ 128 ≤ b.toNat ∧ b ≠ 255 := by
  unfold sourceOperand
  split
  · next all => simp [all]
  · next other => rw [Option.map_eq_none_iff, sourceNumber_none, and_iff_left other]

/-- The act of a define form whose operands are in range. -/
theorem actFormatDefine_define {fb cb : Byte} {pi : BitVec 24} {pn pd wl : BitVec 16} {f : FormatNo} {c : Option SourceNo} {s : State}
    (hm : s.mode = .held) (hf : fb.toNat = f.val) (range : badPeriod pi pn pd = false) (hc : sourceOperand cb = some c) :
    actFormatDefine fb (.define pi pn pd wl cb) s = defineFormat f ⟨pi, pn, pd, wl, c⟩ s := by
  simp only [actFormatDefine, if_neg (not_not.mpr hm), formatNumber_some.mpr hf, range, hc, Bool.false_eq_true, if_false]

theorem formatStored_dests (f : FormatNo) (c : Cadence) (s : State) : (formatStored f c s).dests = (redefineFormat f c s).dests := by
  rw [redefineFormat_eq]
  simp

theorem formatStored_formats (f : FormatNo) (c : Cadence) (s : State) : (formatStored f c s).formats = (redefineFormat f c s).formats := by
  rw [redefineFormat_eq]
  simp

theorem redefineFormat_format (f : FormatNo) (c : Cadence) (s : State) (d : DestNo) :
    ((redefineFormat f c s).dests.get d).format = (s.dests.get d).format := by
  rw [redefineFormat_dests, Tbl.get_map]
  split <;> rfl

theorem formatStored_named (f : FormatNo) (c : Cadence) (s : State) (d : DestNo) :
    hasFormat (formatStored f c s) f d = ((s.dests.get d).format == some f) := by
  rw [hasFormat, formatStored_dests, redefineFormat_format]

/-- The ARMED takes of the format's destinations are recomputed in the state that holds the new record and offsets (R7). -/
theorem redefineFormat_active_get (f : FormatNo) (c : Cadence) (s : State) (d : DestNo) : (redefineFormat f c s).active.get d =
    if (s.dests.get d).format = some f then
      (s.active.get d).map fun k => if k.state = .armed then recomputed (formatStored f c s) d k else k
    else s.active.get d := by
  have active : (formatStored f c s).active = s.active := by simp [formatStored]
  rw [redefineFormat_eq, show ∀ p x, (realignFill p x).active = x.active by simp, recomputeTakes_get, formatStored_named, active]
  simp only [beq_iff_eq]

/-- Its destinations' active fill timers are realigned there too. -/
theorem redefineFormat_fill (f : FormatNo) (c : Cadence) (s : State) (d : DestNo) :
    ((redefineFormat f c s).switching.get d).fill = if (s.dests.get d).format = some f then
        (s.switching.get d).fill.map fun _ =>
          firstPoint ((redefineFormat f c s).formats.get f) ((redefineFormat f c s).dests.get d).offset (s.houseTime + 1)
      else (s.switching.get d).fill := by
  have realigned := (realigned_get (s := recomputeTakes (hasFormat (formatStored f c s) f) (formatStored f c s))
    (p := hasFormat (formatStored f c s) f) d).2
  have switching : (recomputeTakes (hasFormat (formatStored f c s) f) (formatStored f c s)).switching = s.switching := by
    simp [formatStored]
  have formats : (recomputeTakes (hasFormat (formatStored f c s) f) (formatStored f c s)).formats = (redefineFormat f c s).formats := by
    simp [formatStored_formats]
  have dests : (recomputeTakes (hasFormat (formatStored f c s) f) (formatStored f c s)).dests = (redefineFormat f c s).dests := by
    simp [formatStored_dests]
  have now : (recomputeTakes (hasFormat (formatStored f c s) f) (formatStored f c s)).houseTime = s.houseTime := by
    simp [formatStored]
  rw [← redefineFormat_eq, formatStored_named, switching, now] at realigned
  simp only [beq_iff_eq] at realigned
  rw [realigned]
  split
  · next format =>
    rw [pointFrom_format (f := f) (by rw [dests, redefineFormat_format, format]), formats, dests]
  · rfl

theorem defineFormat_defined {f : FormatNo} {c : Cadence} {s : State} (defined : (s.formats.get f).defined = true) :
    defineFormat f c s =
      ⟨redefineFormat f c s, if (redefineFormat f c s).dests = s.dests then .ok else .okClamped, []⟩ := by
  rw [defineFormat, if_pos defined]

theorem defineFormat_new {f : FormatNo} {c : Cadence} {s : State} (undefined : (s.formats.get f).defined = false) :
    defineFormat f c s = ⟨s.updFormat f fun _ => newFormat s.houseTime c, .ok, []⟩ := by
  rw [defineFormat, if_neg (by simp [undefined])]

theorem actFormatDefine_defined {fb cb : Byte} {pi : BitVec 24} {pn pd wl : BitVec 16} {f : FormatNo} {c : Option SourceNo} {s : State}
    (hm : s.mode = .held) (hf : fb.toNat = f.val) (range : badPeriod pi pn pd = false) (hc : sourceOperand cb = some c)
    (defined : (s.formats.get f).defined = true) : actFormatDefine fb (.define pi pn pd wl cb) s =
      ⟨redefineFormat f ⟨pi, pn, pd, wl, c⟩ s, if (redefineFormat f ⟨pi, pn, pd, wl, c⟩ s).dests = s.dests then .ok else .okClamped, []⟩ := by
  rw [actFormatDefine_define hm hf range hc, defineFormat_defined defined]

/-- The define form of a defined format, record by record. -/
theorem formatDefine_defined {t : Trunk} {h : Header} {fb : Byte} {f : FormatNo} {pi : BitVec 24} {pn pd wl : BitVec 16} {cb : Byte}
    {c : Option SourceNo} {s : State} (hr : headReady s t (.formatDefine t h fb (.define pi pn pd wl cb)) = true)
    (hm : s.mode = .held) (hf : fb.toNat = f.val) (range : badPeriod pi pn pd = false) (hc : sourceOperand cb = some c)
    (defined : (s.formats.get f).defined = true) :
    ∃ st s₁, exec (.formatDefine t h fb (.define pi pn pd wl cb)) s = .next (answered t .formatDefine h st [] s₁) ∧
      s₁ = { headTaken s t with
        formats := s₁.formats, dests := s₁.dests, active := s₁.active, switching := s₁.switching } ∧
      (∃ b, s₁.formats =
          s.formats.modify f (fun x => { x with pi := pi, pn := pn, pd := pd, wl := wl, cadence := c, tracking := b }) ∧
        (b = true ↔ ∃ n, c = some n ∧ (s.sources.get n).state = .locked ∧ (s.sources.get n).format = some f)) ∧
      (∀ d, s₁.dests.get d = let x := s.dests.get d
        if x.format = some f then { x with offset := max (-(pi.toNat / 2 : Nat)) (min (pi.toNat / 2 : Nat) x.offset) } else x) ∧
      (st = if s₁.dests = s.dests then .ok else .okClamped) ∧
      (∀ d, isArmed (s.active.get d) = false ∨ (s.dests.get d).format ≠ some f → s₁.active.get d = s.active.get d) ∧
      (∀ d k, (s.dests.get d).format = some f → s.active.get d = some k → k.state = .armed →
        let y := s₁.formats.get f
        let off := (s₁.dests.get d).offset
        let p := switchPlace y off s.margin k.target (if k.mode = .frames then k.frames.toNat else 0)
        let q := switchPlace y off s.margin s.houseTime 0
        s₁.active.get d = some (
          if isDue s (addTicks p.switchPoint (-s.margin)) then
            { k with mode := .next, target := s.houseTime, frames := 0, late := true, placed := some q }
          else { k with placed := some p })) ∧
      ∀ d, (s₁.switching.get d).cut = (s.switching.get d).cut ∧
        (s₁.switching.get d).fill = if (s.dests.get d).format = some f then
            (s.switching.get d).fill.map fun _ => firstPoint (s₁.formats.get f) (s₁.dests.get d).offset (s.houseTime + 1)
          else (s.switching.get d).fill := by
  have run := executeCommand_of_act (k := .formatDefine) (h := h) (act := fun _ => actFormatDefine fb (.define pi pn pd wl cb)) hr
    (actFormatDefine_defined (s := headTaken s t) hm hf range hc defined)
  let u := headTaken s t
  let v : Cadence := ⟨pi, pn, pd, wl, c⟩
  refine ⟨_, redefineFormat f v u, run, ?_, ⟨(redefinedFormat u f v).tracking, ?_, ?_⟩,
    fun d => ?_, rfl, fun d idle => ?_, fun d k format hk armed => ?_, fun d => ⟨?_, redefineFormat_fill f v u d⟩⟩
  · apply State.ext <;> simp [u]
  · refine Tbl.ext_get fun g => ?_
    rw [redefineFormat_formats_get, Tbl.get_modify]
    split
    · next e => subst e; rfl
    · rfl
  · have tracking : (redefinedFormat u f v).tracking = isTracking s.sources f ((s.formats.get f).redefined v) := rfl
    have known : ((s.formats.get f).redefined v).defined = true := defined
    have source : ((s.formats.get f).redefined v).cadence = c := rfl
    rw [tracking, isTracking, known, source]
    cases c <;> simp
  · rw [redefineFormat_dests, Tbl.get_map]
    rfl
  · rw [redefineFormat_active_get]
    refine (ite_eq_right_iff.mpr fun format => ?_)
    have unarmed : isArmed (s.active.get d) = false := idle.resolve_right (not_not.mpr format)
    show (s.active.get d).map _ = s.active.get d
    cases hk : s.active.get d with
    | none => rfl
    | some k => rw [Option.map_some, if_neg fun armed => by simp [hk, isArmed, armed] at unarmed]
  · have own : ((formatStored f v u).dests.get d).format = some f := by
      rw [formatStored_dests, redefineFormat_format]
      exact format
    have margin : (formatStored f v u).margin = s.margin := by simp [formatStored, u]
    have now : (formatStored f v u).houseTime = s.houseTime := by simp [formatStored, u]
    have due : ∀ x, isDue (formatStored f v u) x = isDue s x := fun x => by rw [isDue, isDue, now]
    have stored := recomputed_armed own armed
    simp only [formatStored_dests, formatStored_formats, margin, now, due] at stored
    rw [redefineFormat_active_get]
    refine (if_pos format).trans ?_
    show (s.active.get d).map _ = _
    rw [hk, Option.map_some, if_pos armed]
    exact congrArg some stored
  · simp [u]

theorem formatInUse_true {s : State} {f : FormatNo} : formatInUse s f = true ↔
    (∃ n, (s.sources.get n).format = some f) ∨ ∃ d, (s.dests.get d).format = some f := by
  rw [formatInUse, Bool.or_eq_true, Tbl.any_rows, Tbl.any_rows]
  simp only [beq_iff_eq]

/-- The undefine form (R8). -/
theorem formatDefine_undefine {t : Trunk} {h : Header} {fb : Byte} {f : FormatNo} {s : State}
    (hr : headReady s t (.formatDefine t h fb .undefine) = true) (hm : s.mode = .held) (hf : fb.toNat = f.val) :
    exec (.formatDefine t h fb .undefine) s = .next (
      if (s.formats.get f).defined = false then answered t .formatDefine h .ok [] (headTaken s t)
      else if (∃ n, (s.sources.get n).format = some f) ∨ ∃ d, (s.dests.get d).format = some f then
        answered t .formatDefine h .inUse [] (headTaken s t)
      else answered t .formatDefine h .ok [] { headTaken s t with formats := s.formats.set f Format.undefined }) := by
  have act : actFormatDefine fb .undefine (headTaken s t) = undefineFormat f (headTaken s t) := by
    have hm' : (headTaken s t).mode = .held := hm
    simp only [actFormatDefine, if_neg (not_not.mpr hm'), formatNumber_some.mpr hf]
  rw [exec_formatDefine]
  split
  · next undefined =>
    exact executeCommand_of_act hr (act.trans (if_neg fun (defined : (s.formats.get f).defined = true) => by simp [undefined] at defined))
  · next defined =>
    have known : ((headTaken s t).formats.get f).defined = true := by simpa using defined
    split
    · next used =>
      exact executeCommand_refused hr (act.trans ((if_pos known).trans (if_pos (formatInUse_true.mpr used))))
    · next free =>
      exact executeCommand_of_act hr (act.trans ((if_pos known).trans (if_neg fun used => free (formatInUse_true.mp used))))

/-- Settles O19: the checks in their order; then a new record, a redefined one, or none. -/
theorem formatDefineResult : Obligations.FormatDefineResult := by
  unfold Obligations.FormatDefineResult
  refine ⟨?_, fun t h fb f pi pn pd wl cb c s hr hm hf h₁ h₂ h₃ h₄ hc defined =>
    formatDefine_defined hr hm hf (badPeriod_false.mpr ⟨h₁, h₂, h₃, h₄⟩) hc defined,
    fun t h fb f s hr hm hf => formatDefine_undefine hr hm hf, ?_⟩
  · intro t h fb pi pn pd wl cb c f s hr hm hf h₁ h₂ h₃ h₄ hc undefined x
    have act := actFormatDefine_define (s := headTaken s t) (wl := wl) hm hf (badPeriod_false.mpr ⟨h₁, h₂, h₃, h₄⟩) hc
    rw [exec_formatDefine]
    exact executeCommand_of_act hr (act.trans (defineFormat_new undefined))
  · intro t h fb form s hr refused
    refine ⟨fun hm => ?_, fun hm out => ?_, ?_⟩
    · exact (exec_formatDefine ..).trans (executeCommand_refused hr (if_pos hm))
    · have act : actFormatDefine fb form (headTaken s t) = refuse (headTaken s t) .range := by
        refine (if_neg (not_not.mpr hm)).trans ?_
        rw [formatNumber_none.mpr out]
      exact (exec_formatDefine ..).trans (executeCommand_refused hr act)
    · rintro pi pn pd wl cb rfl hm inRange
      obtain ⟨f, hf⟩ : ∃ f : FormatNo, fb.toNat = f.val := ⟨⟨fb.toNat, inRange⟩, rfl⟩
      have hm' : (headTaken s t).mode = .held := hm
      refine ⟨fun bad => ?_, fun h₁ h₂ h₃ h₄ out other => ?_⟩
      · have range : badPeriod pi pn pd = true := by
          rw [← Bool.not_eq_false, badPeriod_false]
          omega
        refine (exec_formatDefine ..).trans (executeCommand_refused hr ?_)
        simp only [actFormatDefine, if_neg (not_not.mpr hm'), formatNumber_some.mpr hf, range, if_true]
      · have range : badPeriod pi pn pd = false := badPeriod_false.mpr ⟨h₁, h₂, h₃, h₄⟩
        refine (exec_formatDefine ..).trans (executeCommand_refused hr ?_)
        simp only [actFormatDefine, if_neg (not_not.mpr hm'), formatNumber_some.mpr hf, range, Bool.false_eq_true, if_false,
          sourceOperand_none.mpr ⟨out, other⟩]

end Sys2Proof.Machine
end

section
/-! SUPPORT. Scheduled events (R67–R71, R81–R89, R121): what each makes of the state when it falls due, and what a completion is. -/

namespace Sys2Proof.Machine

/-! ## What the end of a take changes (R66, R114, R115) -/

/-- The end of a take changes the salvo slots and the return queues alone. -/
theorem notifyEnd_eq (d : DestNo) (k : Take) (out : TakeOutcome) (s : State) : notifyEnd d k out s =
    { s with salvos := (notifyEnd d k out s).salvos, returns := (notifyEnd d k out s).returns } := by
  apply State.ext <;> simp

theorem notifyEnd_single_eq {d : DestNo} {k : Take} {out : TakeOutcome} {s : State} (h : k.salvo = none) : notifyEnd d k out s =
    if k.tag = 0 then s else { s with
      returns := s.returns.modify k.trunk (·.push (.takeDone d k.tag out k.source k.late k.placed s.houseTime)) } := by
  rw [notifyEnd_single h]
  rfl

theorem notifyEnd_single_records {d : DestNo} {k : Take} {out : TakeOutcome} {s : State} (h : k.salvo = none) :
    (notifyEnd d k out s).salvos = s.salvos ∧ (notifyEnd d k out s).returns = if k.tag = 0 then s.returns else
      s.returns.modify k.trunk (·.push (.takeDone d k.tag out k.source k.late k.placed s.houseTime)) := by
  rw [notifyEnd_single_eq h]
  split <;> exact ⟨rfl, rfl⟩

theorem notifyEnd_slot_salvos {d : DestNo} {k : Take} {out : TakeOutcome} {s : State} {m : SlotNo} (h : k.salvo = some m) :
    (notifyEnd d k out s).salvos = s.salvos.modify m (·.ended out) := by
  rw [notifyEnd_salvos, h]

theorem notifyEnd_slot_returns {d : DestNo} {k : Take} {out : TakeOutcome} {s : State} {m : SlotNo} {a : Trunk} {g : Tag}
    (h : k.salvo = some m) (firing : (s.salvos.get m).firingTrunk = some a) (tag : (s.salvos.get m).firingTag = some g) :
    (notifyEnd d k out s).returns = if (s.salvos.get m).outstanding = 1 ∧ g ≠ 0 then
        s.returns.modify a (·.push (.salvoDone m g ((s.salvos.modify m (·.ended out)).get m).tallies s.houseTime))
      else s.returns := by
  simp only [notifyEnd, h, salvoNotice, firing, tag, Tbl.get_modify_self]
  split <;> rfl

/-! ## Completion (R71–R73, R176) -/

/-- A FOLLOW take promoted: ARMED for the later of its target and now (R73). -/
def promotedTake (s : State) (d : DestNo) (q : Take) : Take :=
  let passed := isBefore q.target s.houseTime
  let goal := if passed then s.houseTime else q.target
  { q with
    state := .armed, target := goal, late := q.late || (q.mode == .atTime && passed),
    placed := some (placeFor s d q.mode goal q.frames) }

theorem promotedTake_congr {s s' : State} (now : s'.houseTime = s.houseTime) (formats : s'.formats = s.formats)
    (dests : s'.dests = s.dests) (margin : s'.margin = s.margin) (d : DestNo) (q : Take) : promotedTake s' d q = promotedTake s d q := by
  unfold promotedTake
  rw [now]
  simp only [placeFor_congr (.of_formats formats) dests margin]

theorem promote_eq (d : DestNo) (s : State) : promote d s = { s with
    follow := s.follow.set d none
    active := match s.follow.get d with | none => s.active | some q => s.active.set d (some (promotedTake s d q)) } := by
  unfold promote
  cases h : s.follow.get d with
  | none =>
    have same : s.follow.set d none = s.follow := by rw [← h, Tbl.set_get]
    dsimp only
    rw [same]
  | some q => rfl

theorem modeNotice_eq (s : State) : modeNotice s =
    if s.mode = .holding ∧ (∀ e, isCommitted (s.active.get e) = false) ∧ (∀ e, (s.switching.get e).cut.inProgress = false) then
      reachHeld s else s := by
  unfold modeNotice
  simp only [Bool.and_eq_true, noCutInProgress_iff, decide_eq_true_eq]

/-- Everything that a completion does to a destination with a COMMITTED take. -/
structure Completed (s : State) (d : DestNo) (k : Take) (out : TakeOutcome) (s' : State) : Prop where
  rest : s' = { s with
    active := s'.active, follow := s.follow.set d none, salvos := s'.salvos, returns := s'.returns, ports := s'.ports,
    mode := s'.mode }
  ports : s'.ports = (requestDisplay d s).ports
  own : s'.active.get d = (s.follow.get d).map (promotedTake s d)
  others : ∀ e, e ≠ d → s'.active.get e = s.active.get e
  salvos : s'.salvos = (notifyEnd d k out s).salvos
  returns : s.mode ≠ .holding → s'.returns = (notifyEnd d k out s).returns
  mode : s'.mode = if s.mode = .holding ∧ (∀ e, e ≠ d → isCommitted (s.active.get e) = false) ∧
    (∀ e, (s.switching.get e).cut.inProgress = false) then .held else s.mode

theorem reachHeld_eq (s : State) : reachHeld s = { s with mode := .held, returns := (reachHeld s).returns } := by
  apply State.ext <;> simp [reachHeld]

theorem requestDisplay_eq (d : DestNo) (s : State) : requestDisplay d s = { s with ports := (requestDisplay d s).ports } :=
  requestDisplays_eq [d] s

theorem requestDisplay_ports_congr {d : DestNo} {s s' : State} (format : (s.dests.get d).format = (s'.dests.get d).format)
    (ports : s.ports = s'.ports) : (requestDisplay d s).ports = (requestDisplay d s').ports := by
  unfold requestDisplay
  rw [format]
  split
  · simp [ports]
  · exact ports

theorem complete_completed {s : State} {d : DestNo} {k : Take} {ended : JoinEnd} (hk : s.active.get d = some k)
    (ks : k.state = .committed) : Completed s d k (outcomeOf ended k.late) (complete d ended s) := by
  let u := notifyEnd d k (outcomeOf ended k.late) (s.setActive d none)
  let v := promote d (requestDisplay d u)
  have told : SameTold u (notifyEnd d k (outcomeOf ended k.late) s) :=
    notifyEnd_told (u := s.setActive d none) (v := s) ⟨rfl, rfl, rfl⟩ ..
  have done : complete d ended s = modeNotice v := complete_committed hk ks
  have ufollow : u.follow = s.follow := by simp [u]
  have uactive : u.active = s.active.set d none := by simp [u]
  have ports : (requestDisplay d u).ports = (requestDisplay d s).ports := requestDisplays_ports_congr [d] (by simp [u]) (by simp [u])
  have frame : v = { s with
      active := v.active, follow := s.follow.set d none, salvos := u.salvos, returns := u.returns, ports := (requestDisplay d s).ports } := by
    rw [← ports]
    apply State.ext <;> simp [v, promote_eq, u]
  have promoted : ∀ q, promotedTake (requestDisplay d u) d q = promotedTake s d q := fun q =>
    promotedTake_congr (by simp [u]) (by simp [u]) (by simp [u]) (by simp [u]) d q
  have active : ∀ e, v.active.get e = if e = d then (s.follow.get d).map (promotedTake s d) else s.active.get e := fun e => by
    have now : v.active = match s.follow.get d with
        | none => s.active.set d none
        | some q => (s.active.set d none).set d (some (promotedTake s d q)) := by
      simp only [v, promote_eq, promoted, show (requestDisplay d u).follow = s.follow by simp [ufollow],
        show (requestDisplay d u).active = s.active.set d none by simp [uactive]]
    rw [now]
    cases s.follow.get d with
    | none => simp [Tbl.get_set, eq_comm]
    | some q => by_cases h : d = e <;> simp [Tbl.get_set, h, eq_comm (a := e)]
  have clear : (∀ e, isCommitted (v.active.get e) = false) ↔ ∀ e, e ≠ d → isCommitted (s.active.get e) = false := by
    refine forall_congr' fun e => ?_
    rw [active]
    by_cases h : e = d
    · rw [if_pos h]
      cases s.follow.get d <;> simp [h, isCommitted, promotedTake]
    · rw [if_neg h]
      simp [h]
  have settled : modeNotice v = if s.mode = .holding ∧ (∀ e, e ≠ d → isCommitted (s.active.get e) = false) ∧
      (∀ e, (s.switching.get e).cut.inProgress = false) then reachHeld v else v := by
    have mode : v.mode = s.mode := by rw [frame]
    have switching : v.switching = s.switching := by rw [frame]
    rw [modeNotice_eq]
    exact if_congr (by rw [clear, mode, switching]) rfl rfl
  rw [done, settled]
  by_cases c : s.mode = .holding ∧ (∀ e, e ≠ d → isCommitted (s.active.get e) = false) ∧
      (∀ e, (s.switching.get e).cut.inProgress = false)
  · rw [if_pos c, reachHeld_eq, frame]
    refine ⟨rfl, rfl, (active d).trans (if_pos rfl), fun e he => (active e).trans (if_neg he), told.salvos, fun h => absurd c.1 h,
      (if_pos c).symm⟩
  · rw [if_neg c, frame]
    exact ⟨rfl, rfl, (active d).trans (if_pos rfl), fun e he => (active e).trans (if_neg he), told.salvos, fun _ => told.returns,
      (if_neg c).symm⟩

/-! ## Commit events (R67, R68, R121) -/

theorem filter_finRange_eq (d : DestNo) : (List.finRange 128).filter (fun e => e == d) = [d] := by
  rw [List.filter_beq, List.count_eq_one_of_mem (List.nodup_finRange 128) (List.mem_finRange d), List.replicate_one]

/-- One destination vacated. -/
theorem displayVacated_one {s s' : State} {d : DestNo} (held : (s.active.get d).isSome = true)
    (active : ∀ e, s'.active.get e = if d = e then none else s.active.get e) : displayVacated s s' = requestDisplay d s' := by
  have vacated : ((List.finRange 128).filter fun e => (s.active.get e).isSome && (s'.active.get e).isNone) = [d] := by
    rw [← filter_finRange_eq d]
    refine List.filter_congr fun e _ => ?_
    rw [active]
    by_cases h : d = e
    · subst h; simp [held]
    · have other : e ≠ d := Ne.symm h
      cases s.active.get e <;> simp [h, other]
  rw [displayVacated, vacated]
  rfl

theorem ownCommit_placed {s : State} {k : Take} {p : Placed} (h : k.placed = some p) :
    ownCommit s k = some (addTicks p.switchPoint (-s.margin)) := by rw [ownCommit, h]; rfl

theorem commitPoint_single {s : State} {d : DestNo} {k : Take} {p : Placed} (single : boundPartner s d = none) (h : k.placed = some p) :
    commitPoint s d k = some (addTicks p.switchPoint (-s.margin)) := by
  simp only [commitPoint, single, ownCommit_placed h]

theorem guardHolds_iff {k : Take} {current : Option SourceNo} :
    guardHolds k current = true ↔ k.guardSource = none ∨ k.guardSource = some current := by
  unfold guardHolds
  cases k.guardSource <;> simp

/-- A take removed by a failed guard (R67): made known, and its DISPLAY entry requested. -/
theorem guardFailed_eq {s : State} {d : DestNo} {k : Take} (hk : s.active.get d = some k) :
    displayVacated s (removeActive d .guardFail s) = { s with
      active := s.active.set d none, salvos := (notifyEnd d k .guardFail s).salvos, returns := (notifyEnd d k .guardFail s).returns,
      ports := (requestDisplay d s).ports } := by
  have removed : removeActive d .guardFail s = notifyEnd d k .guardFail (s.setActive d none) := removeActive_some hk
  have told := removeActive_told d .guardFail s
  have tells : tell .guardFail (heldAt s d) s = notifyEnd d k .guardFail s := by rw [heldAt, hk]; rfl
  rw [tells] at told
  have active : (removeActive d .guardFail s).active = s.active.set d none := Tbl.ext_get fun e => by
    rw [removeActive_get, Tbl.get_set]
  rw [displayVacated_one (by simp [hk]) (removeActive_get d .guardFail s)]
  apply State.ext
  case active => simpa using active
  case salvos => simpa using told.salvos
  case returns => simpa using told.returns
  case ports => exact requestDisplay_ports_congr (by simp) (by simp)
  all_goals simp

/-- Settles O29: by the mode, and in RUN by the guard. -/
theorem commitEventDecides : Obligations.CommitEventDecides := by
  unfold Obligations.CommitEventDecides
  intro d k p s hk ks hp single due holds
  have run : exec (.commitEvent d) s = .next (commitArmed d k s) := by
    show execCommitEvent d s = _
    unfold execCommitEvent
    rw [hk]
    exact if_pos ⟨ks, single, by rw [commitPoint_single single hp]; exact due⟩
  refine ⟨fun hm => ?_, fun hm hg => ?_, fun hm hg => ?_⟩
  · rw [run, commitArmed, if_pos hm]
    rfl
  · rw [run, commitArmed, if_neg (not_not.mpr hm), if_pos (guardHolds_iff.mpr hg)]
    rfl
  · rw [run, commitArmed, if_neg (not_not.mpr hm), if_neg (fun h => hg (guardHolds_iff.mp h)), guardFailed_eq hk]
    refine ⟨_, rfl, rfl, fun h => notifyEnd_single_records h, fun slot h => ⟨notifyEnd_slot_salvos h, rfl⟩⟩

/-- Settles O30: by the mode. -/
theorem swapPairCommitsTogether : Obligations.SwapPairCommitsTogether := by
  unfold Obligations.SwapPairCommitsTogether
  intro d p k q a b s bound ne hk hq ha hb due k' q'
  have point : commitPoint s d k = some (earlier (addTicks a.switchPoint (-s.margin)) (addTicks b.switchPoint (-s.margin))) := by
    simp only [commitPoint, bound, hq, Option.bind_some, ownCommit_placed ha, ownCommit_placed hb]
  have run : exec (.swapCommitEvent d) s = .next (commitPair d p k q s) := by
    show execSwapCommitEvent d s = _
    unfold execSwapCommitEvent
    rw [hk, bound]
    dsimp only
    rw [hq, point]
    exact if_pos due
  rw [run]
  by_cases hm : s.mode = .run
  · have first : k' = { k with source := .fixed (s.dests.get p).current, state := .committed } := if_pos hm
    have second : q' = { q with source := .fixed (s.dests.get d).current, state := .committed } := if_pos hm
    rw [commitPair, if_pos hm, first, second]
    rfl
  · have first : k' = { k with deferred := true } := if_neg hm
    have second : q' = { q with deferred := true } := if_neg hm
    rw [commitPair, if_neg hm, first, second]
    rfl

/-! ## Fill timers and waiting destinations (R81, R86, R89, R97) -/

theorem armFill_eq {d : DestNo} {s : State} (x : Time) (defined : (s.dests.get d).format.isSome = true) : armFill d x s =
    { s with switching := s.switching.modify d fun w => { w with fill := some (pointFrom s d x) } } := by
  rw [armFill, if_pos defined]
  rfl

/-- A destination that stands waiting on `n`: one FILL entry, and its fill timer active from the first frame point after now. -/
def waitOn (d : DestNo) (n : Option SourceNo) (s : State) : State :=
  armFillNext d (postFill d (s.updSwitching d fun w => { w with cut := .steady n .waiting }))

theorem waitOn_eq (d : DestNo) (n : Option SourceNo) (s : State) : waitOn d n s = { s with
    switching := s.switching.modify d fun w =>
      { cut := .steady n .waiting
        fill := if (s.dests.get d).format = none then w.fill else some (pointFrom s d (s.houseTime + 1)) }
    ports := (postFill d s).ports } := by
  unfold waitOn armFillNext armFill
  have dests : (postFill d (s.updSwitching d fun w => { w with cut := .steady n .waiting })).dests = s.dests := rfl
  rw [dests]
  by_cases h : (s.dests.get d).format = none
  · simp only [h, Option.isSome_none, Bool.false_eq_true, if_false, if_true]
    rfl
  · have defined : (s.dests.get d).format.isSome = true := Option.isSome_iff_ne_none.mpr h
    rw [if_pos defined]
    simp only [h, if_false]
    refine State.ext rfl rfl rfl rfl rfl rfl rfl rfl rfl rfl ?_ rfl rfl rfl rfl rfl rfl rfl rfl rfl rfl rfl
    exact Tbl.modify_modify s.switching d (fun w => { w with cut := .steady n .waiting })
      fun w => { w with fill := some (pointFrom s d (s.houseTime + 1)) }

theorem post_fill_eq (y : DropPort) (ch : Channel) : y.post .fill ch =
    if (⟨.fill, ch⟩ : ServiceEntry) ∈ y.service then { y with coalesced := bump y.coalesced }
    else { y with service := y.service ++ [⟨.fill, ch⟩] } := rfl

/-- Settles O35. -/
theorem fillFramePointPosts : Obligations.FillFramePointPosts := by
  unfold Obligations.FillFramePointPosts
  intro d x s hf due defined entry
  show execFillFramePoint d s = _
  have now : (s.switching.get d).fill.any (isDue s) = true := by rw [hf]; exact due
  rw [execFillFramePoint, if_pos now, armFillNext, armFill_eq (s := postFill d s) _ defined]
  rfl

/-- Settles O33. -/
theorem drainExpiryJoins : Obligations.DrainExpiryJoins := by
  unfold Obligations.DrainExpiryJoins
  intro d old tail x s hc due
  show execDrainExpiry d s = _
  unfold execDrainExpiry
  rw [hc]
  exact if_pos due

/-! ## The end of a cut (R71–R73, R81, R86) -/

/-- Two states in which a destination's frame points and now are the same, and the same is told of the end of takes. -/
structure SameDest (d : DestNo) (s x : State) : Prop where
  told : SameTold x s
  formats : x.formats = s.formats
  margin : x.margin = s.margin
  format : (x.dests.get d).format = (s.dests.get d).format
  offset : (x.dests.get d).offset = (s.dests.get d).offset

theorem SameDest.formatOf {d : DestNo} {s x : State} (h : SameDest d s x) : formatOf x d = formatOf s d := by
  rw [Machine.formatOf, Machine.formatOf, h.format, h.formats]

theorem SameDest.pointFrom {d : DestNo} {s x : State} (h : SameDest d s x) (t : Time) : pointFrom x d t = pointFrom s d t := by
  rw [Machine.pointFrom, Machine.pointFrom, h.formatOf, h.offset]

theorem SameDest.promotedTake {d : DestNo} {s x : State} (h : SameDest d s x) (q : Take) : promotedTake x d q = promotedTake s d q := by
  unfold Machine.promotedTake placeFor
  rw [h.formatOf, h.offset, h.margin, h.told.now]

/-- What the completion of a destination that has come to wait says in the terms of the state before. -/
theorem Completed.ports_eq {s x s' : State} {d : DestNo} {k : Take} {out : TakeOutcome} (c : Completed x d k out s')
    (h : SameDest d s x) (ports : x.ports = (postFill d s).ports) : s'.ports = (requestDisplay d (postFill d s)).ports := by
  rw [c.ports]
  exact requestDisplay_ports_congr h.format ports

theorem Completed.own_eq {s x s' : State} {d : DestNo} {k : Take} {out : TakeOutcome} (c : Completed x d k out s')
    (h : SameDest d s x) (follow : x.follow = s.follow) : s'.active.get d = (s.follow.get d).map (Machine.promotedTake s d) := by
  rw [c.own, follow, funext h.promotedTake]

theorem Completed.mode_eq {s x s' : State} {d : DestNo} {k : Take} {out : TakeOutcome} (c : Completed x d k out s')
    (mode : x.mode = s.mode) (active : x.active = s.active) (steady : (x.switching.get d).cut.inProgress = false)
    (others : ∀ e, e ≠ d → x.switching.get e = s.switching.get e) :
    s'.mode = if s.mode = .holding ∧ (∀ e, e ≠ d → isCommitted (s.active.get e) = false) ∧
      (∀ e, e ≠ d → (s.switching.get e).cut.inProgress = false) then .held else s.mode := by
  rw [c.mode, mode, active]
  refine if_congr (and_congr_right fun _ => and_congr_right fun _ => forall_congr' fun e => ?_) rfl rfl
  by_cases he : e = d
  · simp [he, steady]
  · simp [he, others e he]

/-- Settles O34: the destination waits on its current source, and its take is completed. -/
theorem joinExpiryCompletes : Obligations.JoinExpiryCompletes := by
  unfold Obligations.JoinExpiryCompletes
  intro d k x s hc due hk ks defined
  have some : (s.dests.get d).format ≠ none := Option.isSome_iff_ne_none.mp defined
  let w := waitOn d (s.dests.get d).current s
  have run : exec (.joinExpiry d) s = .next (complete d .expiry w) := by
    show execJoinExpiry d s = _
    unfold execJoinExpiry
    rw [hc]
    exact if_pos due
  have waits : w = { s with
      switching := s.switching.set d { cut := .steady (s.dests.get d).current .waiting, fill := Option.some (pointFrom s d (s.houseTime + 1)) }
      ports := (postFill d s).ports } := by
    refine (waitOn_eq d _ s).trans ?_
    simp only [if_neg some]
    rfl
  have active : w.active = s.active := by rw [waits]
  have same : SameDest d s w := by rw [waits]; exact ⟨⟨rfl, rfl, rfl⟩, rfl, rfl, rfl, rfl⟩
  have c : Completed w d k .noSignal (complete d .expiry w) := complete_completed (ended := .expiry) (active ▸ hk) ks
  have told := notifyEnd_told same.told d k .noSignal
  have returns : s.mode = .run → (complete d .expiry w).returns = (notifyEnd d k .noSignal s).returns := fun hm =>
    (c.returns (by rw [waits]; simp [hm])).trans told.returns
  have salvos : (complete d .expiry w).salvos = (notifyEnd d k .noSignal s).salvos := c.salvos.trans told.salvos
  have own := c.own_eq same (by rw [waits])
  refine ⟨complete d .expiry w, run, ?_, c.ports_eq same (by rw [waits]), fun e he => (c.others e he).trans (by rw [active]), fun h => ?_,
    fun q hq => ⟨promotedTake s d q, ?_, rfl, rfl, rfl, rfl⟩, fun slot h => ⟨salvos.trans (notifyEnd_slot_salvos h), returns⟩,
    fun h hm => ?_, c.mode_eq (by rw [waits]) active (by rw [waits]; simp [Cut.inProgress]) fun e he => ?_⟩
  · have rest := c.rest
    generalize complete d .expiry w = v at rest ⊢
    rw [waits] at rest
    exact rest
  · rw [own, h]; rfl
  · rw [own, hq]; rfl
  · rw [salvos, returns hm]
    exact notifyEnd_single_records h
  · rw [waits]
    exact Tbl.get_set_ne _ _ (Ne.symm he)

/-! ## The switch event (R70, R81) -/

theorem setCurrent_eq (d : DestNo) (new : Option SourceNo) (s : State) : setCurrent d new s = { s with
    dests := s.dests.modify d fun x => { x with current := new }, sources := (setCurrent d new s).sources } := by
  apply State.ext
  case dests => exact setCurrent_dests d new s
  all_goals simp

theorem setCurrent_sameDest (d : DestNo) (new : Option SourceNo) (s : State) : SameDest d s (setCurrent d new s) := by
  rw [setCurrent_eq]
  exact ⟨⟨rfl, rfl, rfl⟩, rfl, rfl, by simp, by simp⟩

/-- The cut that a switch to a source begins (R81). -/
def cutBegun (s : State) (d : DestNo) (old : Option SourceNo) (flag : FwdFlag) (switchPoint : Time) : Cut :=
  match old with
  | none => .joining (addTicks s.houseTime ((formatOf s d).pi.toNat + (formatOf s d).wl.toNat))
  | some o =>
    if (s.sources.get o).state = .lost then .joining (addTicks s.houseTime ((formatOf s d).pi.toNat + (formatOf s d).wl.toNat))
    else .draining o (flag == .forwarding) (addTicks switchPoint ((formatOf s d).pi.toNat + (formatOf s d).wl.toNat))

theorem switchCut_some {d : DestNo} {m : SourceNo} {old : Option SourceNo} {flag : FwdFlag} {x : Time} {s u : State}
    (same : SameDest d s u) (switching : u.switching = s.switching) (lock : ∀ n, (u.sources.get n).state = (s.sources.get n).state)
    (hc : (s.switching.get d).cut = .steady old flag) :
    switchCut d (some m) x u = { u with switching := s.switching.modify d fun w => { w with cut := cutBegun s d old flag x } } := by
  have update : ∀ cut, u.updSwitching d (fun w => { w with cut := cut }) =
      { u with switching := s.switching.modify d fun w => { w with cut := cut } } := fun cut => by
    rw [← switching]
    rfl
  rw [← update]
  unfold switchCut cutBegun cutExpiry
  rw [switching, hc, same.formatOf, same.told.now]
  cases old with
  | none => rfl
  | some o =>
    dsimp only
    rw [lock]
    split <;> rfl

theorem switchCut_none {d : DestNo} {old : Option SourceNo} {flag : FwdFlag} {x : Time} {u : State}
    (hc : (u.switching.get d).cut = .steady old flag) : switchCut d none x u = complete d .noSource (waitOn d none u) := by
  unfold switchCut
  rw [hc]
  rfl

/-- Settles O31: the current source moves, and then by the source switched to. -/
theorem switchEventCuts : Obligations.SwitchEventCuts := by
  unfold Obligations.SwitchEventCuts
  intro d k p new old flag s hk ks hp hsource hc due current wait
  let u := setCurrent d new s
  have usources : ∀ n, u.sources.get n = _ := setCurrent_sources_get d new s
  have ueq : u = { s with dests := s.dests.modify d fun x => { x with current := new }, sources := u.sources } := setCurrent_eq d new s
  have same : SameDest d s u := setCurrent_sameDest d new s
  have switching : u.switching = s.switching := by rw [ueq]
  have run : exec (.switchEvent d) s = .next (switchCut d new p.switchPoint u) := by
    show execSwitchEvent d s = _
    unfold execSwitchEvent
    rw [hk]
    dsimp only
    rw [hp, hsource]
    exact if_pos ⟨ks, by rw [hc]; rfl, due⟩
  rw [run]
  cases new with
  | some m =>
    rw [switchCut_some same switching (fun n => by rw [usources]) hc]
    generalize u.sources = sources at *
    rw [ueq]
    refine ⟨_, rfl, rfl, usources, fun e he => ⟨Tbl.get_modify_ne _ _ (Ne.symm he), rfl⟩, fun n hn => rfl, fun h => ?_⟩
    cases h
  | none =>
    rw [switchCut_none (switching ▸ hc)]
    let out : TakeOutcome := if k.late then .doneLate else .done
    let w := waitOn d none u
    have waits : w = { s with
        dests := s.dests.modify d fun x => { x with current := none }, sources := u.sources
        switching := s.switching.modify d fun w =>
          { cut := .steady none .waiting
            fill := if (s.dests.get d).format = none then w.fill else some (pointFrom s d (s.houseTime + 1)) }
        ports := (postFill d s).ports } := by
      refine (waitOn_eq d none u).trans ?_
      rw [same.format, same.pointFrom, same.told.now]
      generalize u.sources = sources at ueq ⊢
      rw [ueq]
      rfl
    have active : w.active = s.active := by rw [waits]
    have sameWait : SameDest d s w := by rw [waits]; exact ⟨⟨rfl, rfl, rfl⟩, rfl, rfl, by simp, by simp⟩
    have c : Completed w d k out (complete d .noSource w) := complete_completed (ended := .noSource) (active ▸ hk) ks
    have told := notifyEnd_told sameWait.told d k out
    have salvos : (complete d .noSource w).salvos = (notifyEnd d k out s).salvos := c.salvos.trans told.salvos
    have returns : s.mode = .run → (complete d .noSource w).returns = (notifyEnd d k out s).returns := fun hm =>
      (c.returns (by rw [waits]; simp [hm])).trans told.returns
    have mode := c.mode_eq (s := s) (by rw [waits]) active (by rw [waits]; simp [Cut.inProgress]) fun e he => by
      rw [waits]; exact Tbl.get_modify_ne _ _ (Ne.symm he)
    have ports := c.ports_eq sameWait (by rw [waits])
    have own := c.own_eq sameWait (by rw [waits])
    have others : ∀ e, e ≠ d → (complete d .noSource w).active.get e = s.active.get e := fun e he => (c.others e he).trans (by rw [active])
    have rest := c.rest
    generalize complete d .noSource w = v at *
    rw [waits] at rest
    have vswitching : v.switching = s.switching.modify d fun w =>
        { cut := .steady none .waiting
          fill := if (s.dests.get d).format = none then w.fill else some (pointFrom s d (s.houseTime + 1)) } := by rw [rest]
    have vsources : v.sources = u.sources := by rw [rest]
    have vfollow : v.follow = s.follow.set d none := by rw [rest]
    refine ⟨v, rfl, ?_, fun n => by rw [vsources]; exact usources n, fun e he => ⟨?_, others e he⟩, fun m hm => absurd hm.symm (Option.some_ne_none m), fun _ => ?_⟩
    · rw [vsources, vswitching, vfollow]
      exact rest
    · rw [vswitching]; exact Tbl.get_modify_ne _ _ (Ne.symm he)
    · intro out'
      refine ⟨by rw [vswitching, Tbl.get_modify_self], fun defined => ?_, ports, vfollow, own, fun h => ?_, fun slot h => ⟨?_, ?_⟩, mode⟩
      · rw [vswitching, Tbl.get_modify_self]
        exact if_neg (Option.isSome_iff_ne_none.mp defined)
      · obtain ⟨alone, reported⟩ := notifyEnd_single_records (d := d) (out := out) (s := s) h
        exact ⟨salvos.trans alone, fun hm => (returns hm).trans reported⟩
      · exact salvos.trans (notifyEnd_slot_salvos h)
      · intro hm a g firing tag
        rw [returns hm, salvos, notifyEnd_slot_salvos h]
        exact notifyEnd_slot_returns h firing tag

end Sys2Proof.Machine
end

section
/-! SUPPORT. A source that enters LOST (R31–R33, R84, R88): on a frame watch expiry, and with its trunk in quarantine (R139). -/

namespace Sys2Proof.Machine

/-! ## Postings as tables of ports (R97, R133) -/

/-- An entry posted for a destination. -/
def postFor (kind : ServiceKind) (ports : Tbl DropPort 8) (d : DestNo) : Tbl DropPort 8 :=
  ports.modify (portOf d) fun y => y.post kind (channelOf d)

theorem requestDisplays_ports (ds : List DestNo) (s : State) : (requestDisplays ds s).ports =
    (ds.filter fun d => (s.dests.get d).format.isSome).foldl (postFor .display) s.ports := by
  induction ds generalizing s with
  | nil => rfl
  | cons d ds ih =>
    show (requestDisplays ds (requestDisplay d s)).ports = _
    have dests : (requestDisplay d s).dests = s.dests := by simp
    rw [ih, dests, List.filter_cons]
    by_cases h : (s.dests.get d).format.isSome = true
    · have posted : (requestDisplay d s).ports = postFor .display s.ports d := by rw [requestDisplay, if_pos h]; rfl
      rw [if_pos h, List.foldl_cons, posted]
    · have same : requestDisplay d s = s := if_neg h
      rw [if_neg h, same]

/-! ## The notice of a loss, destination by destination (R84, R88) -/

/-- A switching record when the source `n` is lost. -/
def lostSwitching (s : State) (n : SourceNo) (d : DestNo) (w : Switching) : Switching :=
  match w.cut with
  | .steady old _ =>
    if old = some n then
      { cut := .steady old .waiting,
        fill := if (s.dests.get d).format = none then w.fill else some (pointFrom s d (s.houseTime + 1)) }
    else w
  | .draining old _ _ =>
    if old = n then { w with cut := .joining (addTicks s.houseTime ((formatOf s d).pi.toNat + (formatOf s d).wl.toNat)) } else w
  | .joining _ => w

/-- The destination stands STEADY on the source `n`: it posts a FILL entry when `n` is lost. -/
def fillsOn (n : SourceNo) (w : Switching) : Bool :=
  match w.cut with
  | .steady m _ => m == some n
  | _ => false

theorem modify_self_of_eq {α : Type} {n : Nat} (x : Tbl α n) (i : Fin n) (f : α → α) (h : f (x.get i) = x.get i) : x.modify i f = x := by
  rw [Tbl.modify_eq_set, h, Tbl.set_get]

theorem lossNotice_eq (n : SourceNo) (d : DestNo) (s : State) : lossNotice n d s = { s with
    switching := s.switching.modify d (lostSwitching s n d)
    ports := if fillsOn n (s.switching.get d) then postFor .fill s.ports d else s.ports } := by
  unfold lossNotice
  have idle (h : lostSwitching s n d (s.switching.get d) = s.switching.get d) (f : fillsOn n (s.switching.get d) = false) :
      s = { s with
        switching := s.switching.modify d (lostSwitching s n d)
        ports := if fillsOn n (s.switching.get d) then postFor .fill s.ports d else s.ports } := by
    rw [modify_self_of_eq _ _ _ h, f]
    rfl
  cases hc : (s.switching.get d).cut with
  | steady old flag =>
    cases old with
    | none => exact idle (by simp [lostSwitching, hc]) (by simp [fillsOn, hc])
    | some m =>
      dsimp only
      split
      · next e =>
        subst e
        refine (waitOn_eq d (some m) s).trans ?_
        have fills : fillsOn m (s.switching.get d) = true := by simp [fillsOn, hc]
        have lost : lostSwitching s m d (s.switching.get d) = ⟨.steady (some m) .waiting,
            if (s.dests.get d).format = none then (s.switching.get d).fill else some (pointFrom s d (s.houseTime + 1))⟩ := by
          simp [lostSwitching, hc]
        rw [fills, Tbl.modify_eq_set, Tbl.modify_eq_set, lost]
        rfl
      · next other => exact idle (by simp [lostSwitching, hc, other]) (by simp [fillsOn, hc, other])
  | draining old tail x =>
    have quiet : fillsOn n (s.switching.get d) = false := by simp [fillsOn, hc]
    dsimp only
    split
    · next e =>
      have lost : lostSwitching s n d (s.switching.get d) = { s.switching.get d with cut := .joining (cutExpiry (formatOf s d) s.houseTime) } := by
        simp [lostSwitching, hc, e, cutExpiry]
      rw [quiet, Tbl.modify_eq_set, lost]
      rfl
    · next other => exact idle (by simp [lostSwitching, hc, other]) quiet
  | joining x => exact idle (by simp [lostSwitching, hc]) (by simp [fillsOn, hc])

/-- Two states in which every destination's frame points and expiries, and now, are the same. -/
structure SameSchedule (s x : State) : Prop where
  now : x.houseTime = s.houseTime
  dests : x.dests = s.dests
  frames : SameFramePoints s x
  cadences : SameCadences s x

theorem SameSchedule.of_formats {s x : State} (now : x.houseTime = s.houseTime) (dests : x.dests = s.dests)
    (formats : x.formats = s.formats) : SameSchedule s x := ⟨now, dests, .of_formats formats, .of_formats formats⟩

theorem SameSchedule.trans {s x y : State} (h : SameSchedule s x) (h' : SameSchedule x y) : SameSchedule s y :=
  ⟨h'.now.trans h.now, h'.dests.trans h.dests, h.frames.trans h'.frames, h.cadences.trans h'.cadences⟩

theorem SameSchedule.formatOf_cadence {s x : State} (h : SameSchedule s x) (d : DestNo) :
    (formatOf x d).pi = (formatOf s d).pi ∧ (formatOf x d).wl = (formatOf s d).wl := by
  unfold formatOf
  rw [h.dests]
  cases (s.dests.get d).format with
  | none => exact ⟨rfl, rfl⟩
  | some f => exact ⟨(h.cadences f).pi, (h.cadences f).wl⟩

theorem SameSchedule.lostSwitching {s x : State} (h : SameSchedule s x) (n : SourceNo) (d : DestNo) (w : Switching) :
    lostSwitching x n d w = lostSwitching s n d w := by
  obtain ⟨pi, wl⟩ := h.formatOf_cadence d
  unfold Machine.lostSwitching
  simp only [h.now, h.dests, pointFrom_congr h.frames h.dests, pi, wl]

/-- The notices of a loss to the destinations `pre`. -/
structure NoticedSoFar (s : State) (n : SourceNo) (pre : List DestNo) (x : State) : Prop where
  rest : x = { s with switching := x.switching, ports := x.ports }
  ports : x.ports = (pre.filter fun d => fillsOn n (s.switching.get d)).foldl (postFor .fill) s.ports
  switching : ∀ e, x.switching.get e = if e ∈ pre then lostSwitching s n e (s.switching.get e) else s.switching.get e

theorem lossNotices_noticed (n : SourceNo) (s : State) : NoticedSoFar s n (List.finRange 128) (lossNotices n s) := by
  unfold lossNotices
  refine foldl_prefix (P := NoticedSoFar s n) ⟨rfl, rfl, fun e => by simp⟩ fun pre d post x e h => ?_
  have new : d ∉ pre := fun inside => lt_irrefl d
    ((mem_before_iff (r := (· < ·)) (fun _ _ => lt_asymm) (List.pairwise_lt_finRange 128) e d).mp inside).2
  have same : SameSchedule s x := by rw [h.rest]; exact .of_formats rfl rfl rfl
  have own : x.switching.get d = s.switching.get d := by rw [h.switching, if_neg new]
  have eq := lossNotice_eq n d x
  rw [own, funext (same.lostSwitching n d)] at eq
  refine ⟨?_, ?_, fun c => ?_⟩
  · have rest := h.rest
    generalize lossNotice n d x = y at eq ⊢
    rw [eq]
    rw [rest]
  · rw [eq, List.filter_append, List.foldl_append, ← h.ports]
    by_cases f : fillsOn n (s.switching.get d) = true <;> simp [f]
  · rw [eq]
    show (x.switching.modify d _).get c = _
    rw [Tbl.get_modify]
    by_cases hc : d = c
    · subst hc
      simp [own]
    · have hcd : c ≠ d := Ne.symm hc
      simp [hc, hcd, h.switching]

/-! ## A source that enters LOST (R31, R33) -/

/-- Everything that the loss of an ACQUIRING or LOCKED source does. -/
structure Lost (s : State) (n : SourceNo) (s' : State) : Prop where
  rest : s' = { s with
    sources := s.sources.set n { s.sources.get n with
      state := .lost, lastCapture := none, frameWatch := none, lastSeq := none, inWindow := 0, outWindow := 0 }
    formats := s'.formats, returns := s'.returns, ports := s'.ports, switching := s'.switching }
  formats : ∀ f, s'.formats.get f =
    if (s.sources.get n).state = .locked ∧ (s.formats.get f).cadence = some n then { s.formats.get f with tracking := false }
    else s.formats.get f
  returns : s'.returns = (queueMasked (.sourceState n (s.sources.get n).state .lost (s.sources.get n).format (s.sources.get n).phase
    s.houseTime) s).returns
  ports : s'.ports = ((List.finRange 128).filter fun d => fillsOn n (s.switching.get d)).foldl (postFor .fill)
    (requestDisplays (destsForwarding s n) s).ports
  switching : ∀ d, s'.switching.get d = lostSwitching s n d (s.switching.get d)

/-- The effects of an entry into LOST in their order (R33). -/
theorem sourceChanged_lost {n : SourceNo} {previous : SourceState} {u : State} (own : (u.sources.get n).state = .lost)
    (live : previous = .acquiring ∨ previous = .locked) : sourceChanged n previous u =
      lossNotices n (requestDisplays (destsForwarding u n)
        (queueMasked (.sourceState n previous .lost (u.sources.get n).format (u.sources.get n).phase u.houseTime)
          (if previous = .locked then evaluateTracking n u else u))) := by
  have enters : entersLost previous .lost = true := by rcases live with h | h <;> rw [h] <;> rfl
  have locks : lockChanges previous .lost = decide (previous = .locked) := by rcases live with h | h <;> rw [h] <;> rfl
  rw [sourceChanged_eq, own, if_pos enters]
  unfold sourceAnnounced
  simp only [own, enters, Bool.or_true, if_true, locks, decide_eq_true_eq]

theorem enterLost_lost {s : State} {n : SourceNo} (live : (s.sources.get n).state = .acquiring ∨ (s.sources.get n).state = .locked) :
    Lost s n (enterLost n s) := by
  let gone : Source := { s.sources.get n with
    state := .lost, lastCapture := none, frameWatch := none, lastSeq := none, inWindow := 0, outWindow := 0 }
  let u : State := s.updSource n fun r => { r with
    state := .lost, lastCapture := none, frameWatch := none, lastSeq := none, inWindow := 0, outWindow := 0 }
  have sources : u.sources = s.sources.set n gone := rfl
  have own : u.sources.get n = gone := by rw [sources, Tbl.get_set_self]
  let v : State := if (s.sources.get n).state = .locked then evaluateTracking n u else u
  let x : State := requestDisplays (destsForwarding u n)
    (queueMasked (.sourceState n (s.sources.get n).state .lost (s.sources.get n).format (s.sources.get n).phase s.houseTime) v)
  have changed : enterLost n s = lossNotices n x := by
    refine (sourceChanged_lost (by rw [own]) live).trans ?_
    rw [own]
    rfl
  have formats : x.formats = v.formats := by simp [x]
  have tracked (f : FormatNo) : v.formats.get f =
      if (s.sources.get n).state = .locked ∧ (s.formats.get f).cadence = some n then { s.formats.get f with tracking := false }
      else s.formats.get f := by
    have base : u.formats = s.formats := rfl
    by_cases hl : (s.sources.get n).state = .locked
    · have hv : v = evaluateTracking n u := if_pos hl
      rw [hv, evaluateTracking_get, base]
      by_cases hc : (s.formats.get f).cadence = some n
      · have untracked : isTracking u.sources f (s.formats.get f) = false := by simp [isTracking, hc, own, gone]
        simp [hl, hc, untracked]
      · simp [hc]
    · have hv : v = u := if_neg hl
      rw [hv, base, if_neg fun h => hl h.1]
  have rest : v = { s with sources := s.sources.set n gone, formats := v.formats } := by
    rw [← sources]
    unfold v
    split
    · apply State.ext <;> simp <;> rfl
    · rfl
  have schedule : SameSchedule s x := by
    refine ⟨by rw [show x.houseTime = v.houseTime by simp [x], rest], by rw [show x.dests = v.dests by simp [x], rest], fun f => ?_, fun f => ?_⟩
    · rw [formats, tracked]
      split <;> exact ⟨rfl, rfl, rfl, rfl, rfl⟩
    · rw [formats, tracked]
      split <;> exact ⟨rfl, rfl, rfl, rfl, rfl, rfl⟩
  have switching : x.switching = s.switching := by rw [show x.switching = v.switching by simp [x], rest]
  have noticed := lossNotices_noticed n x
  have ports : x.ports = (requestDisplays (destsForwarding s n) s).ports := by
    refine requestDisplays_ports_congr (destsForwarding s n) ?_ ?_
    · simpa [x] using schedule.dests
    · rw [show (queueMasked _ v).ports = v.ports by simp, rest]
  have returns : x.returns =
      (queueMasked (.sourceState n (s.sources.get n).state .lost (s.sources.get n).format (s.sources.get n).phase s.houseTime) s).returns := by
    rw [show x.returns = (queueMasked _ v).returns by simp [x]; rfl, rest]
    rfl
  have xrest : x = { s with
      sources := s.sources.set n gone, formats := x.formats, returns := x.returns, ports := x.ports } := by
    rw [formats]
    generalize hv : v.formats = formats' at rest ⊢
    apply State.ext <;> simp [x, rest, gone]
  rw [changed]
  refine ⟨?_, fun f => ?_, ?_, ?_, fun d => ?_⟩
  · have all := noticed.rest
    generalize lossNotices n x = y at all ⊢
    rw [all]
    dsimp only
    rw [xrest]
  · rw [noticed.rest]
    exact (congrArg (Tbl.get · f) formats).trans (tracked f)
  · rw [noticed.rest]
    exact returns
  · rw [noticed.ports, ports, switching]
  · rw [noticed.switching, if_pos (List.mem_finRange d), switching, schedule.lostSwitching]

theorem postFor_eq (kind : ServiceKind) (ports : Tbl DropPort 8) (d : DestNo) : postFor kind ports d =
    ports.modify (portOf d) fun y =>
      if (⟨kind, channelOf d⟩ : ServiceEntry) ∉ y.service then { y with service := y.service ++ [⟨kind, channelOf d⟩] }
      else if kind = .fill then { y with coalesced := bump y.coalesced }
      else y := by
  unfold postFor
  congr 1
  funext y
  unfold DropPort.post
  by_cases h : (⟨kind, channelOf d⟩ : ServiceEntry) ∈ y.service
  · cases kind <;> simp [h]
  · simp [h]

theorem forwards_eq (w : Switching) (n : SourceNo) : w.forwards n =
    match w.cut with
    | .steady m _ => m == some n
    | .draining old _ _ => old == n
    | .joining _ => false := by
  unfold Switching.forwards Cut.forwarded
  rcases w.cut with (_ | m) | old | x
  · rfl
  · exact beq_eq_beq.mpr (by simp)
  · exact beq_eq_beq.mpr (by simp)
  · rfl

/-- Settles O32: the due watch puts the source in LOST, with the effects of that in their order. -/
theorem frameWatchExpiryLoses : Obligations.FrameWatchExpiryLoses := by
  unfold Obligations.FrameWatchExpiryLoses
  intro n x s watch due live r post shown fills
  have posts (kind : ServiceKind) : post kind = postFor kind := by
    funext ports d
    exact (postFor_eq kind ports d).symm
  have run : exec (.frameWatchExpiry n) s = .next (enterLost n s) := by
    change execFrameWatchExpiry n s = _
    rw [execFrameWatchExpiry, watch, Option.any_some, if_pos due]
  have lost := enterLost_lost live
  refine ⟨enterLost n s, run, lost.rest, lost.formats, lost.returns, ?_, lost.switching⟩
  have displays : (destsForwarding s n).filter (fun d => (s.dests.get d).format.isSome) = (List.finRange 128).filter shown := by
    rw [destsForwarding, List.filter_filter]
    refine List.filter_congr fun d _ => ?_
    exact congrArg _ (forwards_eq ..)
  rw [lost.ports, requestDisplays_ports, displays, posts, posts]
  rfl

/-! ## The sources of a trunk in quarantine (R32, R139) -/

/-- A switching record when the sources of `lost` are lost. -/
def lostAmong (s : State) (lost : SourceNo → Bool) (d : DestNo) (w : Switching) : Switching :=
  match w.cut with
  | .steady (some n) _ =>
    if lost n then
      { cut := .steady (some n) .waiting,
        fill := if (s.dests.get d).format = none then w.fill else some (pointFrom s d (s.houseTime + 1)) }
    else w
  | .draining old _ _ =>
    if lost old then { w with cut := .joining (addTicks s.houseTime ((formatOf s d).pi.toNat + (formatOf s d).wl.toNat)) } else w
  | _ => w

theorem lostSwitching_lostAmong (s : State) (lost : SourceNo → Bool) (n : SourceNo) (d : DestNo) (w : Switching) :
    lostSwitching s n d (lostAmong s lost d w) = lostAmong s (fun m => lost m || m == n) d w := by
  obtain ⟨cut, fill⟩ := w
  rcases cut with (_ | m) | old | x
  · simp [lostAmong, lostSwitching]
  · by_cases e : m = n
    · subst e
      by_cases h : lost m = true <;> by_cases f : (s.dests.get d).format = none <;> simp [lostAmong, lostSwitching, h, f]
    · by_cases h : lost m = true <;> simp [lostAmong, lostSwitching, h, e]
  · by_cases e : old = n
    · subst e
      by_cases h : lost old = true <;> simp [lostAmong, lostSwitching, h]
    · by_cases h : lost old = true <;> simp [lostAmong, lostSwitching, h, e]
  · rfl

/-- The sources `pre` of a quarantined trunk lost. -/
structure QuarantinedSoFar (s : State) (pre : List SourceNo) (x : State) : Prop where
  rest : x = { s with
    sources := x.sources, formats := x.formats, returns := x.returns, ports := x.ports, switching := x.switching }
  sources : ∀ n, n ∉ pre → x.sources.get n = s.sources.get n
  formats : ∀ f, x.formats.get f =
    if ∃ n ∈ pre, (s.formats.get f).cadence = some n ∧ (s.sources.get n).state = .locked then { s.formats.get f with tracking := false }
    else s.formats.get f
  switching : ∀ d, x.switching.get d =
    lostAmong s (fun n => decide (n ∈ pre) && (s.sources.get n).captures) d (s.switching.get d)

theorem QuarantinedSoFar.schedule {s x : State} {pre : List SourceNo} (h : QuarantinedSoFar s pre x) : SameSchedule s x := by
  refine ⟨by rw [h.rest], by rw [h.rest], fun f => ?_, fun f => ?_⟩ <;> rw [h.formats] <;> split
  · exact ⟨rfl, rfl, rfl, rfl, rfl⟩
  · exact ⟨rfl, rfl, rfl, rfl, rfl⟩
  · exact ⟨rfl, rfl, rfl, rfl, rfl, rfl⟩
  · exact ⟨rfl, rfl, rfl, rfl, rfl, rfl⟩

theorem captures_iff (r : Source) : r.captures = true ↔ r.state = .acquiring ∨ r.state = .locked := by
  simp [Source.captures]

theorem quarantineSources_soFar (t : Trunk) (s : State) : QuarantinedSoFar s (sourcesOf t) (quarantineSources t s) := by
  unfold quarantineSources
  have none (d : DestNo) (w : Switching) : lostAmong s (fun n => decide (n ∈ ([] : List SourceNo)) && (s.sources.get n).captures) d w = w := by
    unfold lostAmong
    split <;> simp
  refine foldl_prefix (P := QuarantinedSoFar s) ⟨rfl, fun _ _ => rfl, fun f => by simp, fun d => (none d _).symm⟩
    fun pre n post x e h => ?_
  have new : n ∉ pre := fun inside => by
    have := sourcesOf_nodup t
    rw [e, List.nodup_append] at this
    exact this.2.2 n inside n (List.mem_cons_self ..) rfl
  have own : x.sources.get n = s.sources.get n := h.sources n new
  have schedule := h.schedule
  have cadence (f : FormatNo) : (x.formats.get f).cadence = (s.formats.get f).cadence := (schedule.cadences f).source
  unfold quarantineSource
  rw [own]
  by_cases live : (s.sources.get n).captures = true
  · rw [if_pos live]
    have lost := enterLost_lost (s := x) (n := n) (own ▸ (captures_iff _).mp live)
    refine ⟨?_, fun m hm => ?_, fun f => ?_, fun d => ?_⟩
    · have rest := lost.rest
      generalize enterLost n x = y at rest ⊢
      rw [rest]
      dsimp only
      rw [h.rest]
    · have other : m ∉ pre ∧ m ≠ n := by simpa using hm
      rw [lost.rest]
      exact (Tbl.get_set_ne _ _ (Ne.symm other.2)).trans (h.sources m other.1)
    · rw [lost.formats, own, cadence, h.formats]
      simp only [List.mem_append, List.mem_singleton, or_and_right, exists_or, exists_eq_left]
      by_cases before : ∃ m ∈ pre, (s.formats.get f).cadence = some m ∧ (s.sources.get m).state = .locked
      · simp only [before, true_or, if_true, ite_self]
      · simp only [before, false_or, if_false, and_comm]
    · rw [lost.switching, schedule.lostSwitching, h.switching, lostSwitching_lostAmong]
      congr 1
      funext m
      by_cases hm : m = n
      · subst hm
        simp [live]
      · simp [hm]
  · rw [if_neg live]
    have unlocked : (s.sources.get n).state ≠ .locked := fun hl => live ((captures_iff _).mpr (.inr hl))
    refine ⟨h.rest, fun m hm => h.sources m (fun hp => hm (List.mem_append_left _ hp)), fun f => ?_, fun d => ?_⟩
    · rw [h.formats]
      refine if_congr ?_ rfl rfl
      simp [or_and_right, exists_or, unlocked]
    · rw [h.switching]
      congr 1
      funext m
      by_cases hm : m = n
      · subst hm
        simp [live]
      · simp [hm]

theorem trunkChanged_eq (t : Trunk) (x : TrunkState) (s : State) :
    trunkChanged t x s = { s with returns := (trunkChanged t x s).returns } := by
  apply State.ext <;> simp

/-- What the five stages of R139 leave alone, from what each leaves alone. -/
theorem quarantine_rest {s v w y : State} (stages : v = { s with receivers := v.receivers, contexts := v.contexts, arms := v.arms })
    (sources : w = { v with
      sources := w.sources, formats := w.formats, returns := w.returns, ports := w.ports, switching := w.switching })
    (report : y = { w with returns := y.returns }) : y = { s with
      receivers := y.receivers, contexts := y.contexts, arms := v.arms, sources := y.sources, formats := y.formats,
      returns := y.returns, ports := y.ports, switching := y.switching } := by
  rw [report]
  dsimp only
  rw [sources]
  dsimp only
  rw [stages]

/-- The record, the FIFO and the arm of a trunk that an errored cell quarantines (R139, stages 1 to 3). -/
def quarantinedRecords (t : Trunk) (s : State) : State := { s with
  receivers := s.receivers.modify t fun r => { r with
    errored := bump r.errored, state := .quarantined, errors := 255, runLength := 0, runCount := 0, release := false,
    inForce := some r.policy }
  contexts := s.contexts.modify t fun x => { x with fifo := [] }
  arms := s.arms.set t .clear }

theorem quarantinedRecords_eq (t : Trunk) (s : State) :
    quarantineStages t (s.updReceiver t fun r => { r with errored := bump r.errored }) = quarantinedRecords t s := by
  apply State.ext <;> simp [quarantineStages, quarantinedRecords, Tbl.modify_modify, Config.maxErrors]

/-- Settles O22: stage by stage of R139, its sources one after the other. -/
theorem quarantineEntered : Obligations.QuarantineEntered := by
  unfold Obligations.QuarantineEntered
  intro t c pick s line good degraded full
  have state : (s.receivers.get t).state ≠ .quarantined := by
    rw [degraded]
    exact nofun
  have arrives : ∃ previous, erroredArrival t s = trunkChanged t previous (quarantineSources t (quarantinedRecords t s)) := by
    rw [erroredArrival_other state, erroredCell_eq, if_pos, enterQuarantine_eq, quarantinedRecords_eq]
    · exact ⟨_, rfl⟩
    · simpa [Config.maxErrors, Config.errorWeight] using full
  obtain ⟨previous, arrives⟩ := arrives
  have records : quarantinedRecords t s = { s with
      receivers := s.receivers.modify t fun r => { r with
        errored := bump r.errored, state := .quarantined, errors := 255, runLength := 0, runCount := 0, release := false,
        inForce := some r.policy },
      contexts := s.contexts.modify t fun x => { x with fifo := [] }, arms := s.arms.set t .clear } := rfl
  generalize quarantinedRecords t s = v at arrives records
  have soFar := quarantineSources_soFar t v
  have sources := quarantineSources_sources_get t v
  generalize quarantineSources t v = w at arrives soFar sources
  refine ⟨trunkChanged t previous w, by rw [exec_trunkCellArrival_errored line good, arrives],
    by rw [exec_lostDelineation line, arrives], ?_, ?_, ?_, fun n => ?_, fun f => ?_, fun d => ?_⟩
  · have rest := quarantine_rest (s := s) (v := v) (by rw [records]) soFar.rest (trunkChanged_eq t previous w)
    rw [show v.arms = s.arms.set t .clear by rw [records]] at rest
    exact rest
  · simp only [trunkChanged_frame]
    rw [soFar.rest, records]
  · simp only [trunkChanged_frame]
    rw [soFar.rest, records]
  · simp only [trunkChanged_frame]
    rw [sources, records]
    simp only [mem_sourcesOf, Source.quarantined, captures_iff, ite_and]
    rfl
  · simp only [trunkChanged_frame]
    rw [soFar.formats, records]
    refine if_congr ⟨?_, ?_⟩ rfl rfl
    · rintro ⟨n, inside, steers, locked⟩
      exact ⟨n, steers, ⟨mem_sourcesOf.mp inside, .inr locked⟩, locked⟩
    · rintro ⟨n, steers, ⟨inside, -⟩, locked⟩
      exact ⟨n, mem_sourcesOf.mpr inside, steers, locked⟩
  · simp only [trunkChanged_frame]
    rw [soFar.switching, records]
    dsimp only
    have lost (n : SourceNo) : (decide (n ∈ sourcesOf t) && (s.sources.get n).captures) = true ↔
        n.val / 16 = t.val ∧ ((s.sources.get n).state = .acquiring ∨ (s.sources.get n).state = .locked) := by
      rw [Bool.and_eq_true, decide_eq_true_eq, mem_sourcesOf, captures_iff]
    unfold lostAmong
    rcases (s.switching.get d).cut with (_ | n) | old | x
    · rfl
    · exact if_congr (lost n) rfl rfl
    · exact if_congr (lost old) rfl rfl
    · rfl

end Sys2Proof.Machine
end

section
/-! SUPPORT. Transmit opportunities of drop ports and return directions (R98–R101, R149–R151, R164), and the bytes of the cells that a drop
port sends (R124, R125, R189). -/

namespace Sys2Proof.Machine

/-! ## The cells of a drop port -/

theorem make_payload {bytes : List Byte} {n : Nat} (size : bytes.length + n = 56) (kind marks : Byte) (seq : BitVec 16) :
    (Cell.make kind marks seq bytes).payload.rows = bytes ++ List.replicate n 0 := by
  change (bytes ++ List.replicate 56 0).take 56 = _
  rw [List.take_append, List.take_of_length_le (by omega), List.take_replicate]
  congr 2
  omega

theorem blankLabel_rows : blankLabel.rows = List.replicate 16 0x20 := by decide

theorem displayPayload_length (x : Display) : x.payload.length + 36 = 56 := by
  simp [Display.payload, x.label.size]

/-- The label shown by the display contents (R124). -/
theorem displayContents_label (s : State) (d : DestNo) : (displayContents s d).label.rows =
    match (s.switching.get d).cut.shown with | some n => (s.sources.get n).label.rows | none => List.replicate 16 0x20 := by
  unfold displayContents
  cases (s.switching.get d).cut with
  | steady m =>
    cases m with
    | none => exact blankLabel_rows
    | some n => rfl
  | draining => rfl
  | joining => exact blankLabel_rows

/-- The state shown by the display contents (R124). -/
theorem displayContents_state (s : State) (d : DestNo) : ((displayContents s d).state.map sourceStateCode).getD 255 =
    match (s.switching.get d).cut.shown with
    | some n => (match (s.sources.get n).state with | .undefined => 0 | .absent => 1 | .acquiring => 2 | .locked => 3 | .lost => 4)
    | none => 255 := by
  unfold displayContents
  cases (s.switching.get d).cut with
  | steady m => cases m <;> rfl
  | draining | joining => rfl

theorem displayContents_source (s : State) (d : DestNo) :
    (displayContents s d).source = (s.switching.get d).cut.forwarded := by
  unfold displayContents
  split
  · next h => exact h.symm
  · rfl

theorem tally_bits : ∀ a b c d : Bool, Tally.byte ⟨a, b, c, d⟩ =
    BitVec.ofNat 8 (bitValue 0 a + bitValue 1 b + bitValue 2 c + bitValue 3 d) := by decide

theorem indicators_bits : ∀ r l g n p : Bool, Indicators.byte ⟨r, l, g, n, p⟩ =
    BitVec.ofNat 8 (bitValue 0 r + bitValue 1 l + bitValue 2 g + bitValue 3 n + bitValue 4 p) := by decide

/-- The payload of a DISPLAY cell, before its zeros (11.4). -/
theorem displayPayload_eq (s : State) (d : DestNo) :
    let cut := (s.switching.get d).cut
    (displayContents s d).payload =
    [if cut.isJoining then 254 else match cut.shown with | some n => BitVec.ofNat 8 n.val | none => 255,
      BitVec.ofNat 8 (match cut.shown with
        | some n => let y := (s.sources.get n).tally; bitValue 0 y.pgm + bitValue 1 y.pvw + bitValue 2 y.iso + bitValue 3 y.aux
        | none => 0),
      BitVec.ofNat 8 (bitValue 0 (recordingFails (s.dests.get d)) + bitValue 1 ((s.dests.get d).protection == .locked) +
        bitValue 2 ((s.dests.get d).protection == .guarded) + bitValue 3 (noSignal s d) + bitValue 4 (s.active.get d).isSome),
      match cut.shown with
      | some n => (match (s.sources.get n).state with | .undefined => 0 | .absent => 1 | .acquiring => 2 | .locked => 3 | .lost => 4)
      | none => 255] ++
    match cut.shown with | some n => (s.sources.get n).label.rows | none => List.replicate 16 0x20 := by
  have tally : (displayContents s d).tally.byte = BitVec.ofNat 8 (match (s.switching.get d).cut.shown with
      | some n => let y := (s.sources.get n).tally; bitValue 0 y.pgm + bitValue 1 y.pvw + bitValue 2 y.iso + bitValue 3 y.aux
      | none => 0) := by
    rw [displayContents_tally]
    cases (s.switching.get d).cut.shown with
    | none => exact show Tally.off.byte = 0 by decide
    | some n => exact tally_bits ..
  intro cut
  rw [Display.payload, displayContents_label, displayContents_state, displayContents_source, tally, displayContents_indicators, indicators,
    indicators_bits, forwardedByte_eq]
  rfl

theorem toBytes_four (m : FrameNo) :
    toBytes 4 m.toNat = [m.extractLsb' 24 8, m.extractLsb' 16 8, m.extractLsb' 8 8, m.extractLsb' 0 8] := by
  simp only [toBytes, List.cons.injEq, and_true]
  refine ⟨?_, ?_, ?_, ?_⟩ <;> apply BitVec.eq_of_toNat_eq <;> simp [Nat.shiftRight_eq_div_pow]

theorem channelMarks : ∀ (m : Byte) (ch : Channel),
    ((m &&& 0xF0#8) ||| numByte ch.val).getLsbD 7 = m.getLsbD 7 ∧ ((m &&& 0xF0#8) ||| numByte ch.val).toNat % 16 = ch.val := by
  intro m ch
  revert m
  revert ch
  decide

/-- The heads that every cell of a service entry carries: channel, output sequence number, and no frame-start mark (R185, R189). -/
theorem serviceCell_display (s : State) (p : Port) (ch : Channel) :
    (serviceCell s p ⟨.display, ch⟩).payload.rows = (displayContents s (destOf p ch)).payload ++ List.replicate 36 0 :=
  make_payload (displayPayload_length _) ..

theorem serviceCell_fill (s : State) (p : Port) (ch : Channel) : (serviceCell s p ⟨.fill, ch⟩).payload.rows =
    toBytes 4 (if (s.dests.get (destOf p ch)).format.isSome then
      currentFrame (formatOf s (destOf p ch)) (s.dests.get (destOf p ch)).offset s.houseTime else 0).toNat ++ List.replicate 52 0 :=
  make_payload (by simp) ..

/-! ## Arbitration (R98) -/

section
variable {p : Port} {s : State}

theorem dropOpportunity_service {e : ServiceEntry} {rest : List ServiceEntry} (service : (s.ports.get p).service = e :: rest)
    (turn : serviceTurn s p = true) : dropOpportunity p s = sendService p e rest s := by
  unfold dropOpportunity
  rw [service]
  simp [turn]

theorem dropOpportunity_essence {f : EssenceEntry} {more : List EssenceEntry} (essence : (s.ports.get p).essence = f :: more)
    (waits : (s.ports.get p).service = [] ∨ serviceTurn s p = false) : dropOpportunity p s = sendEssence p f more s := by
  unfold dropOpportunity
  rw [essence]
  cases service : (s.ports.get p).service with
  | nil => rfl
  | cons e rest =>
    have turn : serviceTurn s p = false := waits.resolve_left (by simp [service])
    simp [turn]

theorem dropOpportunity_idle (service : (s.ports.get p).service = []) (essence : (s.ports.get p).essence = []) :
    dropOpportunity p s = sendIdle p s := by
  unfold dropOpportunity
  rw [service, essence]

theorem exec_dropOpportunity (line : s.resetLine = false) :
    exec (.dropTransmitOpportunity p) s = .next (dropOpportunity p s) := by
  change execDropTransmitOpportunity p s = _
  rw [execDropTransmitOpportunity, line]
  rfl

end

/-- Settles O27: each way of the arbitration, and then the cells byte by byte. -/
theorem dropPortArbitrates : Obligations.DropPortArbitrates := by
  unfold Obligations.DropPortArbitrates
  refine ⟨fun p s line => ?_, fun p ch s => ?_, fun c ch seq => ?_⟩
  · rw [exec_dropOpportunity line]
    refine ⟨fun e rest service wins => ?_, fun f more essence waits => ?_, fun service essence => ?_⟩
    · have turn : serviceTurn s p = true := by
        unfold serviceTurn
        rcases wins with he | ⟨f, more, he, start⟩ | full
        · rw [he]
        · simp [he, start]
        · split
          · rfl
          · simp [Config.passOverLimit, full]
      rw [dropOpportunity_service service turn]
      rfl
    · have late : (s.ports.get p).service = [] ∨ serviceTurn s p = false := by
        refine waits.imp_right fun ⟨start, under⟩ => ?_
        simp only [serviceTurn, essence, start, Config.passOverLimit, Bool.false_or]
        exact decide_eq_false (by omega)
      rw [dropOpportunity_essence essence late]
      rfl
    · rw [dropOpportunity_idle service essence]
      rfl
  · intro d x w heads bit joining shown number tally noPicture indicators state label
    have joins : joining = w.cut.isJoining := by
      unfold joining Cut.isJoining
      cases w.cut <;> rfl
    have shows : shown = w.cut.shown := by
      unfold shown Cut.shown
      cases w.cut <;> rfl
    have silent : noPicture = noSignal s d := by
      unfold noPicture
      rw [joins, shows]
      exact (noSignal_eq ..).symm
    refine ⟨rfl, ⟨rfl, rfl, rfl, Cell.make_crcMatches ..⟩, ?_, ⟨rfl, rfl, rfl, Cell.make_crcMatches ..⟩, ?_⟩
    · rw [serviceCell_display, displayPayload_eq]
      unfold number tally indicators state label
      rw [joins, shows, silent]
      rfl
    · refine ⟨if x.format.isSome then currentFrame (formatOf s d) x.offset s.houseTime else 0, ?_, ?_, ?_⟩
      · rw [serviceCell_fill, toBytes_four]
      · intro undefined
        rw [undefined]
        rfl
      · intro f format k
        have own : formatOf s d = s.formats.get f := by
          unfold formatOf
          rw [show (s.dests.get d).format = some f from format]
        rw [format, own]
        rfl
  · obtain ⟨start, stream⟩ := channelMarks c.marks ch
    exact ⟨rfl, rfl, start, Fin.ext stream, rfl, by simp [dropEssenceCell, Cell.crcMatches, Cell.withCrc, Cell.crcOf, Cell.body]⟩

/-! ## Return directions (R149–R151, R164) -/

section
variable {t : Trunk} {s : State}

theorem exec_returnOpportunity (line : s.resetLine = false) :
    exec (.returnTransmitOpportunity t) s = .next (returnOpportunity t s) := by
  change execReturnTransmitOpportunity t s = _
  rw [execReturnTransmitOpportunity, line]
  rfl

theorem returnOpportunity_reply {r : Reply} {rest : List Reply} (replies : (s.returns.get t).replies = r :: rest)
    (turn : (s.returns.get t).reports = [] ∨ (s.returns.get t).pointer = .reply) : returnOpportunity t s = sendReply t r rest s := by
  unfold returnOpportunity
  rw [replies]
  cases reports : (s.returns.get t).reports with
  | nil => rfl
  | cons q more =>
    have pointer := turn.resolve_left (by simp [reports])
    rw [pointer]

theorem returnOpportunity_report {r : Report} {rest : List Report} (reports : (s.returns.get t).reports = r :: rest)
    (turn : (s.returns.get t).replies = [] ∨ (s.returns.get t).pointer = .report) : returnOpportunity t s = sendReport t r rest s := by
  unfold returnOpportunity
  rw [reports]
  cases replies : (s.returns.get t).replies with
  | nil => rfl
  | cons q more =>
    have pointer := turn.resolve_left (by simp [replies])
    rw [pointer]

end

/-- Settles O28: the queue of reports, the mask, and each way of the alternation. -/
theorem returnQueuesAlternate : Obligations.ReturnQueuesAlternate := by
  unfold Obligations.ReturnQueuesAlternate
  refine ⟨fun x r => rfl, fun r s => ⟨_, rfl, rfl, fun u => queueMasked_get r s u⟩, fun t s line => ?_⟩
  rw [exec_returnOpportunity line]
  refine ⟨fun r rest replies turn => ?_, fun r rest reports turn => ?_, fun replies reports => ?_⟩
  · rw [returnOpportunity_reply replies turn]
    rfl
  · rw [returnOpportunity_report reports turn]
    rfl
  · unfold returnOpportunity
    rw [replies, reports]

end Sys2Proof.Machine
end

section
/-! SUPPORT. TAKE and PROBE: the target and the checks in their order (R59–R61), and what a refusal leaves (R60, R163). -/

namespace Sys2Proof.Machine

/-! ## Operand bytes (R59, R60) -/

theorem sourceOperand_some {b : Byte} {source : Option SourceNo} : sourceOperand b = some source ↔
    b.toNat = match source with | none => 255 | some n => n.val := by
  unfold sourceOperand
  by_cases all : b = 255
  · subst all
    cases source with
    | none => simp
    | some n =>
      have := n.isLt
      simp
      omega
  · have other : b.toNat ≠ 255 := fun h => all (BitVec.eq_of_toNat_eq h)
    rw [if_neg all]
    cases source with
    | none => simp [other]
    | some n => simp [sourceNumber_some]

theorem guardOperand_none {b : Byte} : guardOperand b = none ↔ 128 ≤ b.toNat ∧ b ≠ 0xFE ∧ b ≠ 0xFF := by
  unfold guardOperand
  by_cases free : b = 0xFE
  · simp [free]
  · rw [if_neg free]
    by_cases all : b = 0xFF
    · simp [all]
    · rw [if_neg all, Option.map_eq_none_iff, sourceNumber_none, and_iff_left ⟨free, all⟩]

theorem guardOperand_some {b : Byte} {guard : Option (Option SourceNo)} : guardOperand b = some guard ↔
    b.toNat = match guard with | none => 0xFE | some none => 0xFF | some (some n) => n.val := by
  unfold guardOperand
  by_cases free : b = 0xFE
  · subst free
    rcases guard with - | - | n
    · simp
    · simp
    · have := n.isLt
      simp
      omega
  · have notFree : b.toNat ≠ 254 := fun h => free (BitVec.eq_of_toNat_eq h)
    rw [if_neg free]
    by_cases all : b = 0xFF
    · subst all
      rcases guard with - | - | n
      · simp
      · simp
      · have := n.isLt
        simp
        omega
    · have notAll : b.toNat ≠ 255 := fun h => all (BitVec.eq_of_toNat_eq h)
      rw [if_neg all]
      rcases guard with - | - | n
      · simp [notFree]
      · simp [notAll]
      · simp [sourceNumber_some]

theorem namesMode_iff {m : ModeOperand} : namesMode m = true ↔ ∀ b, m ≠ .other b := by
  cases m <;> simp [namesMode]

section
variable {h : Header} {o : TakeOperands} {arm : Arm} {s : State}

theorem checkTake_mode (mode : namesMode o.mode = false) : checkTake h o arm s = .error .operandError := by
  rw [checkTake, mode]
  rfl

theorem checkTake_range (mode : namesMode o.mode = true)
    (range : destOperand o.dest = none ∨ sourceOperand o.source = none ∨ guardOperand o.guardByte = none) :
    checkTake h o arm s = .error .range := by
  rw [checkTake, mode]
  rcases range with e | e | e <;> rw [e]
  · rfl
  · cases destOperand o.dest <;> rfl
  · cases destOperand o.dest <;> cases sourceOperand o.source <;> rfl

theorem checkTake_checked {d : DestNo} {source : Option SourceNo} {guard : Option (Option SourceNo)} (mode : namesMode o.mode = true)
    (hd : destOperand o.dest = some d) (hs : sourceOperand o.source = some source) (hg : guardOperand o.guardByte = some guard) :
    let r : Request := { dest := d, source, guardSource := guard, target := fixTarget s.houseTime o.mode o.frames }
    checkTake h o arm s = match requestFailure s h.owner o.overrideFlag arm r with
      | some st => .error st
      | none => .ok r := by
  rw [checkTake, mode, hd, hs, hg]
  rfl

end

/-! ## The checks as a chain (R60) -/

theorem firstFailure_cons (failed : Bool) (st : Status) (rest : List (Bool × Status)) :
    firstFailure ((failed, st) :: rest) = if failed = true then some st else firstFailure rest := by
  cases failed <;> rfl

theorem ite_or {c : Prop} [Decidable c] {α : Type} (a : α) (x y : Option α) :
    (if c then some a else x).or y = if c then some a else x.or y := by
  split <;> rfl

theorem protectionFailure_eq (x : Dest) (owner : Byte) : protectionFailure x owner =
    if x.protection = .locked ∧ owner ≠ x.owner then some .lockedOut else if x.protection = .guarded then some .isProtected else none := by
  unfold protectionFailure
  cases x.protection with
  | free | guarded => simp
  | locked => by_cases h : owner = x.owner <;> simp [h]

theorem targetFails_iff (s : State) (d : DestNo) (g : Target) : targetFails s d g = true ↔ g.beyond = true ∨
    (g.mode = .frames ∧ 2 ^ 32 < ((switchPlace (formatOf s d) (s.dests.get d).offset s.margin g.time
      (if g.mode = .frames then g.frames.toNat else 0)).switchPoint - s.houseTime).toNat) := by
  rw [targetFails, beyondHorizon, Bool.or_eq_true, Bool.and_eq_true, beq_iff_eq, decide_eq_true_eq]
  rfl

/-- A source that a request names, as its source or its guard. -/
@[reducible] def Request.names (r : Request) (n : SourceNo) : Prop := r.source = some n ∨ r.guardSource = some (some n)

theorem sourceDefined_false {s : State} {m : Option SourceNo} :
    sourceDefined s m = false ↔ ∃ n, m = some n ∧ (s.sources.get n).state = .undefined := by
  cases m <;> simp [sourceDefined]

theorem sourceCarries_false {s : State} {f : Option FormatNo} {m : Option SourceNo} :
    sourceCarries s f m = false ↔ ∃ n, m = some n ∧ (s.sources.get n).format ≠ f := by
  cases m <;> simp [sourceCarries]

theorem Request.names_iff {r : Request} {n : SourceNo} : r.names n ↔ r.source = some n ∨ r.guardSource.join = some n := by
  rw [Request.names, Option.join_eq_some_iff]

/-- A failure that a request's source or guard causes. -/
theorem exists_named {r : Request} {p : SourceNo → Prop} : (∃ n, r.names n ∧ p n) ↔
    (∃ n, r.source = some n ∧ p n) ∨ ∃ n, r.guardSource.join = some n ∧ p n := by
  simp only [Request.names_iff, or_and_right, exists_or]

theorem requestFailure_eq (s : State) (owner : Byte) (override : Bool) (arm : Arm) (r : Request) :
    requestFailure s owner override arm r =
      if (s.dests.get r.dest).format = none then some .undefined
      else if ∃ n, r.names n ∧ (s.sources.get n).state = .undefined then some .undefined
      else if ∃ n, r.names n ∧ (s.sources.get n).format ≠ (s.dests.get r.dest).format then some .formatMismatch
      else if override = true ∧ arm ≠ .overriding r.dest owner then some .noArm
      else if override = false ∧ (s.dests.get r.dest).protection = .locked ∧ owner ≠ (s.dests.get r.dest).owner then some .lockedOut
      else if override = false ∧ (s.dests.get r.dest).protection = .guarded then some .isProtected
      else if override = false ∧ (s.dests.get r.dest).cls = .recorder ∧ (s.dests.get r.dest).recording = true then some .recording
      else if targetFails s r.dest r.target = true then some .range
      else none := by
  have empty : firstFailure [] = none := rfl
  have protects : (if override = true then none else protectionFailure (s.dests.get r.dest) owner) =
      if override = false ∧ (s.dests.get r.dest).protection = .locked ∧ owner ≠ (s.dests.get r.dest).owner then some .lockedOut
      else if override = false ∧ (s.dests.get r.dest).protection = .guarded then some .isProtected else none := by
    rw [protectionFailure_eq]
    cases override <;> simp
  unfold requestFailure
  dsimp only
  rw [protects]
  simp only [firstFailure_cons, empty, ite_or, Option.none_or]
  refine if_congr (by simp) rfl (if_congr ?_ rfl (if_congr ?_ rfl (if_congr ?_ rfl (if_congr Iff.rfl rfl (if_congr Iff.rfl rfl
    (if_congr ?_ rfl rfl))))))
  · rw [exists_named, ← sourceDefined_false, ← sourceDefined_false, Bool.not_eq_true', Bool.and_eq_false_iff]
  · rw [exists_named, ← sourceCarries_false, ← sourceCarries_false, Bool.not_eq_true', Bool.and_eq_false_iff]
  · simp [armMatches]
  · simp [recordingFails]

/-- Settles O36: the target by modes, the decoding, the chain of checks, and the refusals. -/
theorem takeCheckedInOrder : Obligations.TakeCheckedInOrder := by
  unfold Obligations.TakeCheckedInOrder
  refine ⟨fun now x n => ⟨rfl, rfl, rfl⟩, fun h o arm s => ⟨fun ⟨b, other⟩ => ?_, fun mode => ⟨fun range => ?_, ?_⟩⟩, ?_,
    fun t h o s st failed => ⟨fun hr => ?_, fun hr => ?_⟩⟩
  · exact checkTake_mode (by rw [other]; rfl)
  · refine checkTake_range (namesMode_iff.mpr mode) ?_
    rwa [destOperand_none, sourceOperand_none, guardOperand_none]
  · intro d source guard hd hs hg
    exact checkTake_checked (namesMode_iff.mpr mode) (destOperand_some.mpr hd) (sourceOperand_some.mpr hs) (guardOperand_some.mpr hg)
  · intro s owner override arm r x named place beyond
    refine (requestFailure_eq ..).trans ?_
    iterate 7 refine if_congr Iff.rfl rfl ?_
    exact if_congr (targetFails_iff ..) rfl rfl
  · exact (exec_take ..).trans (executeCommand_refused hr (by rw [actTake, failed]))
  · exact (exec_probe ..).trans (executeCommand_refused hr (by rw [actProbe, failed]))

/-! ## A take placed (R63–R65) -/

theorem placeTake_follow_told {b : State} {d : DestNo} {k : Take} {s : State} (hf : placesFollow s d = true) :
    SameTold (placeTake b d k s) (tell .superseded (followAt s d) s) := by
  rw [placeTake_eq_follow hf]
  have told := removeFollow_told d .superseded s
  exact ⟨told.now, told.salvos, told.returns⟩

theorem placeTake_armed_told {b : State} {d : DestNo} {k : Take} {s : State} (hf : placesFollow s d = false) :
    SameTold (placeTake b d k s) (tell .superseded (leaving s d) s) := by
  rw [placeTake_eq_armed hf]
  have told := removeArmed_told d .superseded s
  refine ⟨?_, ?_, ?_⟩
  · simpa using told.now
  · simpa using told.salvos
  · simpa using told.returns

theorem placeTake_eq (b : State) (d : DestNo) (k : Take) (s : State) : placeTake b d k s = { s with
    active := (placeTake b d k s).active, follow := (placeTake b d k s).follow, salvos := (placeTake b d k s).salvos,
    returns := (placeTake b d k s).returns, ports := (placeTake b d k s).ports } := by
  apply State.ext <;> simp

theorem displayVacated_eq (b s : State) : displayVacated b s = { s with ports := (displayVacated b s).ports } :=
  requestDisplays_eq ..

theorem displayVacated_told (b s : State) : SameTold (displayVacated b s) s := by
  rw [displayVacated_eq]
  exact ⟨rfl, rfl, rfl⟩

/-- Nothing is vacated where every take is still followed by one. -/
theorem displayVacated_none {s s' : State} (kept : ∀ e, (s.active.get e).isSome = true → (s'.active.get e).isSome = true) :
    displayVacated s s' = s' := by
  have vacated : ((List.finRange 128).filter fun e => (s.active.get e).isSome && (s'.active.get e).isNone) = [] := by
    refine List.filter_eq_nil_iff.mpr fun e _ => ?_
    have := kept e
    cases h : s.active.get e <;> cases h' : s'.active.get e <;> simp_all
  unfold displayVacated
  rw [vacated]
  rfl

/-- The one destination vacated, of those that held takes. -/
theorem displayVacated_single {s s' : State} {d : DestNo} (held : (s.active.get d).isSome = true) (gone : s'.active.get d = none)
    (kept : ∀ e, e ≠ d → (s.active.get e).isSome = true → (s'.active.get e).isSome = true) :
    displayVacated s s' = requestDisplay d s' := by
  have vacated : ((List.finRange 128).filter fun e => (s.active.get e).isSome && (s'.active.get e).isNone) = [d] := by
    rw [← filter_finRange_eq d]
    refine List.filter_congr fun e _ => ?_
    by_cases h : e = d
    · subst h
      simp [held, gone]
    · have still := kept e h
      have other : (e == d) = false := beq_false_of_ne h
      rw [other]
      cases h : s.active.get e <;> cases h' : s'.active.get e <;> simp_all
  unfold displayVacated
  rw [vacated]
  rfl

theorem removeArmed_ports (d : DestNo) (out : TakeOutcome) (s : State) : (removeArmed d out s).ports = s.ports := by simp

/-- The ports after a take was placed ARMED on a destination: its own entry where PENDING appears, its lost partner's where it vanishes. -/
theorem armedPlaced_ports {d : DestNo} {k : Take} {s : State} (hf : placesFollow s d = false) :
    (displayVacated s (placeTake s d k s)).ports =
      if s.active.get d = none then (requestDisplay d s).ports
      else match boundPartner s d with
        | some e => if e = d then s.ports else (requestDisplay e s).ports
        | none => s.ports := by
  have active := fun e => placeTake_active_get s d k s e
  simp only [hf, Bool.false_eq_true, if_false] at active
  have dests : (placeTake s d k s).dests = s.dests := by simp
  have own : ∀ e, boundPartner s d ≠ some e ∨ e = d → (s.active.get e).isSome = true →
      ((placeTake s d k s).active.get e).isSome = true := fun e other held => by
    rw [active]
    by_cases h : d = e
    · simp [h]
    · have unbound := other.resolve_right (Ne.symm h)
      simp [h, unbound, held]
  by_cases empty : s.active.get d = none
  · rw [if_pos empty, displayVacated_none fun e => own e (.inl (by simp [boundPartner_empty empty])), placeTake_eq_armed hf]
    have shown : (s.active.get d).isNone = true := by simp [empty]
    rw [displayPlaced, if_pos shown]
    exact requestDisplay_ports_congr (by simp) (by simp)
  · have hidden : (s.active.get d).isNone = false := by simpa [← Option.isSome_iff_ne_none] using empty
    have ports : (placeTake s d k s).ports = s.ports := by
      rw [placeTake_eq_armed hf, displayPlaced, hidden]
      simp
    rw [if_neg empty]
    cases hb : boundPartner s d with
    | none => rw [displayVacated_none fun e => own e (.inl (by simp [hb])), ports]
    | some e =>
      by_cases he : e = d
      · rw [displayVacated_none fun c => own c ?_, ports]
        · exact (if_pos he).symm
        · by_cases hc : c = d
          · exact .inr hc
          · exact .inl (by rw [hb, he]; exact fun h => hc (Option.some.inj h).symm)
      · obtain ⟨-, q, -, hq, -⟩ := boundPartner_some hb
        have gone : (placeTake s d k s).active.get e = none := by rw [active]; simp [Ne.symm he, hb]
        rw [displayVacated_single (by simp [hq]) gone fun c hc => own c (.inl (by rw [hb]; exact fun h => hc (Option.some.inj h).symm))]
        exact (requestDisplay_ports_congr (by rw [dests]) ports).trans (if_neg he).symm

end Sys2Proof.Machine
end

section
/-! SUPPORT. TAKE and PROBE that pass their checks (R61–R65, R78), and CANCEL (R76, R122). -/

namespace Sys2Proof.Machine

/-! ## The end of a take made known (R65, R66, R114, R115) -/

theorem add_eq (y : Tallies) (out : TakeOutcome) :
    let one := fun o : TakeOutcome => if out = o then 1 else 0
    y.add out = {
      done := y.done + one .done, late := y.late + one .doneLate, noSignal := y.noSignal + one .noSignal,
      superseded := y.superseded + one .superseded, guardFail := y.guardFail + one .guardFail,
      cancelled := y.cancelled + one .cancelled } := by
  cases out <;> rfl

theorem notifyEnd_slot_eq {d : DestNo} {k : Take} {out : TakeOutcome} {s : State} {m : SlotNo} (h : k.salvo = some m) :
    let x := s.salvos.get m
    let u : State := { s with
      salvos := s.salvos.set m { x with tallies := x.tallies.add out, outstanding := x.outstanding - 1 } }
    notifyEnd d k out s = match x.firingTrunk, x.firingTag with
      | some a, some g =>
        if x.outstanding = 1 ∧ g ≠ 0 then
          { u with returns := s.returns.modify a (·.push (.salvoDone m g (x.tallies.add out) s.houseTime)) }
        else u
      | _, _ => u := by
  simp only [notifyEnd, h]
  rfl

/-! ## TAKE (R62, R63) -/

theorem takeFields_eq (s : State) (r : Request) : takeFields s r =
    let p := placeFor s r.dest r.target.mode r.target.time r.target.frames
    if placesFollow s r.dest = true then
      [.enumeration 3, .flag (s.follow.get r.dest).isSome, .flag r.target.late, .flag false, .time 0, .flag false, .frame 0]
    else [.enumeration 1, .flag (s.active.get r.dest).isSome, .flag r.target.late, .flag true, .time p.switchPoint, .flag true,
      .frame p.frame] := by
  unfold takeFields supersedes placementCode
  cases placesFollow s r.dest <;> rfl

/-- Everything that a TAKE that passes does, before its reply. -/
structure TookOn (s : State) (d : DestNo) (k : Take) (y : State) : Prop where
  rest : y = { s with active := y.active, follow := y.follow, salvos := y.salvos, returns := y.returns, ports := y.ports }
  follows : placesFollow s d = true → y.active = s.active ∧ y.follow = s.follow.set d (some { k with state := .following, placed := none }) ∧
    y.ports = s.ports ∧ SameTold y (tell .superseded (followAt s d) s)
  arms : placesFollow s d = false → y.follow = s.follow ∧
    (∀ e, y.active.get e = if d = e then some (armedTake s d k) else if boundPartner s d = some e then none else s.active.get e) ∧
    SameTold y (tell .superseded (leaving s d) s)
  ports : placesFollow s d = false → y.ports =
    if s.active.get d = none then (requestDisplay d s).ports
    else match boundPartner s d with
      | some e => if e = d then s.ports else (requestDisplay e s).ports
      | none => s.ports

theorem armedTake_congr {s s' : State} (frames : SameFramePoints s s') (dests : s'.dests = s.dests) (margin : s'.margin = s.margin)
    (d : DestNo) (k : Take) : armedTake s' d k = armedTake s d k := by
  rw [armedTake, armedTake, placeFor_congr frames dests margin]

theorem placeTake_tookOn (s : State) (d : DestNo) (k : Take) : TookOn s d k (displayVacated s (placeTake s d k s)) := by
  have rest : displayVacated s (placeTake s d k s) = { s with
      active := (placeTake s d k s).active, follow := (placeTake s d k s).follow, salvos := (placeTake s d k s).salvos,
      returns := (placeTake s d k s).returns, ports := (displayVacated s (placeTake s d k s)).ports } := by
    apply State.ext <;> simp
  have told := displayVacated_told s (placeTake s d k s)
  refine ⟨?_, fun hf => ?_, fun hf => ?_, armedPlaced_ports⟩
  · generalize displayVacated s (placeTake s d k s) = y at rest ⊢
    rw [rest]
  · have active : (placeTake s d k s).active = s.active := Tbl.ext_get fun e => by rw [placeTake_active_get, if_pos hf]
    have ports : (placeTake s d k s).ports = s.ports := by
      rw [placeTake_eq_follow hf]
      simp
    have still : displayVacated s (placeTake s d k s) = placeTake s d k s :=
      displayVacated_none fun e held => by rwa [active]
    rw [still] at told ⊢
    refine ⟨active, Tbl.ext_get fun e => ?_, ports, placeTake_follow_told hf⟩
    rw [placeTake_follow_get, Tbl.get_set]
    simp [hf]
  · have active (e : DestNo) := placeTake_active_get s d k s e
    simp only [hf, Bool.false_eq_true, if_false] at active
    have same : armedTake (removeArmed d .superseded s) d k = armedTake s d k :=
      armedTake_congr (.of_formats (by simp)) (by simp) (by simp) d k
    refine ⟨?_, fun e => ?_, told.trans (placeTake_armed_told hf)⟩
    · rw [rest]
      exact Tbl.ext_get fun e => by rw [placeTake_follow_get]; simp [hf]
    · rw [rest]
      exact (active e).trans (by rw [same])

/-- Settles O37: how an end is made known, and the take placed by the position it finds. -/
theorem takePlaced : Obligations.TakePlaced := by
  unfold Obligations.TakePlaced
  refine ⟨fun d k out s => ⟨fun alone => notifyEnd_single_eq alone, fun m slot => ?_⟩, fun t h o s r hr passes => ?_⟩
  · intro x one y u
    refine (notifyEnd_slot_eq slot).trans ?_
    rw [add_eq] <;> rfl
  · intro k p follows fields
    let u := headTaken s t
    have framed : SameTold u s := ⟨rfl, rfl, rfl⟩
    have took := placeTake_tookOn u r.dest (newTake t h.tag (.fixed r.source) r.guardSource r.target o.overrideFlag)
    have act : actTake t h o (s.arms.get t) u =
        ⟨displayVacated u (placeTake u r.dest (newTake t h.tag (.fixed r.source) r.guardSource r.target o.overrideFlag) u),
          acceptedStatus r.target.late, fields⟩ := by
      rw [actTake, passes]
      dsimp only
      rw [takeFields_eq]
      rfl
    generalize displayVacated u _ = y at took act
    refine ⟨y, (exec_take ..).trans (executeCommand_of_act hr act), took.rest, fun hf => ?_, fun hf => ?_, fun hf occupied => ?_, ?_⟩
    · obtain ⟨active, follow, ports, -⟩ := took.follows hf
      exact ⟨active, follow, ports⟩
    · obtain ⟨follow, active, -⟩ := took.arms hf
      refine ⟨follow, (active r.dest).trans (if_pos rfl), fun e he => (active e).trans (if_neg (Ne.symm he)), fun empty => ?_⟩
      exact (took.ports hf).trans ((if_pos empty).trans (requestDisplay_ports_congr rfl rfl))
    · refine (took.ports hf).trans ((if_neg occupied).trans ?_)
      have partner : boundPartner u r.dest = boundPartner s r.dest := boundPartner_congr rfl _
      rw [partner]
      cases boundPartner s r.dest with
      | none => rfl
      | some e => exact if_congr Iff.rfl rfl (requestDisplay_ports_congr rfl rfl)
    · intro held removed told
      have list : SameTold y (tell .superseded removed u) := by
        cases hf : follows with
        | true =>
          have := (took.follows hf).2.2.2
          unfold removed
          rw [hf]
          exact this
        | false =>
          obtain ⟨-, -, leaves⟩ := took.arms hf
          unfold removed
          rw [hf]
          exact leaves
      have all := list.trans (tell_told framed .superseded removed)
      exact ⟨all.salvos, all.returns⟩

theorem probeFields_eq (s : State) (r : Request) : probeFields s r =
    let p := placeFor s r.dest r.target.mode r.target.time r.target.frames
    let follows := placesFollow s r.dest
    [.enumeration (if follows then 3 else 1), .flag (if follows then (s.follow.get r.dest).isSome else (s.active.get r.dest).isSome),
      .flag r.target.late, .time p.switchPoint, .flag follows, .frame p.frame, .flag follows] := by
  unfold probeFields supersedes placementCode
  cases placesFollow s r.dest <;> rfl

/-- Settles O38: PROBE takes the branch of the checks that TAKE takes. -/
theorem probeAnswersAsTake : Obligations.ProbeAnswersAsTake := by
  unfold Obligations.ProbeAnswersAsTake
  intro t h o s hr
  cases check : checkTake h o (s.arms.get t) (headTaken s t) with
  | error st =>
    refine ⟨st, [], (exec_probe ..).trans (executeCommand_refused hr (by rw [actProbe, check])), ?_, fun r passes => nomatch passes⟩
    rw [actTake, check]
    rfl
  | ok r =>
    refine ⟨_, _, (exec_probe ..).trans (executeCommand_of_act hr (by rw [actProbe, check])), ?_, fun q passes => ?_⟩
    · rw [actTake, check]
    · cases passes
      exact probeFields_eq ..

/-! ## Pending takes removed (R46, R76, R122) -/

/-- The takes that a removal of pending takes makes known, in its order. -/
def pendingOf (s : State) (d : DestNo) (spare : Take → Bool) : List (DestNo × Take) :=
  (if removesArmed s d spare then leaving s d else []) ++ if removesFollow s d spare then followAt s d else []

/-- Everything that a removal of a destination's pending takes does. -/
structure PendingRemoved (s : State) (d : DestNo) (spare : Take → Bool) (y : State) : Prop where
  rest : y = { s with active := y.active, follow := y.follow, salvos := y.salvos, returns := y.returns }
  active : ∀ e, y.active.get e =
    if removesArmed s d spare = true ∧ (d = e ∨ boundPartner s d = some e) then none else s.active.get e
  follow : y.follow = if removesFollow s d spare then s.follow.set d none else s.follow
  told : SameTold y (tell .cancelled (pendingOf s d spare) s)

/-- The ARMED take with its partner removed, unless it is spared. -/
def cancelArmed (d : DestNo) (spare : Take → Bool) (s : State) : State :=
  if removesArmed s d spare then removeArmed d .cancelled s else s

theorem cancelPending_eq (d : DestNo) (spare : Take → Bool) (s : State) : cancelPending d spare s =
    if removesFollow s d spare then removeFollow d .cancelled (cancelArmed d spare s) else cancelArmed d spare s := rfl

theorem cancelArmed_eq (d : DestNo) (spare : Take → Bool) (s : State) : cancelArmed d spare s = { s with
    active := (cancelArmed d spare s).active, salvos := (cancelArmed d spare s).salvos, returns := (cancelArmed d spare s).returns } := by
  unfold cancelArmed
  split
  · apply State.ext <;> simp
  · rfl

theorem cancelArmed_get (d : DestNo) (spare : Take → Bool) (s : State) (e : DestNo) : (cancelArmed d spare s).active.get e =
    if removesArmed s d spare = true ∧ (d = e ∨ boundPartner s d = some e) then none else s.active.get e := by
  unfold cancelArmed
  split
  · next h => rw [removeArmed_get]; simp [h]
  · next h => simp [h]

theorem cancelArmed_told (d : DestNo) (spare : Take → Bool) (s : State) :
    SameTold (cancelArmed d spare s) (tell .cancelled (if removesArmed s d spare then leaving s d else []) s) := by
  unfold cancelArmed
  split
  · exact removeArmed_told d .cancelled s
  · exact .refl s

theorem removeFollow_eq (d : DestNo) (out : TakeOutcome) (s : State) : removeFollow d out s = { s with
    follow := (removeFollow d out s).follow, salvos := (removeFollow d out s).salvos, returns := (removeFollow d out s).returns } := by
  apply State.ext <;> simp

theorem cancelPending_removed (s : State) (d : DestNo) (spare : Take → Bool) : PendingRemoved s d spare (cancelPending d spare s) := by
  have told := cancelArmed_told d spare s
  have active := cancelArmed_get d spare s
  have rest := cancelArmed_eq d spare s
  have follow : (cancelArmed d spare s).follow = s.follow := by rw [rest]
  rw [cancelPending_eq]
  generalize cancelArmed d spare s = x at told follow active rest ⊢
  by_cases h : removesFollow s d spare = true
  · have held : followAt x d = followAt s d := by rw [followAt, follow, followAt]
    rw [if_pos h]
    refine ⟨?_, fun e => ?_, ?_, ?_⟩
    · have all := removeFollow_eq d .cancelled x
      generalize removeFollow d .cancelled x = y at all ⊢
      rw [all]
      dsimp only
      rw [rest]
    · rw [show (removeFollow d .cancelled x).active = x.active by simp, active]
    · rw [if_pos h]
      exact Tbl.ext_get fun e => by rw [removeFollow_get, Tbl.get_set, follow]
    · rw [pendingOf, if_pos h, tell_append]
      exact (held ▸ removeFollow_told d .cancelled x).trans (tell_told told ..)
  · rw [if_neg h]
    refine ⟨by rw [rest], active, by rw [if_neg h, follow], ?_⟩
    · rw [pendingOf, if_neg h, List.append_nil]
      exact told

/-- The entries that a removal of pending takes requests (R65, stage 5). -/
theorem PendingRemoved.vacated {s y z : State} {d : DestNo} {spare : Take → Bool} (h : PendingRemoved s d spare y)
    (same : z.active = y.active) : displayVacated s z = requestDisplays ((List.finRange 128).filter fun e =>
      removesArmed s d spare && (e == d || ((boundPartner s d).toList.filter (· ≠ d)).contains e)) z := by
  unfold displayVacated
  congr 1
  refine List.filter_congr fun e _ => ?_
  rw [same, h.active]
  by_cases r : removesArmed s d spare = true
  · obtain ⟨k, hk, -, -⟩ := removesArmed_iff.mp r
    by_cases own : d = e
    · subst own
      simp [r, hk]
    · by_cases bound : boundPartner s d = some e
      · obtain ⟨-, q, -, hq, -⟩ := boundPartner_some bound
        simp [r, bound, hq, Ne.symm own]
      · have other : e ≠ d := Ne.symm own
        have kept : ((s.active.get e).isSome && (s.active.get e).isNone) = false := by cases s.active.get e <;> rfl
        simp only [r, own, bound, false_or, and_false, if_false, kept, Bool.true_and]
        simp only [Bool.false_eq, Bool.or_eq_false_iff, beq_eq_false_iff_ne, ne_eq, other, not_false_eq_true, true_and]
        cases hb : boundPartner s d with
        | none => rfl
        | some p =>
          have : e ≠ p := fun hp => bound (hp ▸ hb)
          by_cases hp : p = d <;> simp [hp, this]
  · have quiet : removesArmed s d spare = false := by simpa using r
    rw [quiet]
    cases s.active.get e <;> simp

theorem removesArmed_all (s : State) (d : DestNo) : removesArmed s d (fun _ => false) = isArmed (s.active.get d) := by
  unfold removesArmed isArmed
  cases s.active.get d <;> simp

theorem removesFollow_all (s : State) (d : DestNo) : removesFollow s d (fun _ => false) = (s.follow.get d).isSome := by
  unfold removesFollow
  cases s.follow.get d <;> simp

theorem pendingOf_all (s : State) (d : DestNo) : pendingOf s d (fun _ => false) =
    (if isArmed (s.active.get d) then leaving s d else []) ++ followAt s d := by
  rw [pendingOf, removesArmed_all, removesFollow_all]
  congr 1
  unfold followAt
  cases s.follow.get d <;> rfl

theorem protectionFailure_lockedOut {x : Dest} {owner : Byte} (locked : x.protection = .locked) (other : owner ≠ x.owner) :
    protectionFailure x owner = some .lockedOut := by
  rw [protectionFailure_eq, if_pos ⟨locked, other⟩]

theorem protectionFailure_guarded {x : Dest} {owner : Byte} (guarded : x.protection = .guarded) :
    protectionFailure x owner = some .isProtected := by
  rw [protectionFailure, guarded]

/-- Settles O39: the refusals, and the pending takes removed and counted. -/
theorem cancelRemovesPending : Obligations.CancelRemovesPending := by
  unfold Obligations.CancelRemovesPending
  refine ⟨fun t h b s hr => ?_, fun t h b d s hr hd free => ?_⟩
  · intro refused
    refine ⟨fun range => ?_, ?_⟩
    · refine (exec_cancel ..).trans (executeCommand_refused hr ?_)
      rw [actCancel, destOperand_none.mpr range]
    intro d hd x
    refine ⟨fun locked other => ?_, fun guarded => ?_⟩
    · refine (exec_cancel ..).trans (executeCommand_refused hr ?_)
      have fails : protectionFailure ((headTaken s t).dests.get d) h.owner = some .lockedOut :=
        protectionFailure_lockedOut locked other
      rw [actCancel, destOperand_some.mpr hd]
      dsimp only
      rw [fails]
    · refine (exec_cancel ..).trans (executeCommand_refused hr ?_)
      have fails : protectionFailure ((headTaken s t).dests.get d) h.owner = some .isProtected :=
        protectionFailure_guarded guarded
      rw [actCancel, destOperand_some.mpr hd]
      dsimp only
      rw [fails]
  · intro armed count
    let u := headTaken s t
    have framed : SameTold u s := ⟨rfl, rfl, rfl⟩
    have passes : protectionFailure (u.dests.get d) h.owner = none := free
    have act : actCancel h b u = ⟨displayVacated u (cancelPending d (fun _ => false) u), .ok, [.quantity (BitVec.ofNat 8 count)]⟩ := by
      rw [actCancel, hd]
      dsimp only
      rw [passes]
      dsimp only
      rw [cancelCount, removesArmed_all, removesFollow_all]
      rfl
    have removed := cancelPending_removed u d fun _ => false
    have shown := removed.vacated rfl
    have all : removesArmed u d (fun _ => false) = armed := removesArmed_all u d
    have following : removesFollow u d (fun _ => false) = (s.follow.get d).isSome := removesFollow_all u d
    have follow : (cancelPending d (fun _ => false) u).follow = s.follow.set d none := by
      rw [removed.follow, following]
      cases hf : s.follow.get d with
      | some k => rfl
      | none => exact (congrArg (s.follow.set d) hf).symm.trans (Tbl.set_get ..) |>.symm
    have active := removed.active
    have told := removed.told
    have framedRest := removed.rest
    rw [all] at active
    generalize cancelPending d (fun _ => false) u = y at act shown follow active told framedRest
    refine ⟨displayVacated u y, (exec_cancel ..).trans (executeCommand_of_act hr act), ?_, ?_, fun e he => ?_, ?_⟩
    · have display := displayVacated_eq u y
      generalize displayVacated u y = z at display ⊢
      rw [display]
      dsimp only
      rw [framedRest]
      dsimp only
      rw [← follow]
    · rw [displayVacated_eq]
      exact (active d).trans (if_congr (by simp) rfl rfl)
    · rw [displayVacated_eq]
      refine (active e).trans (if_congr ⟨fun ⟨_, h⟩ => h.resolve_left (Ne.symm he), fun h => ⟨armed_of_bound (s := s) h, .inr h⟩⟩ rfl rfl)
    · intro partner held removed told'
      have list : pendingOf u d (fun _ => false) = removed := pendingOf_all u d
      have same : SameTold (displayVacated u y) told' :=
        (displayVacated_told u y).trans (told.trans (list ▸ tell_told framed ..))
      refine ⟨same.salvos, same.returns, ?_⟩
      rw [shown, all]
      refine requestDisplays_ports_congr _ ?_ ?_
      · rw [framedRest]
        rfl
      · rw [framedRest]
        rfl

end Sys2Proof.Machine
end

section
/-! SUPPORT. RECORD_STATE (R45, R46) and DEST_DEFINE (R39–R43). -/

namespace Sys2Proof.Machine

/-! ## RECORD_STATE (R45, R46) -/

/-- What RECORD_STATE spares: everything when it sets OFF, the takes with override-used when it sets ON. -/
def recordSpares (on : Bool) (k : Take) : Bool := !on || k.overrideUsed

theorem removesArmed_records (on : Bool) (s : State) (d : DestNo) : removesArmed s d (recordSpares on) =
    (on && (s.active.get d).any fun k => k.state == .armed && !k.overrideUsed) := by
  unfold removesArmed recordSpares
  cases on <;> cases s.active.get d <;> simp

theorem removesFollow_records (on : Bool) (s : State) (d : DestNo) : removesFollow s d (recordSpares on) =
    (on && (s.follow.get d).any fun k => !k.overrideUsed) := by
  unfold removesFollow recordSpares
  cases on <;> cases s.follow.get d <;> simp

/-- The state of a RECORD_STATE that passes, for both states it can set. -/
def recorded (d : DestNo) (on : Bool) (s : State) : State :=
  displayVacated s (displayRecording d (s.dests.get d).recording on (cancelPending d (recordSpares on) (storeRecording d on s)))

theorem actRecordState_recorder {b code : Byte} {d : DestNo} {on : Bool} {s : State} (hd : destOperand b = some d)
    (hon : onOffOperand code = some on) (defined : (s.dests.get d).format.isSome = true) (cls : (s.dests.get d).cls = .recorder) :
    actRecordState b code s = ⟨recorded d on s, .ok, [countField (cancelCount s d (recordSpares on))]⟩ := by
  have present : (s.dests.get d).format.isNone = false := by simpa using defined
  rw [actRecordState, hd]
  dsimp only
  rw [present, hon, if_neg (by decide)]
  dsimp only
  rw [if_neg (not_not.mpr cls)]
  cases on with
  | true => rfl
  | false =>
    have spared : removesArmed (storeRecording d false s) d (recordSpares false) = false := removesArmed_records ..
    have kept : removesFollow (storeRecording d false s) d (recordSpares false) = false := removesFollow_records ..
    have still : cancelPending d (recordSpares false) (storeRecording d false s) = storeRecording d false s := by
      rw [cancelPending_eq, cancelArmed, spared, kept]
      rfl
    have none : cancelCount s d (recordSpares false) = 0 := by
      rw [cancelCount, removesArmed_records, removesFollow_records]
      rfl
    have displays : (displayRecording d (s.dests.get d).recording false (storeRecording d false s)).active = s.active := by
      unfold displayRecording
      split <;> simp [storeRecording]
    rw [recorded, still, none, displayVacated_none fun e held => by rwa [displays]]
    rfl

theorem displayRecording_eq (d : DestNo) (was on : Bool) (s : State) : displayRecording d was on s =
    { s with ports := if was = on then s.ports else (requestDisplay d s).ports } := by
  unfold displayRecording
  split
  · rfl
  · exact requestDisplay_eq ..

/-- Everything that a RECORD_STATE that passes does. -/
structure RecordedOn (s : State) (d : DestNo) (on : Bool) (z : State) : Prop where
  rest : z = { s with
    dests := s.dests.modify d (fun x => { x with recording := on }), active := z.active, follow := z.follow, salvos := z.salvos,
    returns := z.returns, ports := z.ports }
  active : ∀ e, z.active.get e =
    if removesArmed s d (recordSpares on) = true ∧ (d = e ∨ boundPartner s d = some e) then none else s.active.get e
  follow : z.follow = if removesFollow s d (recordSpares on) then s.follow.set d none else s.follow
  told : SameTold z (tell .cancelled (pendingOf s d (recordSpares on)) s)
  ports : removesArmed s d (recordSpares on) = false →
    z.ports = if (s.dests.get d).recording = on then s.ports else (requestDisplay d s).ports

theorem recorded_recordedOn (s : State) (d : DestNo) (on : Bool) : RecordedOn s d on (recorded d on s) := by
  have removed : PendingRemoved (storeRecording d on s) d (recordSpares on) (cancelPending d (recordSpares on) (storeRecording d on s)) :=
    cancelPending_removed ..
  unfold recorded
  generalize cancelPending d (recordSpares on) (storeRecording d on s) = y at removed ⊢
  have shown := displayRecording_eq d (s.dests.get d).recording on y
  generalize hx : displayRecording d (s.dests.get d).recording on y = x at shown ⊢
  have vacated := displayVacated_eq s x
  have told := displayVacated_told s x
  have active : x.active = y.active := by rw [shown]
  refine ⟨?_, fun e => ?_, ?_, ?_, fun quiet => ?_⟩
  · generalize displayVacated s x = z at vacated ⊢
    rw [vacated]
    dsimp only
    rw [shown]
    dsimp only
    rw [removed.rest]
    rfl
  · rw [vacated]
    exact (congrArg (Tbl.get · e) active).trans (removed.active e)
  · rw [vacated]
    exact (congrArg State.follow shown).trans removed.follow
  · refine told.trans (.trans ⟨?_, ?_, ?_⟩ (removed.told.trans (tell_told (u := storeRecording d on s) (v := s) ⟨rfl, rfl, rfl⟩ ..))) <;> rw [shown]
  · have still (e : DestNo) (held : (s.active.get e).isSome = true) : (x.active.get e).isSome = true := by
      have kept : y.active.get e = s.active.get e :=
        (removed.active e).trans (if_neg fun h => Bool.false_ne_true (quiet.symm.trans h.1))
      rwa [active, kept]
    rw [displayVacated_none still, shown]
    have ports : y.ports = s.ports := by rw [removed.rest]; rfl
    refine if_congr Iff.rfl ports (requestDisplay_ports_congr ?_ ports)
    rw [removed.rest]
    show ((s.dests.modify d _).get d).format = _
    rw [Tbl.get_modify_self]

theorem onOffOperand_none {b : Byte} (h : 2 ≤ b.toNat) : onOffOperand b = none := by
  unfold onOffOperand
  rw [if_neg, if_neg] <;> rintro rfl <;> exact absurd h (by decide)

/-- Settles O47: the refusals, and the recording state set with the pending takes removed. -/
theorem recordStateSetsRecording : Obligations.RecordStateSetsRecording := by
  unfold Obligations.RecordStateSetsRecording
  refine ⟨fun t h b code s hr => ?_, fun t h b code d on s hr hd hon defined cls => ?_⟩
  · intro refused
    refine ⟨fun range => ?_, ?_⟩
    · exact (exec_recordState ..).trans (executeCommand_refused hr (by rw [actRecordState, destOperand_none.mpr range]))
    intro d hd x
    refine ⟨fun undefined => ?_, fun defined wrong => ?_⟩
    · have absent : ((headTaken s t).dests.get d).format.isNone = true := Option.isNone_iff_eq_none.mpr undefined
      refine (exec_recordState ..).trans (executeCommand_refused hr ?_)
      rw [actRecordState, destOperand_some.mpr hd]
      dsimp only
      rw [if_pos absent]
    · have present : ¬((headTaken s t).dests.get d).format.isNone = true := fun h => defined (Option.isNone_iff_eq_none.mp h)
      refine (exec_recordState ..).trans (executeCommand_refused hr ?_)
      rw [actRecordState, destOperand_some.mpr hd]
      dsimp only
      rw [if_neg present]
      cases hon : onOffOperand code with
      | none => rfl
      | some on =>
        have monitor : ((headTaken s t).dests.get d).cls ≠ .recorder :=
          wrong.resolve_left fun none => nomatch hon.symm.trans (onOffOperand_none none)
        exact if_pos monitor
  · intro armed following count
    let u := headTaken s t
    have act := actRecordState_recorder (s := u) hd hon defined cls
    have done := recorded_recordedOn u d on
    have all : removesArmed u d (recordSpares on) = armed := removesArmed_records ..
    have follows : removesFollow u d (recordSpares on) = following := removesFollow_records ..
    have counted : cancelCount u d (recordSpares on) = count := by rw [cancelCount, all, follows]; rfl
    rw [counted] at act
    obtain ⟨rest, active, follow, told, ports⟩ := done
    rw [all] at active ports
    rw [follows] at follow
    generalize recorded d on u = z at act rest active follow told ports
    refine ⟨z, (exec_recordState ..).trans (executeCommand_of_act hr act), rest, ?_, fun e he => ?_, follow, ?_, fun none => ?_⟩
    · exact (active d).trans (if_congr (by simp) rfl rfl)
    · exact (active e).trans (if_congr (and_congr_right fun _ => or_iff_right (Ne.symm he)) rfl rfl)
    · intro partner held removed told'
      have list : pendingOf u d (recordSpares on) = removed := by
        rw [pendingOf, all, follows]
        rfl
      have same : SameTold z told' := told.trans (list ▸ tell_told (u := u) (v := s) ⟨rfl, rfl, rfl⟩ ..)
      exact ⟨same.salvos, same.returns⟩
    · have quiet : armed = false := by
        cases h : armed with
        | false => rfl
        | true =>
          have some : 1 ≤ count := by
            unfold count
            rw [h, if_pos rfl]
            split <;> omega
          omega
      exact (ports quiet).trans (if_congr Iff.rfl rfl (requestDisplay_ports_congr rfl rfl))

end Sys2Proof.Machine
end

section
/-! SUPPORT. DEST_DEFINE (R39–R43). -/

namespace Sys2Proof.Machine

/-! ## The class and the format stored (R40–R43) -/

/-- The record of a destination after DEST_DEFINE gives it a class, a format and an offset (R40–R43). -/
def Dest.redefined (x : Dest) (c : DestClass) (format : Option FormatNo) (offset : Int) : Dest :=
  { x with cls := c, recording := x.recording && x.cls == .recorder && c == .recorder, format, offset }

/-- The ports after a class was stored: a DISPLAY entry where a MONITOR stops recording (R43). -/
def classPorts (s : State) (d : DestNo) (c : DestClass) : Tbl DropPort 8 :=
  if c = .monitor ∧ (s.dests.get d).recording = true then (requestDisplay d s).ports else s.ports

theorem storeClass_eq (d : DestNo) (c : DestClass) (s : State) : storeClass d c s = { s with
    dests := s.dests.modify d fun x => { x with cls := c, recording := recordingFails x && c == .recorder }
    ports := classPorts s d c } := by
  unfold storeClass classPorts
  dsimp only
  split
  · refine (requestDisplay_eq ..).trans ?_
    have ports : (requestDisplay d (s.updDest d fun x => { x with cls := c, recording := recordingFails x && c == .recorder })).ports =
        (requestDisplay d s).ports := by
      refine requestDisplay_ports_congr ?_ rfl
      show ((s.dests.modify d _).get d).format = _
      rw [Tbl.get_modify_self]
    rw [ports]
    rfl
  · rfl

/-- The state with class, format and offset of a destination stored. -/
def destStored (s : State) (d : DestNo) (c : DestClass) (format : Option FormatNo) (offset : Int) : State :=
  { s with dests := s.dests.set d ((s.dests.get d).redefined c format offset), ports := classPorts s d c }

theorem storeClass_stored (s : State) (d : DestNo) (c : DestClass) (format : Option FormatNo) (offset : Int) :
    ((storeClass d c s).updDest d fun x => { x with format, offset }) = destStored s d c format offset := by
  rw [storeClass_eq]
  have record : ({ ({ s.dests.get d with
      cls := c, recording := recordingFails (s.dests.get d) && c == .recorder } : Dest) with format, offset } : Dest) =
      (s.dests.get d).redefined c format offset := by
    rw [recordingFails, Bool.and_comm ((s.dests.get d).cls == .recorder)]
    rfl
  unfold State.updDest destStored
  dsimp only
  rw [Tbl.modify_modify, Tbl.modify_eq_set, record]

theorem storeClass_kept (s : State) (d : DestNo) (c : DestClass) : ((storeClass d c s).dests.get d).format = (s.dests.get d).format ∧
    ((storeClass d c s).dests.get d).offset = (s.dests.get d).offset := by
  rw [storeClass_dests, Tbl.get_modify_self]
  exact ⟨rfl, rfl⟩

/-- A format stored, by the format that the destination had (R40, R42). -/
theorem formatDest_stored (s : State) (d : DestNo) (c : DestClass) (f : FormatNo) (o : Int) :
    formatDest d f o (storeClass d c s) = match (s.dests.get d).format with
      | none => requestDisplay d (armFillNext d (destStored s d c (some f) o))
      | some g =>
        if g ≠ f then realignFill (· == d) (destStored s d c (some f) o)
        else if o = (s.dests.get d).offset then destStored s d c (some f) o
        else offsetMoved d (destStored s d c (some f) o) := by
  obtain ⟨format, offset⟩ := storeClass_kept s d c
  rw [← storeClass_stored]
  unfold formatDest
  cases hf : (s.dests.get d).format with
  | none => simp only [format, hf]
  | some g => simp only [format, hf, offset]

/-! ## The operands (R39) -/

theorem classOperand_none {b : Byte} (h : 2 ≤ b.toNat) : classOperand b = none := by
  unfold classOperand
  rw [if_neg, if_neg] <;> rintro rfl <;> exact absurd h (by decide)

theorem formatOperand_none {b : Byte} : formatOperand b = none ↔ 16 ≤ b.toNat ∧ b ≠ 255 := by
  unfold formatOperand
  split
  · next all => simp [all]
  · next other => rw [Option.map_eq_none_iff, formatNumber_none, and_iff_left other]

theorem formatOperand_number {b : Byte} {f : FormatNo} : formatOperand b = some (some f) ↔ b.toNat = f.val := by
  unfold formatOperand
  split
  · next all =>
    subst all
    have := f.isLt
    simp
    omega
  · simp [formatNumber_some]

theorem namesUndefined_false {s : State} {g : Option FormatNo} (h : ∀ e, g = some e → (s.formats.get e).defined = true) :
    namesUndefined s g = false := by
  cases g with
  | none => rfl
  | some e => simp [namesUndefined, h e rfl]

section
variable {o : DestOperands} {d : DestNo} {g : Option FormatNo} {c : DestClass} {s : State}

theorem actDestDefine_checked (held : s.mode = .held) (hd : destOperand o.dest = some d) (hg : formatOperand o.format = some g)
    (defined : ∀ e, g = some e → (s.formats.get e).defined = true) (hc : classOperand o.cls = some c) :
    actDestDefine o s = if destInUse s d g then refuse s .inUse else defineDest d g c o.offset.toInt s := by
  rw [actDestDefine, if_neg (not_not.mpr held), hd, hg]
  dsimp only
  rw [namesUndefined_false defined, hc]
  rfl

theorem actDestDefine_range (held : s.mode = .held) (range : destOperand o.dest = none ∨ formatOperand o.format = none) :
    actDestDefine o s = refuse s .range := by
  rw [actDestDefine, if_neg (not_not.mpr held)]
  rcases range with e | e <;> rw [e]
  cases destOperand o.dest <;> rfl

theorem actDestDefine_undefined (held : s.mode = .held) (hd : destOperand o.dest = some d) (hg : formatOperand o.format = some g)
    (missing : namesUndefined s g = true) : actDestDefine o s = refuse s .undefined := by
  rw [actDestDefine, if_neg (not_not.mpr held), hd, hg]
  exact if_pos missing

theorem actDestDefine_class (held : s.mode = .held) (hd : destOperand o.dest = some d) (hg : formatOperand o.format = some g)
    (defined : namesUndefined s g = false) (hc : classOperand o.cls = none) : actDestDefine o s = refuse s .operandError := by
  rw [actDestDefine, if_neg (not_not.mpr held), hd, hg]
  dsimp only
  rw [defined, hc]
  rfl

theorem destInUse_same : destInUse s d (s.dests.get d).format = false := by
  simp [destInUse]

theorem destInUse_iff (other : (s.dests.get d).format ≠ g) :
    destInUse s d g = true ↔ (s.dests.get d).current ≠ none ∨ s.active.get d ≠ none ∨ s.follow.get d ≠ none := by
  simp [destInUse, other, Option.isSome_iff_ne_none, or_assoc]

end

/-! ## The format kept (R42, R43) -/

theorem offsetMoved_eq (d : DestNo) (s : State) : offsetMoved d s = { s with
    active := (offsetMoved d s).active, switching := (offsetMoved d s).switching } := by
  apply State.ext <;> simp

theorem offsetMoved_get_ne {d e : DestNo} (s : State) (h : e ≠ d) :
    (offsetMoved d s).active.get e = s.active.get e ∧ (offsetMoved d s).switching.get e = s.switching.get e := by
  have other : (e == d) = false := beq_false_of_ne h
  refine ⟨?_, ?_⟩
  · rw [offsetMoved, show (realignFill (· == d) (recomputeTakes (· == d) s)).active = (recomputeTakes (· == d) s).active by simp,
      recomputeTakes_get, other]
    rfl
  · rw [offsetMoved, realignFill_get, other, if_neg (fun h => Bool.false_ne_true h.1)]
    simp

theorem offsetMoved_fill (d : DestNo) (s : State) :
    ((offsetMoved d s).switching.get d).cut = (s.switching.get d).cut ∧
      ((offsetMoved d s).switching.get d).fill = (s.switching.get d).fill.map fun _ => pointFrom s d (s.houseTime + 1) := by
  have point : pointFrom (recomputeTakes (· == d) s) d ((recomputeTakes (· == d) s).houseTime + 1) = pointFrom s d (s.houseTime + 1) := by
    rw [show (recomputeTakes (· == d) s).houseTime = s.houseTime by simp]
    exact pointFrom_congr (.of_formats (by simp)) (by simp) d _
  have same : (recomputeTakes (· == d) s).switching = s.switching := by simp
  obtain ⟨cut, fill⟩ := realigned_get (s := recomputeTakes (· == d) s) (p := (· == d)) d
  rw [same] at cut fill
  refine ⟨cut, fill.trans ?_⟩
  rw [if_pos (beq_self_eq_true d), point]

theorem offsetMoved_active {d : DestNo} {s : State} {k : Take} (hk : s.active.get d = some k) :
    (offsetMoved d s).active.get d = some (if k.state = .armed then recomputed s d k else k) := by
  rw [offsetMoved, show (realignFill (· == d) (recomputeTakes (· == d) s)).active = (recomputeTakes (· == d) s).active by simp,
    recomputeTakes_get, if_pos (beq_self_eq_true d), hk]
  rfl

theorem redefined_self (x : Dest) (c : DestClass) {f : FormatNo} (format : x.format = some f) (offset : Int) :
    x.redefined c (some f) offset =
      { x with cls := c, recording := (x.recording && x.cls == .recorder && c == .recorder), offset } := by
  cases x
  cases format
  rfl

/-- Settles O48: the class and the offset stored, what the offset moves, and the refusals in their order. -/
theorem destDefineMovesOffset : Obligations.DestDefineMovesOffset := by
  unfold Obligations.DestDefineMovesOffset
  refine ⟨fun t h o d f c s hr held hd hf hc defined format => ?_, fun t h o s hr => ?_⟩
  · intro x half off
    let u := headTaken s t
    let w := destStored u d c (some f) off
    let z := if off = x.offset then w else offsetMoved d w
    have free : destInUse u d (some f) = false := by
      rw [show some f = (u.dests.get d).format from format.symm]
      exact destInUse_same
    have act : actDestDefine o u = ⟨z, if off = o.offset.toInt then .ok else .okClamped, []⟩ := by
      rw [actDestDefine_checked (s := u) held hd hf (fun e he => by cases he; exact defined) hc, if_neg (by rw [free]; decide)]
      have stored : formatDest d f off (storeClass d c u) = z := by
        rw [formatDest_stored, show (u.dests.get d).format = some f from format]
        exact if_neg (not_not.mpr rfl)
      exact congrArg (fun y => (⟨y, if off = o.offset.toInt then .ok else .okClamped, []⟩ : Result)) stored
    have dests : w.dests = s.dests.set d { x with
        cls := c, recording := (x.recording && x.cls == .recorder && c == .recorder), offset := off } :=
      congrArg (s.dests.set d) (redefined_self x c format off)
    have own : w.dests.get d = { x with
        cls := c, recording := (x.recording && x.cls == .recorder && c == .recorder), offset := off } := by
      rw [dests, Tbl.get_set_self]
    have wformat : (w.dests.get d).format = some f := by rw [own]; exact format
    have moved : z = { w with active := z.active, switching := z.switching } := by
      unfold z
      split
      · rfl
      · exact offsetMoved_eq ..
    have zdests : z.dests = w.dests := by rw [moved]
    have ports : z.ports = classPorts u d c := by rw [moved]; rfl
    refine ⟨z, (exec_destDefine ..).trans (executeCommand_of_act hr act), ?_, zdests.trans dests, fun e he => ?_, fun still => ?_,
      fun moves => ?_, fun quiet => ?_⟩
    · have all := moved
      generalize z = y at all zdests ports ⊢
      rw [zdests, ports]
      exact all
    · unfold z
      split
      · exact ⟨rfl, rfl⟩
      · exact offsetMoved_get_ne w he
    · have : z = w := if_pos still
      rw [this]
      exact ⟨rfl, rfl⟩
    · have all : z = offsetMoved d w := if_neg moves
      obtain ⟨cut, fill⟩ := offsetMoved_fill d w
      have point : pointFrom w d (w.houseTime + 1) = firstPoint (s.formats.get f) off (s.houseTime + 1) := by
        rw [pointFrom_format wformat, own]
        rfl
      rw [all]
      refine ⟨cut, fill.trans (congrArg (fun x => (s.switching.get d).fill.map fun _ => x) point), ?_⟩
      intro k hk p q
      rw [offsetMoved_active (s := w) hk]
      congr 1
      by_cases armed : k.state = .armed
      · rw [if_pos armed, if_neg (not_not.mpr armed), recomputed_armed wformat armed, own]
        rfl
      · rw [if_neg armed, if_pos armed]
    · rw [ports, classPorts, if_neg]
      · rfl
      · rintro ⟨monitor, recording⟩
        rcases quiet with recorder | off
        · rw [monitor] at recorder
          cases recorder
        · exact Bool.false_ne_true (off.symm.trans recording)
  · intro refused badFormat undefined
    let u := headTaken s t
    have refuses (st : Status) (act : actDestDefine o u = refuse u st) : refused st :=
      (exec_destDefine ..).trans (executeCommand_refused hr act)
    refine ⟨fun running => refuses _ (if_pos running), fun held range => refuses _ ?_, fun held inside none => refuses _ ?_,
      fun held inside good known badClass => refuses _ ?_⟩
    · refine actDestDefine_range (s := u) held (range.imp destOperand_none.mpr formatOperand_none.mpr)
    · obtain ⟨f, hf, missing⟩ := none
      have names : namesUndefined u (some f) = true := by
        have : (u.formats.get f).defined = false := missing
        simp [namesUndefined, this]
      exact actDestDefine_undefined (s := u) (d := ⟨o.dest.toNat, inside⟩) held (destOperand_some.mpr rfl) (formatOperand_number.mpr hf) names
    · cases hg : formatOperand o.format with
      | none => exact absurd (formatOperand_none.mp hg) good
      | some g =>
        have defined : namesUndefined u g = false := namesUndefined_false fun e he => by
          by_contra missing
          exact known ⟨e, formatOperand_number.mp (he ▸ hg), Bool.eq_false_iff.mpr missing⟩
        exact actDestDefine_class (s := u) (d := ⟨o.dest.toNat, inside⟩) held (destOperand_some.mpr rfl) hg defined
          (classOperand_none badClass)

/-! ## The format changed (R40, R41) -/

theorem classPorts_quiet {s : State} {d : DestNo} (c : DestClass) (off : (s.dests.get d).recording = false) : classPorts s d c = s.ports := by
  rw [classPorts, if_neg fun h => Bool.false_ne_true (off.symm.trans h.2)]

/-- The class alone stored, of a destination that does not record. -/
theorem storeClass_quiet {s : State} {d : DestNo} (c : DestClass) (off : (s.dests.get d).recording = false) :
    storeClass d c s = { s with dests := s.dests.modify d fun x => { x with cls := c } } := by
  have record : recordingFails (s.dests.get d) = false := by rw [recordingFails, off, Bool.and_false]
  rw [storeClass_eq, classPorts_quiet c off, Tbl.modify_eq_set, Tbl.modify_eq_set, record, Bool.false_and]
  exact congrArg (fun y => ({ s with dests := s.dests.set d { s.dests.get d with cls := c, recording := y } } : State)) off.symm

/-- The state of a destination that DEST_DEFINE defines (R40). -/
theorem formatDest_defines {s : State} {d : DestNo} {c : DestClass} {f : FormatNo} {o : Int} (undefined : (s.dests.get d).format = none)
    (off : (s.dests.get d).recording = false) : formatDest d f o (storeClass d c s) = { s with
      dests := s.dests.modify d (fun x => { x with format := some f, cls := c, offset := o })
      switching := s.switching.modify d (fun w => { w with fill := some (firstPoint (s.formats.get f) o (s.houseTime + 1)) })
      ports := s.ports.modify (portOf d) (fun y => y.post .display (channelOf d)) } := by
  have record : (s.dests.get d).redefined c (some f) o = { s.dests.get d with format := some f, cls := c, offset := o } := by
    rw [Dest.redefined, off]
    exact congrArg (fun y => ({ s.dests.get d with format := some f, cls := c, offset := o, recording := y } : Dest)) off.symm
  have stored : destStored s d c (some f) o =
      { s with dests := s.dests.modify d (fun x => { x with format := some f, cls := c, offset := o }) } := by
    rw [destStored, classPorts_quiet c off, record, Tbl.modify_eq_set]
  rw [formatDest_stored, undefined]
  dsimp only
  rw [stored]
  have own : (s.dests.modify d (fun x => { x with format := some f, cls := c, offset := o })).get d =
      { s.dests.get d with format := some f, cls := c, offset := o } := Tbl.get_modify_self ..
  have format : ((s.dests.modify d (fun x => { x with format := some f, cls := c, offset := o })).get d).format = some f := by rw [own]
  rw [armFillNext, armFill_eq _ (by rw [format]; rfl), pointFrom_format format, own, requestDisplay, if_pos (by rw [format]; rfl)]
  rfl

theorem realigned_switching {s : State} {d : DestNo} {f : FormatNo} (format : (s.dests.get d).format = some f) :
    realignFill (· == d) s = { s with switching := s.switching.modify d fun w =>
      { w with fill := w.fill.map fun _ => firstPoint (s.formats.get f) (s.dests.get d).offset (s.houseTime + 1) } } := by
  have switching : (realignFill (· == d) s).switching = s.switching.modify d fun w =>
      { w with fill := w.fill.map fun _ => firstPoint (s.formats.get f) (s.dests.get d).offset (s.houseTime + 1) } :=
    Tbl.ext_get fun e => by
      rw [realignFill_get, Tbl.get_modify]
      by_cases h : d = e
      · subst h
        rw [pointFrom_format format]
        obtain ⟨cut, fill⟩ := s.switching.get d
        cases fill <;> simp
      · simp [h, Ne.symm h]
  rw [← switching]
  rfl

theorem undefineDest_stored (s : State) (d : DestNo) (c : DestClass) : undefineDest d (storeClass d c s) = { s with
    dests := s.dests.set d { s.dests.get d with format := none, cls := c, recording := false, offset := 0 }
    switching := s.switching.modify d (fun w => { w with fill := none })
    ports := classPorts s d c } := by
  rw [storeClass_eq]
  unfold undefineDest State.updDest State.updSwitching
  dsimp only
  rw [Tbl.modify_modify, Tbl.modify_eq_set]

/-- A defined destination given another format (R40, R41). -/
theorem formatDest_changes {s : State} {d : DestNo} {c : DestClass} {f e : FormatNo} {o : Int} (format : (s.dests.get d).format = some f)
    (ne : f ≠ e) : formatDest d e o (storeClass d c s) = { s with
      dests := s.dests.set d ((s.dests.get d).redefined c (some e) o)
      switching := s.switching.modify d (fun w => { w with fill := w.fill.map fun _ => firstPoint (s.formats.get e) o (s.houseTime + 1) })
      ports := classPorts s d c } := by
  have own : (destStored s d c (some e) o).dests.get d = (s.dests.get d).redefined c (some e) o := Tbl.get_set_self ..
  rw [formatDest_stored, format]
  dsimp only
  rw [if_pos ne, realigned_switching (f := e) (by rw [own]; rfl), own]
  rfl

/-- Settles O49: the class alone, the destination defined, and the format changed or taken away. -/
theorem destDefineChangesFormat : Obligations.DestDefineChangesFormat := by
  unfold Obligations.DestDefineChangesFormat
  refine ⟨fun t h o d c s hr held hd hf hc undefined off => ?_, fun t h o d f c s hr held hd hf hc defined undefined off current active follow => ?_,
    fun t h o d g f c s hr held hd hg hc defined format other => ?_⟩
  · let u := headTaken s t
    have hg : formatOperand o.format = some none := if_pos hf
    have free : destInUse u d none = false := by
      rw [show none = (u.dests.get d).format from undefined.symm]
      exact destInUse_same
    refine (exec_destDefine ..).trans (executeCommand_of_act hr ?_)
    rw [actDestDefine_checked (s := u) held hd hg (fun _ he => nomatch he) hc, if_neg (by rw [free]; decide), defineDest,
      show (u.dests.get d).format = none from undefined]
    exact congrArg (fun y => (⟨y, .ok, []⟩ : Result)) (storeClass_quiet (s := u) c off)
  · intro half offset
    let u := headTaken s t
    have free : ¬destInUse u d (some f) = true := by
      rw [destInUse_iff (by rw [show (u.dests.get d).format = none from undefined]; exact nofun)]
      rintro (h | h | h)
      · exact h current
      · exact h active
      · exact h follow
    refine ⟨_, (exec_destDefine ..).trans (executeCommand_of_act hr ?_), rfl⟩
    rw [actDestDefine_checked (s := u) held hd hf (fun e he => by cases he; exact defined) hc, if_neg free]
    exact congrArg (fun y => (⟨y, if offset = o.offset.toInt then .ok else .okClamped, []⟩ : Result))
      (formatDest_defines (s := u) undefined off)
  · intro x used
    let u := headTaken s t
    have check := actDestDefine_checked (s := u) held hd hg defined hc
    have use : destInUse u d g = true ↔ used := destInUse_iff (s := u) (by
      rw [show (u.dests.get d).format = some f from format]
      exact other.symm)
    refine ⟨fun inUse => ?_, fun idle none => ?_, ?_⟩
    · exact (exec_destDefine ..).trans (executeCommand_refused hr (check.trans (if_pos (use.mpr inUse))))
    · subst none
      have act : actDestDefine o u = ⟨undefineDest d (storeClass d c u), .ok, []⟩ := by
        rw [check, if_neg (fun h => idle (use.mp h)), defineDest, show (u.dests.get d).format = some f from format]
        rfl
      have stored := undefineDest_stored u d c
      generalize undefineDest d (storeClass d c u) = y at act stored
      refine ⟨y, (exec_destDefine ..).trans (executeCommand_of_act hr act), ?_⟩
      rw [stored]
      rfl
    · intro idle e he half off
      subst he
      have ne : f ≠ e := fun h => other (by rw [h])
      have act : actDestDefine o u = ⟨formatDest d e off (storeClass d c u), if off = o.offset.toInt then .ok else .okClamped, []⟩ := by
        rw [check, if_neg (fun h => idle (use.mp h))]
        rfl
      have stored := formatDest_changes (s := u) (c := c) (o := off) format ne
      generalize formatDest d e off (storeClass d c u) = y at act stored
      refine ⟨y, (exec_destDefine ..).trans (executeCommand_of_act hr act), ?_⟩
      rw [stored]
      rfl

end Sys2Proof.Machine
end

section
/-! SUPPORT. SOURCE_DEFINE (R20–R24) and SALVO_LOAD (R105, R106). -/

namespace Sys2Proof.Machine

/-! ## SOURCE_DEFINE -/

theorem sourceChanged_switching {n : SourceNo} {previous : SourceState} {s : State} (live : (s.sources.get n).state ≠ .lost) :
    (sourceChanged n previous s).switching = s.switching := by
  have stays : entersLost previous (s.sources.get n).state = false := by
    cases h : (s.sources.get n).state with
    | lost => exact absurd h live
    | undefined | absent | acquiring | locked => simp [entersLost]
  rw [sourceChanged_eq, stays]
  simp

theorem storeFormat_switching (n : SourceNo) (f : Option FormatNo) (s : State) : (storeFormat n f s).switching = s.switching := by
  unfold storeFormat
  dsimp only
  split
  · rfl
  · have live : ((s.updSource n (·.redefined f)).sources.get n).state ≠ .lost := by
      rw [show (s.updSource n (·.redefined f)).sources.get n = (s.sources.get n).redefined f from Tbl.get_modify_self ..]
      unfold Source.redefined
      cases f <;> simp
    rw [show (evaluateTracking n (sourceChanged n (s.sources.get n).state (s.updSource n (·.redefined f)))).switching =
      (sourceChanged n (s.sources.get n).state (s.updSource n (·.redefined f))).switching by simp, sourceChanged_switching live]
    rfl

theorem storeFormat_same {n : SourceNo} {f : Option FormatNo} {s : State} (h : (s.sources.get n).format = f) : storeFormat n f s = s :=
  if_pos h

theorem storeLabel_eq (n : SourceNo) (label : Tbl Byte 16) (s : State) : storeLabel n label s = { s with
    sources := s.sources.modify n fun r => { r with label }, ports := (storeLabel n label s).ports } := by
  apply State.ext <;> simp [storeLabel_sources]

theorem storeLabel_ports_same {n : SourceNo} {label : Tbl Byte 16} {s : State} (h : label = (s.sources.get n).label) :
    (storeLabel n label s).ports = s.ports := by
  have stored : storeLabel n label s = s.updSource n fun r => { r with label } := if_pos h
  rw [stored]
  rfl

theorem storeFormat_eq (n : SourceNo) (f : Option FormatNo) (s : State) : storeFormat n f s = { s with
    sources := (storeFormat n f s).sources, formats := (storeFormat n f s).formats, returns := (storeFormat n f s).returns,
    ports := (storeFormat n f s).ports } := by
  apply State.ext <;> simp [storeFormat_switching]

theorem namesUndefined_true {s : State} {f : FormatNo} (missing : (s.formats.get f).defined = false) :
    namesUndefined s (some f) = true := by
  simp [namesUndefined, missing]

theorem actSourceDefine_checked {sb fb : Byte} {label : Tbl Byte 16} {n : SourceNo} {g : Option FormatNo} {s : State}
    (hn : sourceNumber sb = some n) (hg : formatOperand fb = some g) (defined : namesUndefined s g = false) :
    actSourceDefine sb fb label s = if g ≠ (s.sources.get n).format ∧ sourceInUse s n then refuse s .inUse
      else ⟨storeLabel n (label.map labelByte) (storeFormat n g s), .ok, []⟩ := by
  rw [actSourceDefine, hn, hg]
  dsimp only
  rw [defined]
  rfl

/-- Settles O50: the refusals, and the record stored. -/
theorem sourceDefineStores : Obligations.SourceDefineStores := by
  unfold Obligations.SourceDefineStores
  refine ⟨fun t h sb fb label s hr => ?_, fun t h sb fb label n g s hr hn hg defined => ?_⟩
  · intro refused
    refine ⟨fun range => ?_, fun inside f hf missing => ?_⟩
    · refine (exec_sourceDefine ..).trans (executeCommand_refused hr ?_)
      rw [actSourceDefine]
      cases hn : sourceNumber sb with
      | none => rfl
      | some n =>
        have bad := range.resolve_left fun outside => nomatch hn.symm.trans (sourceNumber_none.mpr outside)
        rw [formatOperand_none.mpr bad]
    · refine (exec_sourceDefine ..).trans (executeCommand_refused hr ?_)
      have number : sourceNumber sb = some ⟨sb.toNat, inside⟩ := sourceNumber_some.mpr rfl
      rw [actSourceDefine, number, formatOperand_number.mpr hf]
      exact if_pos (namesUndefined_true (s := headTaken s t) missing)
  · intro r shown
    let u := headTaken s t
    have check := actSourceDefine_checked (s := u) (label := label) hn hg (namesUndefined_false defined)
    refine ⟨fun fit => ?_, fun other inUse => ?_⟩
    · have passes : ¬(g ≠ (u.sources.get n).format ∧ sourceInUse u n = true) := fun ⟨other, used⟩ =>
        fit.elim other fun idle => Bool.false_ne_true (idle.symm.trans used)
      have act := check.trans (if_neg passes)
      have labelled := storeLabel_eq n shown (storeFormat n g u)
      have stored := storeFormat_eq n g u
      have sources := storeFormat_sources n g u
      have same (h : g = r.format) : storeFormat n g u = u := storeFormat_same h.symm
      have quiet (h : shown = r.label) (hg : g = r.format) : (storeLabel n shown (storeFormat n g u)).ports = s.ports := by
        rw [same hg]
        exact storeLabel_ports_same (s := u) h
      change actSourceDefine sb fb label u = ⟨storeLabel n shown (storeFormat n g u), .ok, []⟩ at act
      generalize storeLabel n shown (storeFormat n g u) = y at act labelled quiet
      generalize storeFormat n g u = x at labelled stored sources same
      refine ⟨y, (exec_sourceDefine ..).trans (executeCommand_of_act hr act), ?_, ?_, ?_, fun hg => ⟨?_, ?_⟩, quiet⟩
      · rw [labelled]
        dsimp only
        rw [stored]
      · refine (congrArg State.sources labelled).trans ?_
        dsimp only
        rw [sources, Tbl.modify_modify, Tbl.modify_eq_set]
        refine congrArg (s.sources.set n) ?_
        show ({ (if r.format = g then r else r.redefined g) with label := shown } : Source) = _
        by_cases h : g = r.format
        · rw [if_pos h, if_pos h.symm]
        · rw [if_neg h, if_neg (Ne.symm h)]
          cases g <;> rfl
      · have switching : x.switching = s.switching := by rw [stored] <;> rfl
        exact (congrArg State.switching labelled).trans switching
      · have formats : x.formats = u.formats := congrArg State.formats (same hg)
        exact (congrArg State.formats labelled).trans formats
      · have returns : x.returns = u.returns := congrArg State.returns (same hg)
        exact (congrArg State.returns labelled).trans returns
    · exact (exec_sourceDefine ..).trans (executeCommand_refused hr (check.trans (if_pos ⟨other, inUse⟩)))

/-! ## SALVO_LOAD -/

theorem pairOperand_none {p : RawPair} : pairOperand p = none ↔ 128 ≤ p.dest.toNat ∨ (128 ≤ p.source.toNat ∧ p.source ≠ 255) ∨
    (128 ≤ p.guardByte.toNat ∧ p.guardByte ≠ 0xFE ∧ p.guardByte ≠ 0xFF) := by
  rw [← destOperand_none, ← sourceOperand_none, ← guardOperand_none]
  unfold pairOperand
  cases destOperand p.dest <;> cases sourceOperand p.source <;> cases guardOperand p.guardByte <;> simp

theorem pairsFrom_length (n : Nat) (bytes : List Byte) : (pairsFrom n bytes).length = n := by
  induction n generalizing bytes with
  | zero => rfl
  | succ n ih => rw [pairsFrom, List.length_cons, ih]

/-- A SALVO_LOAD at the head of a FIFO carries as many pairs as its count calls for (R160). -/
theorem salvoLoad_pairs {t : Trunk} {h : Header} {o : LoadOperands} {s : State} (hr : headReady s t (.salvoLoad t h o) = true) :
    o.pairs.length = pairsCalledFor o.count := by
  obtain ⟨c, -, decoded, -⟩ := headReady_iff.mp hr
  rcases decodeCommand_cases t c with ⟨st, -, e⟩ | ⟨h', k, ops, e⟩
  · rw [e] at decoded
    cases decoded
  · rw [e] at decoded
    cases k <;> simp only [rowOf, reduceCtorEq, Instr.salvoLoad.injEq] at decoded
    obtain ⟨-, -, rfl⟩ := decoded
    exact pairsFrom_length ..

theorem writePairs_get_other {ps : List Pair} {start : Nat} {x : Tbl (Option Pair) 16} {i : Fin 16}
    (h : ∀ j < ps.length, i.val ≠ (start + j) % 16) : (writePairs start ps x).get i = x.get i := by
  induction ps generalizing start x with
  | nil => rfl
  | cons p ps ih =>
    rw [writePairs, ih fun j hj => by have := h (j + 1) (by simpa using hj); rwa [show start + 1 + j = start + (j + 1) by omega],
      Tbl.get_set_ne]
    exact fun e => h 0 (by simp) (by rw [← e]; simp)

theorem writePairs_get {ps : List Pair} {start : Nat} {x : Tbl (Option Pair) 16} {i : Fin 16} {j : Nat} (short : ps.length ≤ 16)
    (hj : j < ps.length) (hi : i.val = (start + j) % 16) : (writePairs start ps x).get i = ps[j]? := by
  induction ps generalizing start x j with
  | nil => exact absurd hj (Nat.not_lt_zero j)
  | cons p ps ih =>
    rw [writePairs]
    have length : (p :: ps).length = ps.length + 1 := rfl
    cases j with
    | zero =>
      rw [writePairs_get_other fun m hm => by omega]
      have place : (⟨start % 16, Nat.mod_lt _ (by decide)⟩ : Fin 16) = i := Fin.ext hi.symm
      rw [place, Tbl.get_set_self]
      rfl
    | succ j => exact ih (by omega) (by omega) (by rw [hi]; congr 1; omega)

theorem filterMap_all {α β : Type} {f : α → Option β} {l : List α} (h : ∀ a ∈ l, (f a).isSome = true) :
    (l.filterMap f).length = l.length ∧ ∀ j : Nat, (l.filterMap f)[j]? = l[j]?.bind f := by
  induction l with
  | nil => simp
  | cons a l ih =>
    obtain ⟨b, hb⟩ := Option.isSome_iff_exists.mp (h a (List.mem_cons_self ..))
    obtain ⟨length, get⟩ := ih fun c hc => h c (List.mem_cons_of_mem _ hc)
    rw [List.filterMap_cons_some hb]
    refine ⟨by simp [length], fun j => ?_⟩
    cases j with
    | zero => simp [hb]
    | succ j => simpa using get j

section
variable {o : LoadOperands} {k : SlotNo} {s : State}

theorem actSalvoLoad_inRange (slot : slotOperand o.slot = some k) (start : o.start.toNat < 16) (low : 1 ≤ o.count.toNat)
    (high : o.count.toNat ≤ 10) : actSalvoLoad o s = match firstBadPair o.pairs with
      | some i => refuse s .range [countField i]
      | none =>
        if (s.salvos.get k).state = .fired then refuse s .busy
        else
          let pairs := o.pairs.filterMap pairOperand
          let s' := s.updSalvo k (·.loaded o.start.toNat pairs)
          ⟨s', .ok, [countField (s'.salvos.get k).count, .flag (16 < o.start.toNat + pairs.length)]⟩ := by
  rw [actSalvoLoad, slot]
  dsimp only
  rw [if_neg (by omega), if_neg (by omega)] <;> rfl

theorem firstBadPair_some {ps : List RawPair} {i : Nat} {p : RawPair} (hp : ps[i]? = some p) (bad : pairOperand p = none)
    (good : ∀ j < i, ∀ q, ps[j]? = some q → pairOperand q ≠ none) : firstBadPair ps = some i := by
  obtain ⟨length, rfl⟩ := List.getElem?_eq_some_iff.mp hp
  refine List.findIdx?_eq_some_iff_getElem.mpr ⟨length, Option.isNone_iff_eq_none.mpr bad, fun j hj => ?_⟩
  have := good j hj _ (List.getElem?_eq_getElem (Nat.lt_trans hj length))
  simpa using this

theorem firstBadPair_none {ps : List RawPair} (good : ∀ p ∈ ps, (pairOperand p).isSome = true) : firstBadPair ps = none :=
  List.findIdx?_eq_none_iff.mpr fun p hp => by simpa using good p hp

theorem fired_iff (x : SalvoSlot) : x.state = .fired ↔ 0 < x.outstanding := by
  unfold SalvoSlot.state
  split
  · next h => simp [h]
  · next h =>
    split <;> simp [h]

end

/-- Settles O42: the refusals in their order, and the pairs written. -/
theorem salvoLoadWritesPairs : Obligations.SalvoLoadWritesPairs := by
  unfold Obligations.SalvoLoadWritesPairs
  refine ⟨fun t h o s hr => ?_, fun t h o k s hr slot hs low high good idle => ?_⟩
  · intro refused bad
    have refuses (st : Status) (details : List ReplyField) (act : actSalvoLoad o (headTaken s t) = refuse (headTaken s t) st details) :
        refused st details := (exec_salvoLoad ..).trans (executeCommand_refused hr act)
    have number (inside : o.slot.toNat < 32) : slotOperand o.slot = some ⟨o.slot.toNat, inside⟩ := slotOperand_some.mpr rfl
    refine ⟨fun range => refuses _ _ ?_, fun inside range => refuses _ _ ?_, fun inside hs range => refuses _ _ ?_,
      fun inside hs low high => ⟨fun i p hp isBad first => refuses _ _ ?_, fun good k hk busy => refuses _ _ ?_⟩⟩
    · rw [actSalvoLoad, slotOperand_none.mpr range]
    · rw [actSalvoLoad, number inside]
      exact if_pos range
    · rw [actSalvoLoad, number inside]
      exact (if_neg (by omega)).trans (if_pos range)
    · rw [actSalvoLoad_inRange (number inside) hs low high,
        firstBadPair_some hp (pairOperand_none.mpr isBad) fun j hj q hq none => first j hj q hq (pairOperand_none.mp none)]
      rfl
    · have all : firstBadPair o.pairs = none := firstBadPair_none fun p hp =>
        Option.isSome_iff_ne_none.mpr fun none => good p hp (pairOperand_none.mp none)
      rw [actSalvoLoad_inRange (slotOperand_some.mpr hk) hs low high, all]
      exact if_pos ((fired_iff _).mpr busy)
  · intro n start x
    let u := headTaken s t
    let pairs := o.pairs.filterMap pairOperand
    obtain ⟨length, get⟩ := filterMap_all good
    have size : pairs.length = n := by
      rw [length, salvoLoad_pairs hr]
      exact if_pos ⟨low, high⟩
    have notFired : ¬(u.salvos.get k).state = .fired := fun fired => by
      have : 0 < (s.salvos.get k).outstanding := (fired_iff _).mp fired
      omega
    have act : actSalvoLoad o u = ⟨u.updSalvo k (·.loaded start pairs), .ok,
        [.quantity (BitVec.ofNat 8 (x.loaded start pairs).count), .flag (16 < start + n)]⟩ := by
      have slotAfter : (u.updSalvo k (·.loaded start pairs)).salvos.get k = x.loaded start pairs := Tbl.get_modify_self ..
      rw [actSalvoLoad_inRange slot hs low high, firstBadPair_none good]
      dsimp only
      rw [if_neg notFired, ← size]
      exact congrArg (fun y : SalvoSlot => (⟨u.updSalvo k (·.loaded start pairs), .ok,
        [.quantity (BitVec.ofNat 8 y.count), .flag (16 < start + pairs.length)]⟩ : Result)) slotAfter
    refine ⟨x.loaded start pairs, (exec_salvoLoad ..).trans (executeCommand_of_act hr act), rfl, ?_, fun i j hj hi => ?_, fun i other => ?_⟩
    · show (if start + pairs.length ≤ 16 then max x.count (start + pairs.length) else 16) = _
      rw [size]
    · exact (writePairs_get (by omega) (by omega) hi).trans (get j)
    · exact writePairs_get_other fun j hj => other j (by omega)

end Sys2Proof.Machine
end

section
/-! SUPPORT. SWAP (R119, R120): its checks in their order, and the two halves placed. -/

namespace Sys2Proof.Machine

/-! ## The checks as a chain (R119) -/

section
variable {a b : DestNo}

/-- A check of one failing condition, for A and then for B. -/
theorem eitherFails_or {p : DestNo → Prop} [DecidablePred p] (st : Status) (rest : Option (Status × Byte)) :
    (eitherFails a b fun d => if p d then some st else none).or rest =
      if p a then some (st, numByte a) else if p b then some (st, numByte b) else rest := by
  unfold eitherFails
  by_cases ha : p a
  · simp [ha]
  · by_cases hb : p b <;> simp [ha, hb]

/-- A check of two failing conditions, both for A and then both for B. -/
theorem eitherFails_two_or {p q : DestNo → Prop} [DecidablePred p] [DecidablePred q] (st st' : Status) (rest : Option (Status × Byte)) :
    (eitherFails a b fun d => if p d then some st else if q d then some st' else none).or rest =
      if p a then some (st, numByte a) else if q a then some (st', numByte a)
      else if p b then some (st, numByte b) else if q b then some (st', numByte b) else rest := by
  unfold eitherFails
  by_cases ha : p a
  · simp [ha]
  · by_cases ha' : q a
    · simp [ha, ha']
    · by_cases hb : p b
      · simp [ha, ha', hb]
      · by_cases hb' : q b <;> simp [ha, ha', hb, hb']

theorem swapFailure_eq (s : State) (owner : Byte) (a b : DestNo) (g : Target) : swapFailure s owner a b g =
    if (s.dests.get a).format = none then some (.undefined, numByte a)
    else if (s.dests.get b).format = none then some (.undefined, numByte b)
    else if (s.dests.get a).format ≠ (s.dests.get b).format then some (.operandError, 255)
    else if isCommitted (s.active.get a) = true then some (.busy, numByte a)
    else if isCommitted (s.active.get b) = true then some (.busy, numByte b)
    else if (s.dests.get a).protection = .locked ∧ owner ≠ (s.dests.get a).owner then some (.lockedOut, numByte a)
    else if (s.dests.get a).protection = .guarded then some (.isProtected, numByte a)
    else if (s.dests.get b).protection = .locked ∧ owner ≠ (s.dests.get b).owner then some (.lockedOut, numByte b)
    else if (s.dests.get b).protection = .guarded then some (.isProtected, numByte b)
    else if (s.dests.get a).cls = .recorder ∧ (s.dests.get a).recording = true then some (.recording, numByte a)
    else if (s.dests.get b).cls = .recorder ∧ (s.dests.get b).recording = true then some (.recording, numByte b)
    else if targetFails s a g = true then some (.range, numByte a)
    else if targetFails s b g = true then some (.range, numByte b)
    else none := by
  have undefined : (fun d => failsWith .undefined (s.dests.get d).format.isNone) =
      fun d => if (s.dests.get d).format = none then some .undefined else none :=
    funext fun d => if_congr Option.isNone_iff_eq_none rfl rfl
  have protection : (fun d => protectionFailure (s.dests.get d) owner) = fun d =>
      if (s.dests.get d).protection = .locked ∧ owner ≠ (s.dests.get d).owner then some .lockedOut
      else if (s.dests.get d).protection = .guarded then some .isProtected else none :=
    funext fun d => protectionFailure_eq ..
  have recording : (fun d => failsWith .recording (recordingFails (s.dests.get d))) = fun d =>
      if (s.dests.get d).cls = .recorder ∧ (s.dests.get d).recording = true then some .recording else none :=
    funext fun d => if_congr (by simp [recordingFails]) rfl rfl
  have busy : (fun d => failsWith .busy (isCommitted (s.active.get d))) =
      fun d => if isCommitted (s.active.get d) = true then some .busy else none := rfl
  have beyond : (eitherFails a b fun d => failsWith .range (targetFails s d g)) =
      if targetFails s a g = true then some (.range, numByte a) else if targetFails s b g = true then some (.range, numByte b) else none := by
    rw [← eitherFails_or (p := fun d => targetFails s d g = true), Option.or_none]
    rfl
  unfold swapFailure
  rw [undefined, protection, recording, busy, beyond, eitherFails_or, ite_or, Option.none_or, eitherFails_or, eitherFails_two_or, eitherFails_or]

end

/-! ## The halves placed (R120) -/

theorem removeArmed_dealt (s : State) (a : DestNo) (out : TakeOutcome) : DealtWith s (· = a) (removeArmed a out s) where
  kept e he free := by
    rw [removeArmed_get, if_neg]
    rintro (h | bound)
    · exact he h.symm
    · exact free a (boundPartner_symm bound) rfl
  gone e p he bound hp := by
    subst hp
    rw [removeArmed_get, if_pos (.inr (boundPartner_symm bound))]
  unbound e he := he ▸ removeArmed_unbound ..

/-- What leaves with the take of B after A's and its partner's have left. -/
theorem leaving_after {s : State} {a b : DestNo} (ne : a ≠ b) (out : TakeOutcome) : leaving (removeArmed a out s) b =
    if boundPartner s a = some b then [] else leaving s b := by
  split
  · next bound =>
    have gone : (removeArmed a out s).active.get b = none := by rw [removeArmed_get, if_pos (.inr bound)]
    rw [leaving_eq, boundPartner_empty gone, heldAt, gone]
    rfl
  · next free =>
    exact (removeArmed_dealt s a out).leaving (Ne.symm ne) fun p bound hp => free (boundPartner_symm (hp ▸ bound))

/-- Both takes with their partners removed. -/
theorem removeBoth_get {s : State} {a b : DestNo} (ne : a ≠ b) (out : TakeOutcome) {e : DestNo} (ha : e ≠ a) (hb : e ≠ b) :
    (removeArmed b out (removeArmed a out s)).active.get e =
      if boundPartner s a = some e ∨ boundPartner s b = some e then none else s.active.get e := by
  have partner : boundPartner (removeArmed a out s) b = some e ↔ boundPartner s b = some e := by
    by_cases bound : boundPartner s a = some b
    · have gone : (removeArmed a out s).active.get b = none := by rw [removeArmed_get, if_pos (.inr bound)]
      rw [boundPartner_empty gone, boundPartner_symm bound]
      simp [Ne.symm ha]
    · rw [(removeArmed_dealt s a out).boundPartner (Ne.symm ne) fun p h hp => bound (boundPartner_symm (hp ▸ h))]
  rw [removeArmed_get, removeArmed_get]
  simp only [partner, Ne.symm ha, Ne.symm hb, false_or]
  by_cases h : boundPartner s b = some e <;> by_cases h' : boundPartner s a = some e <;> simp [h, h']

theorem removeBoth_told {s : State} {a b : DestNo} (ne : a ≠ b) (out : TakeOutcome) :
    SameTold (removeArmed b out (removeArmed a out s)) (tell out (leaving s a ++ if boundPartner s a = some b then [] else leaving s b) s) := by
  rw [tell_append, ← leaving_after ne out]
  exact (removeArmed_told b out _).trans (tell_told (removeArmed_told a out s) ..)

/-- Everything that the creation of a pair does. -/
structure PairCreated (s : State) (k : Take) (a b : DestNo) (y : State) : Prop where
  rest : y = { s with active := y.active, salvos := y.salvos, returns := y.returns, ports := y.ports }
  first : y.active.get a = some (armedTake s a { k with partner := some b })
  second : y.active.get b = some (armedTake s b { k with partner := some a })
  others : ∀ e, e ≠ a → e ≠ b → y.active.get e =
    if boundPartner s a = some e ∨ boundPartner s b = some e then none else s.active.get e
  told : SameTold y (tell .superseded (leaving s a ++ if boundPartner s a = some b then [] else leaving s b) s)

/-- Both takes with their partners removed (R120, stages 1 and 2). -/
def bothRemoved (a b : DestNo) (s : State) : State := removeArmed b .superseded (removeArmed a .superseded s)

theorem bothRemoved_eq (a b : DestNo) (s : State) : bothRemoved a b s = { s with
    active := (bothRemoved a b s).active, salvos := (bothRemoved a b s).salvos, returns := (bothRemoved a b s).returns } := by
  unfold bothRemoved
  apply State.ext <;> simp

/-- The two halves in the table of takes (R120, stage 3). -/
def halves (s : State) (k : Take) (a b : DestNo) (active : Tbl (Option Take) 128) : Tbl (Option Take) 128 :=
  (active.set a (some (armedTake s a { k with partner := some b }))).set b (some (armedTake s b { k with partner := some a }))

theorem placeHalves_eq {s x : State} (frames : SameFramePoints s x) (dests : x.dests = s.dests) (margin : x.margin = s.margin) (k : Take)
    (a b : DestNo) : placeHalf k b a (placeHalf k a b x) = { x with active := halves s k a b x.active } := by
  have first : armedTake x a { k with partner := some b } = armedTake s a { k with partner := some b } :=
    armedTake_congr frames dests margin ..
  have second : armedTake (placeHalf k a b x) b { k with partner := some a } = armedTake s b { k with partner := some a } :=
    armedTake_congr (s := s) (s' := placeHalf k a b x) frames dests margin ..
  rw [halves, ← first, ← second]
  rfl

theorem createPair_eq (k : Take) (a b : DestNo) (s : State) : createPair k a b s = { s with
    active := halves s k a b (bothRemoved a b s).active, salvos := (bothRemoved a b s).salvos,
    returns := (bothRemoved a b s).returns, ports := (createPair k a b s).ports } := by
  have removed := bothRemoved_eq a b s
  have placed := placeHalves_eq (s := s) (x := bothRemoved a b s) (.of_formats (by rw [removed])) (by rw [removed]) (by rw [removed]) k a b
  have shows : createPair k a b s = displayVacated s (displayPlaced s b (displayPlaced s a
      (placeHalf k b a (placeHalf k a b (bothRemoved a b s))))) := rfl
  rw [placed] at shows
  generalize bothRemoved a b s = x at removed shows
  rw [shows]
  apply State.ext <;> simp <;> rw [removed]

theorem createPair_created {s : State} {k : Take} {a b : DestNo} (ne : a ≠ b) : PairCreated s k a b (createPair k a b s) := by
  have told : SameTold (bothRemoved a b s) _ := removeBoth_told (s := s) ne .superseded
  have others (e : DestNo) (ha : e ≠ a) (hb : e ≠ b) : (bothRemoved a b s).active.get e = _ := removeBoth_get (s := s) ne .superseded ha hb
  have now : (bothRemoved a b s).houseTime = s.houseTime := by rw [bothRemoved_eq]
  have all := createPair_eq k a b s
  generalize bothRemoved a b s = x at told others now all
  generalize createPair k a b s = y at all ⊢
  refine ⟨?_, ?_, ?_, fun e ha hb => ?_, ?_⟩
  · rw [all]
  · rw [all]
    exact (Tbl.get_set_ne _ _ (Ne.symm ne)).trans (Tbl.get_set_self ..)
  · rw [all]
    exact Tbl.get_set_self ..
  · rw [all]
    exact ((Tbl.get_set_ne _ _ (Ne.symm hb)).trans (Tbl.get_set_ne _ _ (Ne.symm ha))).trans (others e ha hb)
  · rw [all]
    exact ⟨now.symm.trans told.now, told.salvos, told.returns⟩

/-! ## SWAP's refusals -/

section
variable {t : Trunk} {h : Header} {o : SwapOperands} {s : State}

theorem actSwap_mode (mode : namesMode o.mode = false) : actSwap t h o s = refuse s .operandError [.quantity 255] := by
  rw [actSwap, mode]
  rfl

theorem actSwap_first (mode : namesMode o.mode = true) (range : destOperand o.destA = none) :
    actSwap t h o s = refuse s .range [.quantity o.destA] := by
  rw [actSwap, mode, range]
  rfl

theorem actSwap_second {a : DestNo} (mode : namesMode o.mode = true) (ha : destOperand o.destA = some a)
    (range : destOperand o.destB = none) : actSwap t h o s = refuse s .range [.quantity o.destB] := by
  rw [actSwap, mode, ha, range]
  rfl

theorem actSwap_checked {a b : DestNo} (mode : namesMode o.mode = true) (ha : destOperand o.destA = some a)
    (hb : destOperand o.destB = some b) : actSwap t h o s =
      if a = b then refuse s .operandError [.quantity 255]
      else
        let g := fixTarget s.houseTime o.mode o.frames
        match swapFailure s h.owner a b g with
        | some (st, which) => refuse s st [.quantity which]
        | none =>
          let pa := placeFor s a g.mode g.time g.frames
          let pb := placeFor s b g.mode g.time g.frames
          ⟨createPair (newTake t h.tag .unfixed none g false) a b s, acceptedStatus g.late,
            halfFields s a pa ++ halfFields s b pb ++ [.time (addTicks (earlier pa.switchPoint pb.switchPoint) (-s.margin))]⟩ := by
  rw [actSwap, mode, ha, hb]
  rfl

end

/-- Settles O41: the refusals, the chain of checks, and the pair created. -/
theorem swapArmsBothHalves : Obligations.SwapArmsBothHalves := by
  unfold Obligations.SwapArmsBothHalves
  refine ⟨fun t h o s hr => ?_, ?_, fun t h o a b s hr mode ha hb ne => ?_⟩
  · intro refused
    have refuses (st : Status) (which : Byte) (act : actSwap t h o (headTaken s t) = refuse (headTaken s t) st [.quantity which]) :
        refused st which := (exec_swap ..).trans (executeCommand_refused hr act)
    refine ⟨fun ⟨b, other⟩ => refuses _ _ (actSwap_mode (by rw [other]; rfl)), fun mode => ⟨fun range => ?_, fun inside range => ?_,
      fun a b ha hb => ⟨fun same => ?_, fun ne st which fails => ?_⟩⟩⟩
    · exact refuses _ _ (actSwap_first (namesMode_iff.mpr mode) (destOperand_none.mpr range))
    · have first : destOperand o.destA = some ⟨o.destA.toNat, inside⟩ := destOperand_some.mpr rfl
      exact refuses _ _ (actSwap_second (namesMode_iff.mpr mode) first (destOperand_none.mpr range))
    · exact refuses _ _ ((actSwap_checked (namesMode_iff.mpr mode) (destOperand_some.mpr ha) (destOperand_some.mpr hb)).trans (if_pos same))
    · have failure : swapFailure (headTaken s t) h.owner a b (fixTarget (headTaken s t).houseTime o.mode o.frames) = some (st, which) := fails
      refine refuses _ _ ((actSwap_checked (namesMode_iff.mpr mode) (destOperand_some.mpr ha) (destOperand_some.mpr hb)).trans ?_)
      rw [if_neg ne]
      dsimp only
      rw [failure]
  · intro s owner a b g failsAt lockedOut records place beyond
    refine (swapFailure_eq ..).trans ?_
    iterate 11 refine if_congr Iff.rfl rfl ?_
    exact if_congr (targetFails_iff ..) rfl (if_congr (targetFails_iff ..) rfl rfl)
  · intro g passes pa pb half
    let u := headTaken s t
    have failure : swapFailure u h.owner a b g = none := passes
    have act : actSwap t h o u = ⟨createPair (newTake t h.tag .unfixed none g false) a b u, acceptedStatus g.late,
        halfFields s a pa ++ halfFields s b pb ++ [.time (addTicks (earlier pa.switchPoint pb.switchPoint) (-s.margin))]⟩ := by
      refine (actSwap_checked mode ha hb).trans ((if_neg ne).trans ?_)
      show (match swapFailure u h.owner a b g with | some (st, which) => _ | none => _) = _
      rw [failure]
      rfl
    have created := createPair_created (s := u) (k := newTake t h.tag .unfixed none g false) ne
    generalize createPair (newTake t h.tag .unfixed none g false) a b u = y at act created
    refine ⟨y, (exec_swap ..).trans (executeCommand_of_act hr act), created.rest, created.first, created.second, created.others, ?_⟩
    intro partner held removed told
    have list : (leaving u a ++ if boundPartner u a = some b then [] else leaving u b) = removed := by
      have bound : boundPartner u a = some b ↔ b ∈ partner a := by
        show boundPartner s a = some b ↔ b ∈ (boundPartner s a).toList.filter (· ≠ a)
        simp [Ne.symm ne]
      exact congrArg (leaving s a ++ ·) (if_congr bound rfl rfl)
    have same : SameTold y told := created.told.trans (list ▸ tell_told (u := u) (v := s) ⟨rfl, rfl, rfl⟩ ..)
    exact ⟨same.salvos, same.returns⟩

end Sys2Proof.Machine
end

section
/-! SUPPORT. Takes placed one after the other (R63–R65): what a run of placements leaves in every position and what it tells. SWEEP (R117, R118). -/

namespace Sys2Proof.Machine

/-! ## The last take for a destination -/

/-- The last take that a run of placements has for a destination. -/
def lastFor (run : List (DestNo × Take)) (e : DestNo) : Option Take := (run.reverse.find? fun x => x.1 == e).map (·.2)

theorem lastFor_append (run : List (DestNo × Take)) (d : DestNo) (k : Take) (e : DestNo) :
    lastFor (run ++ [(d, k)]) e = if d = e then some k else lastFor run e := by
  unfold lastFor
  rw [List.reverse_append, List.reverse_singleton, List.singleton_append, List.find?_cons]
  by_cases h : d = e
  · simp [h]
  · have other : (d == e) = false := beq_false_of_ne h
    rw [other, if_neg h]

theorem lastFor_isSome (run : List (DestNo × Take)) (e : DestNo) : (lastFor run e).isSome = true ↔ e ∈ run.map (·.1) := by
  simp [lastFor, List.find?_isSome]

theorem lastFor_none {run : List (DestNo × Take)} {e : DestNo} : lastFor run e = none ↔ e ∉ run.map (·.1) := by
  rw [← lastFor_isSome, Bool.not_eq_true, Option.isSome_eq_false_iff, Option.isNone_iff_eq_none]

theorem lastFor_mem {run : List (DestNo × Take)} {e : DestNo} {k : Take} (h : lastFor run e = some k) : (e, k) ∈ run := by
  obtain ⟨x, hx, rfl⟩ := Option.map_eq_some_iff.mp h
  have dest : x.1 = e := by simpa using List.find?_some hx
  rw [← dest]
  exact List.mem_reverse.mp (List.mem_of_find?_eq_some hx)

/-! ## The positions after a run of placements -/

/-- The run `run` of placements has been made: at each of its destinations stands its last take, and a take bound to one of them is gone. -/
structure PlacedSoFar (s : State) (run : List (DestNo × Take)) (x : State) : Prop where
  rest : x = { s with active := x.active, follow := x.follow, salvos := x.salvos, returns := x.returns, ports := x.ports }
  follow : ∀ e, x.follow.get e = match lastFor run e with
    | some k => if placesFollow s e then some { k with state := .following, placed := none } else s.follow.get e
    | none => s.follow.get e
  active : ∀ e, x.active.get e = match lastFor run e with
    | some k => if placesFollow s e then s.active.get e else some (armedTake s e k)
    | none => if (boundPartner s e).any (fun p => (lastFor run p).isSome) then none else s.active.get e

theorem PlacedSoFar.start (s : State) : PlacedSoFar s [] s where
  rest := rfl
  follow _ := rfl
  active e := by
    have none : ∀ p, (lastFor [] p).isSome = false := fun _ => rfl
    simp only [none]
    cases boundPartner s e <;> rfl

theorem PlacedSoFar.of_same {s x y : State} {run : List (DestNo × Take)} (h : PlacedSoFar s run x)
    (same : y = { x with salvos := y.salvos, returns := y.returns, ports := y.ports }) : PlacedSoFar s run y where
  rest := by
    rw [same]
    dsimp only
    rw [h.rest]
  follow e := by rw [same]; exact h.follow e
  active e := by rw [same]; exact h.active e

theorem placesFollow_armed {s : State} {d : DestNo} (h : isArmed (s.active.get d) = true) : placesFollow s d = false := by
  obtain ⟨k, hk, ka⟩ := isArmed_iff.mp h
  simp [placesFollow, hk, ka]

theorem placesFollow_congr {s x : State} {d : DestNo} (h : x.active.get d = s.active.get d) : placesFollow x d = placesFollow s d := by
  rw [placesFollow, h, placesFollow]

/-- A destination where a take would follow holds no bound take. -/
theorem boundPartner_follows {s : State} {d : DestNo} (h : placesFollow s d = true) : boundPartner s d = none := by
  refine boundPartner_not_armed (Bool.eq_false_iff.mpr fun armed => ?_)
  rw [placesFollow_armed armed] at h
  cases h

theorem boundPartner_unpaired {s : State} {d : DestNo} {k : Take} (hk : s.active.get d = some k) (alone : k.partner = none) :
    boundPartner s d = none := by
  by_contra hn
  obtain ⟨p, hp⟩ := Option.ne_none_iff_exists'.mp hn
  obtain ⟨q, -, hq, -, -, -, partner, -⟩ := boundPartner_some hp
  obtain rfl := Option.some.inj (hk.symm.trans hq)
  exact nomatch alone.symm.trans partner

section
variable {s x : State} {run : List (DestNo × Take)} (h : PlacedSoFar s run x) (alone : ∀ y ∈ run, y.2.partner = none)
include h

theorem PlacedSoFar.schedule : SameFramePoints s x ∧ x.dests = s.dests ∧ x.margin = s.margin :=
  ⟨.of_formats (by rw [h.rest]), by rw [h.rest], by rw [h.rest]⟩

theorem PlacedSoFar.armedTake_eq (d : DestNo) (k : Take) : armedTake x d k = armedTake s d k := by
  obtain ⟨frames, dests, margin⟩ := h.schedule
  exact armedTake_congr frames dests margin d k

/-- Where a take would follow does not change in a run of placements. -/
theorem PlacedSoFar.placesFollow_eq (d : DestNo) : placesFollow x d = placesFollow s d := by
  cases hl : lastFor run d with
  | some k =>
    by_cases pf : placesFollow s d = true
    · exact placesFollow_congr (by rw [h.active, hl]; exact if_pos pf)
    · have placed : x.active.get d = some (armedTake s d k) := by
        rw [h.active, hl]
        exact if_neg pf
      rw [show placesFollow s d = false by simpa using pf]
      simp [placesFollow, placed, armedTake]
  | none =>
    by_cases gone : (boundPartner s d).any (fun p => (lastFor run p).isSome) = true
    · obtain ⟨p, hp, -⟩ := Option.any_eq_true _ _ |>.mp gone
      have none : x.active.get d = none := by
        rw [h.active, hl]
        exact if_pos gone
      rw [placesFollow_armed (armed_of_bound hp)]
      simp [placesFollow, none]
    · exact placesFollow_congr (by rw [h.active, hl]; exact if_neg gone)

include alone

theorem PlacedSoFar.dealt : DealtWith s (fun e => (lastFor run e).isSome = true) x where
  kept e he free := by
    have new : lastFor run e = none := by simpa using he
    have unbound : (boundPartner s e).any (fun p => (lastFor run p).isSome) = false := by
      rw [Option.any_eq_false]
      exact fun p hp => by simpa using free p hp
    rw [h.active, new, unbound]
    rfl
  gone e p he hb hp := by
    have new : lastFor run e = none := by simpa using he
    rw [h.active, new, hb]
    exact if_pos hp
  unbound e he := by
    obtain ⟨k, hk⟩ := Option.isSome_iff_exists.mp he
    by_cases pf : placesFollow s e = true
    · have same : x.active.get e = s.active.get e := by
        rw [h.active, hk]
        exact if_pos pf
      exact boundPartner_follows (placesFollow_congr same ▸ pf)
    · have placed : x.active.get e = some (armedTake s e k) := by
        rw [h.active, hk]
        exact if_neg pf
      exact boundPartner_unpaired placed (alone _ (lastFor_mem hk))

/-- The partner of a destination without a take of the run, unless it has one. -/
theorem PlacedSoFar.boundPartner_eq {d : DestNo} (new : lastFor run d = none) : boundPartner x d =
    if (boundPartner s d).any (fun p => (lastFor run p).isSome) then none else boundPartner s d := by
  split
  · next gone =>
    have none : x.active.get d = none := by
      rw [h.active, new]
      exact if_pos gone
    exact boundPartner_empty none
  · next free =>
    refine (h.dealt alone).boundPartner (by simp [new]) fun p hp inside => free ?_
    rw [hp]
    exact inside

/-- What a placement at `d` leaves at another destination. -/
theorem PlacedSoFar.placed_other {d e : DestNo} :
    (if placesFollow s d = true then x.active.get e else if boundPartner x d = some e then none else x.active.get e) =
      match lastFor run e with
      | some k => if placesFollow s e then s.active.get e else some (armedTake s e k)
      | none => if (boundPartner s e).any (fun p => decide (d = p) || (lastFor run p).isSome) then none else s.active.get e := by
  have unbound {c : DestNo} (hc : (lastFor run c).isSome = true) : boundPartner x c = none := (h.dealt alone).unbound c hc
  have stands (free : boundPartner x d ≠ some e) :
      (if placesFollow s d = true then x.active.get e else if boundPartner x d = some e then none else x.active.get e) = x.active.get e := by
    rw [if_neg free, ite_self]
  have active := h.active e
  cases hl : lastFor run e with
  | some q =>
    have free : boundPartner x d ≠ some e := fun bound => by
      have none := unbound (c := e) (by rw [hl]; rfl)
      rw [boundPartner_symm bound] at none
      cases none
    rw [stands free, active, hl]
  | none =>
    rw [hl] at active
    by_cases bound : boundPartner s e = some d
    · have partner := boundPartner_symm bound
      have pf : placesFollow s d = false := placesFollow_armed (armed_of_bound partner)
      have gone : (if placesFollow s d = true then x.active.get e else if boundPartner x d = some e then none else x.active.get e) = none := by
        rw [pf, if_neg Bool.false_ne_true]
        cases hd' : lastFor run d with
        | some q =>
          have none : x.active.get e = none := active.trans (by rw [bound]; exact if_pos (by rw [Option.any_some, hd']; rfl))
          rw [none, ite_self]
        | none =>
          rw [h.boundPartner_eq alone hd', partner, Option.any_some, hl]
          exact if_pos rfl
      rw [gone, bound]
      exact (if_pos (by simp)).symm
    · have free : boundPartner x d ≠ some e := fun h' => by
        cases hd' : lastFor run d with
        | some q =>
          rw [unbound (by rw [hd']; rfl)] at h'
          cases h'
        | none =>
          rw [h.boundPartner_eq alone hd'] at h'
          split at h'
          · cases h'
          · exact bound (boundPartner_symm h')
      rw [stands free, active]
      refine if_congr ?_ rfl rfl
      cases hb : boundPartner s e with
      | none => rfl
      | some p =>
        have other : d ≠ p := fun hp => bound (hp ▸ hb)
        simp [other]

/-- One placement more. -/
theorem PlacedSoFar.step {b : State} (d : DestNo) (k : Take) :
    PlacedSoFar s (run ++ [(d, k)]) (placeTake b d k x) where
  rest := by
    have placed := placeTake_eq b d k x
    generalize placeTake b d k x = y at placed ⊢
    rw [placed]
    dsimp only
    rw [h.rest]
  follow e := by
    rw [placeTake_follow_get, h.placesFollow_eq, lastFor_append, h.follow]
    by_cases hd : d = e
    · subst hd
      by_cases pf : placesFollow s d = true
      · simp [pf]
      · cases hl : lastFor run d <;> simp [pf]
    · simp [hd]
  active e := by
    have same : armedTake (removeArmed d .superseded x) d k = armedTake s d k :=
      (armedTake_congr (.of_formats (by simp)) (by simp) (by simp) d k).trans (h.armedTake_eq d k)
    rw [placeTake_active_get, h.placesFollow_eq, same, lastFor_append]
    by_cases hd : d = e
    · subst hd
      simp only [if_true]
      by_cases pf : placesFollow s d = true
      · rw [if_pos pf, if_pos pf, h.active]
        cases lastFor run d with
        | some q => exact if_pos pf
        | none => simp [boundPartner_follows pf]
      · rw [if_neg pf, if_neg pf]
    · simp only [if_neg hd]
      have further : (fun p => (lastFor (run ++ [(d, k)]) p).isSome) = fun p => decide (d = p) || (lastFor run p).isSome := by
        funext p
        rw [lastFor_append]
        by_cases hp : d = p <;> simp [hp]
      rw [further, h.placed_other alone]

end

/-! ## What a placement tells -/

/-- What a placement tells at a destination without a take of the run: a partner of the run has taken the take along (R64, R65). -/
def removedAt (s : State) (run : DestNo → Prop) [DecidablePred run] (d : DestNo) : List (DestNo × Take) :=
  if placesFollow s d then followAt s d
  else match boundPartner s d with
    | none => heldAt s d
    | some e => if run e then [] else if e = d then heldAt s d else heldAt s d ++ heldAt s e

theorem PlacedSoFar.step_told {s x : State} {run : List (DestNo × Take)} (h : PlacedSoFar s run x) (alone : ∀ y ∈ run, y.2.partner = none)
    {b : State} {d : DestNo} (k : Take) (new : lastFor run d = none) : SameTold (placeTake b d k x)
      (tell .superseded (removedAt s (fun e => (lastFor run e).isSome = true) d) x) := by
  unfold removedAt
  by_cases pf : placesFollow s d = true
  · have same : followAt x d = followAt s d := by
      rw [followAt, h.follow, new, followAt]
    rw [if_pos pf, ← same]
    exact placeTake_follow_told (h.placesFollow_eq d ▸ pf)
  · have armed : placesFollow x d = false := by rw [h.placesFollow_eq]; simpa using pf
    have told := placeTake_armed_told (b := b) (k := k) armed
    rw [if_neg pf]
    have own := h.active d
    rw [new] at own
    cases hb : boundPartner s d with
    | none =>
      have leaves : leaving x d = heldAt s d := by
        rw [(h.dealt alone).leaving (by simp [new]) fun p hp => by rw [hb] at hp; cases hp]
        simp only [leaving_eq, hb]
      rw [leaves] at told
      exact told
    | some e =>
      dsimp only
      by_cases inside : (lastFor run e).isSome = true
      · have none : x.active.get d = none := own.trans (by rw [hb]; exact if_pos inside)
        have leaves : leaving x d = [] := by
          rw [leaving_eq, boundPartner_empty none, heldAt, none]
          rfl
        rw [if_pos inside, ← leaves]
        exact told
      · have free (p : DestNo) (hp : boundPartner s d = some p) : ¬(lastFor run p).isSome = true := by
          rw [hb] at hp
          cases hp
          exact inside
        have leaves : leaving x d = if e = d then heldAt s d else heldAt s d ++ heldAt s e := by
          rw [(h.dealt alone).leaving (by simp [new]) free]
          simp only [leaving_eq, hb]
        rw [leaves] at told
        rw [if_neg inside]
        exact told

/-! ## The run of a SWEEP (R117) -/

/-- The destinations of a SWEEP's run. -/
def inSweep (first : DestNo) (n : Nat) (up : Bool) (d : DestNo) : Prop :=
  if up then first.val ≤ d.val ∧ d.val < first.val + n else d.val ≤ first.val ∧ first.val < d.val + n

/-- The order of a SWEEP's run. -/
def sweepsBefore (up : Bool) (d e : DestNo) : Prop := if up then d < e else e < d

theorem sweepRun_mem (first : DestNo) (count : Byte) (up : Bool) (d : DestNo) :
    d ∈ sweepRun first count up ↔ inSweep first (count.toNat % 128) up d := by
  unfold sweepRun inSweep
  rw [List.mem_filterMap]
  have := d.isLt
  cases up with
  | true =>
    simp only [List.mem_range, if_true]
    constructor
    · rintro ⟨i, hi, e⟩
      split at e
      · cases e
        exact ⟨Nat.le_add_right .., by simp only; omega⟩
      · cases e
    · rintro ⟨low, high⟩
      refine ⟨d.val - first.val, by omega, ?_⟩
      rw [dif_pos (by omega)]
      exact congrArg some (Fin.ext (by simp only; omega))
  | false =>
    simp only [List.mem_range, Bool.false_eq_true, if_false]
    constructor
    · rintro ⟨i, hi, e⟩
      split at e
      · cases e
        exact ⟨Nat.sub_le .., by simp only; omega⟩
      · cases e
    · rintro ⟨low, high⟩
      refine ⟨first.val - d.val, by omega, ?_⟩
      rw [if_pos (by omega)]
      exact congrArg some (Fin.ext (by simp only; omega))

theorem sweepRun_ordered (first : DestNo) (count : Byte) (up : Bool) : (sweepRun first count up).Pairwise (sweepsBefore up) := by
  unfold sweepRun sweepsBefore
  refine List.Pairwise.filterMap _ (fun i j hij d hd e he => ?_) List.pairwise_lt_range
  cases up with
  | true =>
    simp only [if_true] at hd he ⊢
    split at hd
    · split at he
      · cases hd
        cases he
        exact Fin.mk_lt_mk.mpr (by omega)
      · cases he
    · cases hd
  | false =>
    simp only [Bool.false_eq_true, if_false] at hd he ⊢
    split at hd
    · split at he
      · cases hd
        cases he
        exact Fin.mk_lt_mk.mpr (by omega)
      · cases he
    · cases hd

theorem sweepsBefore_asymm (up : Bool) (d e : DestNo) (h : sweepsBefore up d e) : ¬sweepsBefore up e d := by
  unfold sweepsBefore at *
  cases up <;> simp only [Bool.false_eq_true, if_false, if_true] at h ⊢ <;> exact lt_asymm h

/-- Two lists in one strict order with the same members are the same. -/
theorem eq_of_ordered {α : Type} {r : α → α → Prop} (asymm : ∀ a b, r a b → ¬r b a) {l l' : List α} (ordered : l.Pairwise r)
    (ordered' : l'.Pairwise r) (same : ∀ a, a ∈ l ↔ a ∈ l') : l = l' := by
  have nodup {l : List α} (h : l.Pairwise r) : l.Nodup := h.imp (S := (· ≠ ·)) fun hab e => asymm _ _ hab (e ▸ hab)
  have perm : l.Perm l' := (List.perm_ext_iff_of_nodup (nodup ordered) (nodup ordered')).mpr same
  exact perm.eq_of_pairwise (fun a b _ _ hab hba => absurd hba (asymm a b hab)) ordered ordered'

theorem sweepRun_eq (first : DestNo) (count : Byte) (up : Bool) [DecidablePred (inSweep first (count.toNat % 128) up)] :
    sweepRun first count up = if up then (List.finRange 128).filter fun d => decide (inSweep first (count.toNat % 128) up d)
      else ((List.finRange 128).filter fun d => decide (inSweep first (count.toNat % 128) up d)).reverse := by
  have ascending : ((List.finRange 128).filter fun d => decide (inSweep first (count.toNat % 128) up d)).Pairwise (· < ·) :=
    (List.pairwise_lt_finRange 128).filter _
  refine eq_of_ordered (sweepsBefore_asymm up) (sweepRun_ordered ..) ?_ fun d => ?_
  · cases up with
    | true => exact ascending
    | false => exact List.pairwise_reverse.mpr ascending
  · rw [sweepRun_mem]
    cases up <;> simp

end Sys2Proof.Machine
end

section
/-! SUPPORT. SWEEP (R117, R118). -/

namespace Sys2Proof.Machine

/-! ## The first skipped of a run (R111, R118) -/

theorem firstSkipped_eq {α : Type} (number : α → Byte) (failure : α → Option Status) (l : List α) : firstSkipped number failure l =
    (l.filter fun x => (failure x).isSome).head?.map fun x => (number x, (failure x).getD .ok) := by
  induction l with
  | nil => rfl
  | cons x l ih =>
    rw [firstSkipped]
    cases h : failure x with
    | some st => simp [h]
    | none => simp [h, ih]

/-! ## The placements of a SWEEP (R118) -/

theorem removedAt_congr {s : State} {p q : DestNo → Prop} [DecidablePred p] [DecidablePred q] (same : ∀ e, p e ↔ q e) (d : DestNo) :
    removedAt s p d = removedAt s q d := by
  unfold removedAt
  cases boundPartner s d with
  | none => rfl
  | some e => exact if_congr Iff.rfl rfl (if_congr (same e) rfl rfl)

theorem lastFor_same (order : List DestNo) (k : Take) (e : DestNo) :
    lastFor (order.map fun d => (d, k)) e = if e ∈ order then some k else none := by
  split
  · next h =>
    have some : (lastFor (order.map fun d => (d, k)) e).isSome = true := (lastFor_isSome ..).mpr (by simpa using h)
    obtain ⟨q, hq⟩ := Option.isSome_iff_exists.mp some
    have := lastFor_mem hq
    simp only [List.mem_map, Prod.mk.injEq] at this
    obtain ⟨-, -, -, rfl⟩ := this
    exact hq
  · next h => exact lastFor_none.mpr (by simpa using h)

/-- The placements of one take at the destinations of an order, and what they tell. -/
theorem sweep_placed {s : State} {k : Take} (alone : k.partner = none) {before : DestNo → DestNo → Prop} [∀ e d, Decidable (before e d)]
    (asymm : ∀ a b, before a b → ¬before b a) {order : List DestNo} (ordered : order.Pairwise before) :
    PlacedSoFar s (order.map fun d => (d, k)) (order.foldl (fun x d => placeTake s d k x) s) ∧
      SameTold (order.foldl (fun x d => placeTake s d k x) s)
        (tell .superseded (order.flatMap fun d => removedAt s (fun e => e ∈ order ∧ before e d) d) s) := by
  refine foldl_prefix (P := fun pre x => PlacedSoFar s (pre.map fun d => (d, k)) x ∧
    SameTold x (tell .superseded (pre.flatMap fun d => removedAt s (fun e => e ∈ order ∧ before e d) d) s))
    ⟨.start s, .refl s⟩ fun pre d post x e ⟨placed, told⟩ => ?_
  have single : ∀ y ∈ pre.map fun d => (d, k), y.2.partner = none := by
    intro y hy
    obtain ⟨-, -, rfl⟩ := List.mem_map.mp hy
    exact alone
  have earlier (p : DestNo) : p ∈ pre ↔ p ∈ order ∧ before p d := mem_before_iff asymm ordered e p
  have new : lastFor (pre.map fun d => (d, k)) d = none := by
    rw [lastFor_same, if_neg]
    exact fun inside => asymm d d ((earlier d).mp inside).2 ((earlier d).mp inside).2
  refine ⟨?_, ?_⟩
  · rw [List.map_append]
    exact placed.step single d k
  · have list : (pre ++ [d]).flatMap (fun d => removedAt s (fun e => e ∈ order ∧ before e d) d) =
        pre.flatMap (fun d => removedAt s (fun e => e ∈ order ∧ before e d) d) ++ removedAt s (fun e => e ∈ order ∧ before e d) d := by simp
    have one := placed.step_told single (b := s) k new
    rw [removedAt_congr (q := fun e => e ∈ order ∧ before e d) fun p => by rw [lastFor_same, ← earlier]; by_cases h : p ∈ pre <;> simp [h]] at one
    rw [list, tell_append]
    exact one.trans (tell_told told ..)

/-! ## SWEEP's act -/

theorem directionOperand_none {b : Byte} (h : 2 ≤ b.toNat) : directionOperand b = none := by
  unfold directionOperand
  rw [if_neg, if_neg] <;> rintro rfl <;> exact absurd h (by decide)

theorem directionOperand_some {b : Byte} (h : b.toNat < 2) : ∃ up, directionOperand b = some up := by
  unfold directionOperand
  by_cases zero : b = 0
  · exact ⟨true, if_pos zero⟩
  · have one : b = 1 := by
      have : b.toNat ≠ 0 := fun e => zero (BitVec.eq_of_toNat_eq e)
      exact BitVec.eq_of_toNat_eq (show b.toNat = 1 by omega)
    exact ⟨false, (if_neg zero).trans (if_pos one)⟩

section
variable {t : Trunk} {h : Header} {o : SweepOperands} {s : State}

theorem actSweep_mode (mode : namesMode o.mode = false) : actSweep t h o s = refuse s .operandError := by
  rw [actSweep, mode]
  rfl

theorem actSweep_direction (mode : namesMode o.mode = true) (direction : directionOperand o.direction = none) :
    actSweep t h o s = refuse s .operandError := by
  rw [actSweep, mode, direction]
  rfl

theorem actSweep_range {up : Bool} (mode : namesMode o.mode = true) (direction : directionOperand o.direction = some up)
    (range : destOperand o.first = none ∨ sourceOperand o.source = none) : actSweep t h o s = refuse s .range := by
  rw [actSweep, mode, direction]
  rcases range with e | e <;> rw [e]
  · rfl
  · cases destOperand o.first <;> rfl

/-- The failure of a SWEEP's take at a destination (R118). -/
def sweepFailure (s : State) (owner : Byte) (source : Option SourceNo) (g : Target) (d : DestNo) : Option Status :=
  requestFailure s owner false .clear { dest := d, source, guardSource := none, target := g }

theorem actSweep_checked {up : Bool} {first : DestNo} {source : Option SourceNo} {run : List DestNo} (mode : namesMode o.mode = true)
    (direction : directionOperand o.direction = some up) (hf : destOperand o.first = some first)
    (hs : sourceOperand o.source = some source) (runs : sweepRun first o.count up = run) :
    let g := fixTarget s.houseTime o.mode o.frames
    let order := run.filter fun d => (sweepFailure s h.owner source g d).isNone
    actSweep t h o s = ⟨displayVacated s (order.foldl (fun x d => placeTake s d (newTake t h.tag (.fixed source) none g false) x) s),
      acceptedStatus (g.late && order != []), [countField order.length, countField (run.length - order.length)] ++
        skippedFields (firstSkipped (fun d : DestNo => numByte d) (sweepFailure s h.owner source g) run)⟩ := by
  rw [actSweep, mode, direction, hf, hs, ← runs]
  rfl

end

/-- Settles O40: the refusals, and the placements in run order. -/
theorem sweepTakesItsRun : Obligations.SweepTakesItsRun := by
  unfold Obligations.SweepTakesItsRun
  refine ⟨fun t h o s hr => ?_, fun t h o up first source s hr mode direction hf hs => ?_⟩
  · intro refused
    have refuses (st : Status) (act : actSweep t h o (headTaken s t) = refuse (headTaken s t) st) : refused st :=
      (exec_sweep ..).trans (executeCommand_refused hr act)
    refine ⟨fun ⟨b, other⟩ => refuses _ (actSweep_mode (by rw [other]; rfl)), fun mode wrong => ?_, fun mode right range => ?_⟩
    · exact refuses _ (actSweep_direction (namesMode_iff.mpr mode) (directionOperand_none wrong))
    · obtain ⟨up, direction⟩ := directionOperand_some right
      exact refuses _ (actSweep_range (namesMode_iff.mpr mode) direction (range.imp destOperand_none.mpr sourceOperand_none.mpr))
  · intro g failure inRun taken skipped run rest
    let u := headTaken s t
    let k := newTake t h.tag (.fixed source) none g false
    have runs : sweepRun first o.count up = run := @sweepRun_eq first o.count up fun d => inferInstanceAs (Decidable (inRun d))
    let order := run.filter fun d => (failure d).isNone
    have counts (p : DestNo → Bool) : (List.finRange 128).countP (fun d => decide (inRun d) && p d) = (run.filter p).length := by
      rw [← List.countP_eq_length_filter]
      have base : ((List.finRange 128).filter fun d => decide (inRun d)).countP p =
          (List.finRange 128).countP fun d => decide (inRun d) && p d := by
        rw [List.countP_filter]
        exact List.countP_congr fun d _ => by rw [Bool.and_comm]
      unfold run
      split
      · exact base.symm
      · rw [List.countP_reverse]
        exact base.symm
    have takes : taken = order.length := counts _
    have skips : skipped = run.length - order.length := by
      have both := List.length_eq_countP_add_countP (l := run) fun d => (failure d).isNone
      rw [List.countP_eq_length_filter, List.countP_eq_length_filter] at both
      have some : (run.filter fun d => (failure d).isSome) = run.filter fun a => decide ¬(failure a).isNone = true :=
        List.filter_congr fun d _ => by cases failure d <;> rfl
      have : skipped = (run.filter fun d => (failure d).isSome).length := counts _
      rw [this, some]
      show _ = run.length - (run.filter fun d => (failure d).isNone).length
      omega
    have firstOf : skippedFields (firstSkipped (fun d : DestNo => numByte d) failure run) = rest := by
      rw [firstSkipped_eq]
      unfold rest
      cases (run.filter fun d => (failure d).isSome) <;> rfl
    have act := actSweep_checked (t := t) (h := h) (s := u) mode direction hf hs runs
    have member (d : DestNo) : d ∈ order ↔ inRun d ∧ failure d = none := by
      unfold order
      rw [List.mem_filter, ← runs, sweepRun_mem, Option.isNone_iff_eq_none]
      rfl
    have ordered : order.Pairwise (sweepsBefore up) := (runs ▸ sweepRun_ordered first o.count up).filter _
    have late : acceptedStatus (g.late && order != []) = if g.late = true ∧ taken ≠ 0 then .okLate else .ok := by
      rw [takes]
      refine if_congr ?_ rfl rfl
      rw [Bool.and_eq_true, bne_iff_ne, ne_eq, ne_eq, List.length_eq_zero_iff]
    let decides (e d : DestNo) : Decidable (sweepsBefore up e d) := inferInstanceAs (Decidable (if up then e < d else d < e))
    obtain ⟨placed, told⟩ := @sweep_placed u k rfl (sweepsBefore up) decides (sweepsBefore_asymm up) order ordered
    have reached (d : DestNo) : lastFor (order.map fun d => (d, k)) d = if d ∈ order then some k else none := lastFor_same ..
    have act' : actSweep t h o u = ⟨displayVacated u (order.foldl (fun x d => placeTake u d k x) u),
        if g.late = true ∧ taken ≠ 0 then .okLate else .ok,
        [.quantity (BitVec.ofNat 8 taken), .quantity (BitVec.ofNat 8 skipped)] ++ rest⟩ := by
      refine act.trans ?_
      rw [← late, takes, skips, ← firstOf]
      rfl
    generalize order.foldl (fun x d => placeTake u d k x) u = x at placed told act'
    have shows := displayVacated_eq u x
    have same := (displayVacated_told u x).trans told
    generalize displayVacated u x = y at act' shows same
    refine ⟨y, (exec_sweep ..).trans (executeCommand_of_act hr act'), ?_, ?_, fun d outside => ?_, fun d inside passes => ?_⟩
    · rw [shows]
      dsimp only
      rw [placed.rest]
    · intro held order removed told'
      have all : SameTold y told' := same.trans (tell_told (u := u) (v := s) ⟨rfl, rfl, rfl⟩ .superseded removed)
      exact ⟨all.salvos, all.returns⟩
    · have none : lastFor (order.map fun d => (d, k)) d = none := (reached d).trans (if_neg fun h => outside ((member d).mp h))
      have follow := placed.follow d
      have active := placed.active d
      rw [none] at follow active
      rw [shows]
      refine ⟨follow, active.trans (if_congr ?_ rfl rfl)⟩
      have each (p : DestNo) : (lastFor (order.map fun d => (d, k)) p).isSome = (decide (inRun p) && (failure p).isNone) := by
        rw [reached, Bool.eq_iff_iff, Bool.and_eq_true, decide_eq_true_eq, Option.isNone_iff_eq_none, ← member]
        by_cases h : p ∈ order <;> simp [h]
      rw [funext each]
      rfl
    · have some : lastFor (order.map fun d => (d, k)) d = some k := (reached d).trans (if_pos ((member d).mpr ⟨inside, passes⟩))
      have follow := placed.follow d
      have active := placed.active d
      rw [some] at follow active
      have fields : y.active = x.active ∧ y.follow = x.follow := by rw [shows]; exact ⟨rfl, rfl⟩
      rw [fields.1, fields.2]
      by_cases busy : (s.active.get d).any (fun q => q.state != .armed) = true
      · rw [if_pos busy]
        exact ⟨active.trans (if_pos busy), _, follow.trans (if_pos busy), rfl, rfl, rfl, rfl⟩
      · rw [if_neg busy]
        exact ⟨_, active.trans (if_neg busy), rfl, rfl, rfl, rfl, rfl⟩

end Sys2Proof.Machine
end

section
/-! SUPPORT. SALVO_FIRE (R108–R115): its pairs, the run of their takes, and what the run tells. -/

namespace Sys2Proof.Machine

/-! ## Ends told that do not name a slot -/

/-- Two states that differ in a salvo slot alone, as far as ends are told. -/
structure ToldBut (m : SlotNo) (u v : State) : Prop where
  now : u.houseTime = v.houseTime
  salvos : ∀ j, j ≠ m → u.salvos.get j = v.salvos.get j
  returns : u.returns = v.returns

theorem ToldBut.refl (m : SlotNo) (s : State) : ToldBut m s s := ⟨rfl, fun _ _ => rfl, rfl⟩

theorem ToldBut.trans {m : SlotNo} {u v w : State} (h : ToldBut m u v) (h' : ToldBut m v w) : ToldBut m u w :=
  ⟨h.now.trans h'.now, fun j hj => (h.salvos j hj).trans (h'.salvos j hj), h.returns.trans h'.returns⟩

theorem SameTold.but {u v : State} (h : SameTold u v) (m : SlotNo) : ToldBut m u v := ⟨h.now, fun j _ => by rw [h.salvos], h.returns⟩

theorem notifyEnd_toldBut {m : SlotNo} {u v : State} (h : ToldBut m u v) (d : DestNo) {k : Take} (out : TakeOutcome) (other : k.salvo ≠ some m) :
    ToldBut m (notifyEnd d k out u) (notifyEnd d k out v) := by
  refine ⟨by simpa using h.now, fun j hj => ?_, ?_⟩
  · rw [notifyEnd_salvos, notifyEnd_salvos]
    cases hk : k.salvo with
    | none => exact h.salvos j hj
    | some n =>
      simp only [Tbl.get_modify]
      split <;> rw [h.salvos j hj]
  · cases hk : k.salvo with
    | none => rw [(notifyEnd_single_records hk).2, (notifyEnd_single_records hk).2, h.returns, h.now]
    | some n =>
      have slot : u.salvos.get n = v.salvos.get n := h.salvos n fun e => other (by rw [hk, e])
      have after : (u.salvos.modify n (·.ended out)).get n = (v.salvos.modify n (·.ended out)).get n := by
        rw [Tbl.get_modify_self, Tbl.get_modify_self, slot]
      unfold notifyEnd salvoNotice
      rw [hk]
      dsimp only
      rw [slot, h.now]
      split
      · next a g _ _ =>
        split
        · exact congrArg (·.modify a (·.push (.salvoDone n g ((v.salvos.get n).tallies.add out) v.houseTime))) h.returns
        · exact h.returns
      · exact h.returns

theorem tell_toldBut {m : SlotNo} {u v : State} (h : ToldBut m u v) (out : TakeOutcome) {l : List (DestNo × Take)}
    (other : ∀ y ∈ l, y.2.salvo ≠ some m) : ToldBut m (tell out l u) (tell out l v) := by
  induction l generalizing u v with
  | nil => exact h
  | cons y l ih =>
    exact ih (notifyEnd_toldBut h y.1 out (other y (List.mem_cons_self ..))) fun z hz => other z (List.mem_cons_of_mem _ hz)

/-- Ends that do not name a slot leave it. -/
theorem tell_slot {m : SlotNo} (out : TakeOutcome) {l : List (DestNo × Take)} (other : ∀ y ∈ l, y.2.salvo ≠ some m) (s : State) :
    (tell out l s).salvos.get m = s.salvos.get m := by
  induction l generalizing s with
  | nil => rfl
  | cons y l ih =>
    refine (ih (fun z hz => other z (List.mem_cons_of_mem _ hz)) (notifyEnd y.1 y.2 out s)).trans ?_
    rw [notifyEnd_salvos]
    have first := other y (List.mem_cons_self ..)
    cases hk : y.2.salvo with
    | none => rfl
    | some n =>
      rw [hk] at first
      exact Tbl.get_modify_ne _ _ fun e => first (by rw [e])

/-- The end of a take of a slot that counts more than it: counted, and nothing else told. -/
theorem notifyEnd_counted {d : DestNo} {k : Take} {m : SlotNo} {s : State} (slot : k.salvo = some m)
    (more : 1 < (s.salvos.get m).outstanding) :
    notifyEnd d k .superseded s = s.updSalvo m (·.ended .superseded) := by
  simp only [notifyEnd, slot, salvoNotice]
  have several : (s.salvos.get m).outstanding ≠ 1 := by omega
  cases (s.salvos.get m).firingTrunk with
  | none => rfl
  | some a =>
    cases (s.salvos.get m).firingTag with
    | none => rfl
    | some g => simp [several]

end Sys2Proof.Machine
end

section
/-! SUPPORT. SALVO_FIRE (R108–R115): its pairs and the run of their takes. -/

namespace Sys2Proof.Machine

/-! ## The pairs of a slot (R109) -/

/-- The pair at a position that a fire looks at. -/
def pairAt (k : SalvoSlot) (i : Fin 16) : Option (Fin 16 × Pair) :=
  if i.val < k.count then (k.positions.get i).map fun p => (i, p) else none

theorem firedPairs_eq (k : SalvoSlot) : firedPairs k = (List.finRange 16).filterMap (pairAt k) := rfl

theorem mem_firedPairs {k : SalvoSlot} {y : Fin 16 × Pair} : y ∈ firedPairs k ↔ y.1.val < k.count ∧ k.positions.get y.1 = some y.2 := by
  rw [firedPairs_eq, List.mem_filterMap]
  constructor
  · rintro ⟨i, -, h⟩
    unfold pairAt at h
    split at h
    · next low =>
      obtain ⟨p, hp, rfl⟩ := Option.map_eq_some_iff.mp h
      exact ⟨low, hp⟩
    · cases h
  · rintro ⟨low, hp⟩
    exact ⟨y.1, List.mem_finRange _, by rw [pairAt, if_pos low, hp]; rfl⟩

theorem firedPairs_ordered (k : SalvoSlot) : (firedPairs k).Pairwise fun y z => y.1 < z.1 := by
  refine List.Pairwise.filterMap _ (fun i j hij y hy z hz => ?_) (List.pairwise_lt_finRange 16)
  have number {i : Fin 16} {y : Fin 16 × Pair} (h : pairAt k i = some y) : y.1 = i := by
    unfold pairAt at h
    split at h
    · obtain ⟨p, -, rfl⟩ := Option.map_eq_some_iff.mp h
      rfl
    · cases h
  rw [number hy, number hz]
  exact hij

/-- The positions of the pairs that satisfy a test. -/
theorem firedPairs_positions (k : SalvoSlot) (q : Pair → Bool) : ((firedPairs k).filter fun y => q y.2).map (·.1) =
    (List.finRange 16).filter fun i => decide (i.val < k.count) && (k.positions.get i).any q := by
  rw [firedPairs_eq]
  induction List.finRange 16 with
  | nil => rfl
  | cons i l ih =>
    rw [List.filterMap_cons, List.filter_cons]
    unfold pairAt at ih ⊢
    by_cases low : i.val < k.count
    · cases hp : k.positions.get i with
      | none => simpa [low, hp] using ih
      | some p => by_cases hq : q p = true <;> simp [low, hq, ih]
    · simpa [low] using ih

/-- A test of the pairs, read at their positions. -/
theorem countP_positions (k : SalvoSlot) (q : Pair → Bool) {l : List (Fin 16 × Pair)} (held : ∀ y ∈ l, k.positions.get y.1 = some y.2) :
    (l.map (·.1)).countP (fun i => (k.positions.get i).any q) = l.countP fun y => q y.2 := by
  rw [List.countP_map]
  refine List.countP_congr fun y hy => ?_
  simp [held y hy]

/-! ## The takes of a fire (R112) -/

/-- The take that a fire makes of a pair. -/
def firedTake (slot : SlotNo) (t : Trunk) (tag : Tag) (g : Target) (p : Pair) : Take :=
  { newTake t tag (.fixed p.source) p.guardSource g false with salvo := some slot }

/-- The run of placements that the pairs of a fire make. -/
def firedRun (slot : SlotNo) (t : Trunk) (tag : Tag) (g : Target) (pairs : List (Fin 16 × Pair)) : List (DestNo × Take) :=
  pairs.map fun y => (y.2.dest, firedTake slot t tag g y.2)

/-- The destinations of a list of pairs. -/
def destsOf (pairs : List (Fin 16 × Pair)) : List DestNo := pairs.map (·.2.dest)

section
variable {slot : SlotNo} {t : Trunk} {tag : Tag} {g : Target}

theorem firedRun_alone (pairs : List (Fin 16 × Pair)) : ∀ y ∈ firedRun slot t tag g pairs, y.2.partner = none := by
  intro y hy
  obtain ⟨z, -, rfl⟩ := List.mem_map.mp hy
  rfl

theorem firedRun_salvo {pairs : List (Fin 16 × Pair)} {d : DestNo} {k : Take} (h : lastFor (firedRun slot t tag g pairs) d = some k) :
    k.salvo = some slot := by
  obtain ⟨z, -, e⟩ := List.mem_map.mp (lastFor_mem h)
  cases e
  rfl

theorem firedRun_isSome (pairs : List (Fin 16 × Pair)) (d : DestNo) :
    (lastFor (firedRun slot t tag g pairs) d).isSome = true ↔ d ∈ destsOf pairs := by
  rw [lastFor_isSome, firedRun, destsOf, List.map_map]
  rfl

/-- The last pair for a destination gives the take there. -/
theorem firedRun_last {pre post : List (Fin 16 × Pair)} {y : Fin 16 × Pair} (last : ∀ z ∈ post, z.2.dest ≠ y.2.dest) :
    lastFor (firedRun slot t tag g (pre ++ y :: post)) y.2.dest = some (firedTake slot t tag g y.2) := by
  induction post using List.reverseRecOn with
  | nil =>
    rw [firedRun, List.map_append]
    exact (lastFor_append ..).trans (if_pos rfl)
  | append_singleton post z ih =>
    have one : pre ++ y :: (post ++ [z]) = (pre ++ y :: post) ++ [z] := by simp
    rw [one, firedRun, List.map_append]
    refine (lastFor_append ..).trans ((if_neg (last z (by simp))).trans ?_)
    exact ih fun w hw => last w (by simp [hw])

end

/-! ## The state of a fire, pair by pair -/

/-- No take of a slot that is not FIRED (R104). -/
theorem unnamed_of_idle {s : State} {m : SlotNo} (law : SalvoLaw s) (idle : (s.salvos.get m).outstanding = 0) :
    (∀ d k, s.active.get d = some k → k.salvo ≠ some m) ∧ ∀ d k, s.follow.get d = some k → k.salvo ≠ some m := by
  have none := (law.outstanding m).symm.trans idle
  rw [takesNaming, Nat.add_eq_zero_iff, Tbl.count_eq_zero, Tbl.count_eq_zero] at none
  obtain ⟨active, follow⟩ := none
  refine ⟨fun d k hk => ?_, fun d k hk => ?_⟩
  · simpa [hk] using active d
  · simpa [hk] using follow d

theorem removedAt_unnamed {s : State} {m : SlotNo} (active : ∀ d k, s.active.get d = some k → k.salvo ≠ some m)
    (follow : ∀ d k, s.follow.get d = some k → k.salvo ≠ some m) (run : DestNo → Prop) [DecidablePred run] (d : DestNo) :
    ∀ y ∈ removedAt s run d, y.2.salvo ≠ some m := by
  have held (d : DestNo) : ∀ y ∈ heldAt s d, y.2.salvo ≠ some m := by
    intro y hy
    unfold heldAt at hy
    obtain ⟨k, hk, rfl⟩ := List.mem_map.mp hy
    exact active d k (Option.mem_toList.mp hk)
  unfold removedAt
  intro y hy
  split at hy
  · unfold followAt at hy
    obtain ⟨k, hk, rfl⟩ := List.mem_map.mp hy
    exact follow d k (Option.mem_toList.mp hk)
  · split at hy
    · exact held d y hy
    · split at hy
      · cases hy
      · split at hy
        · exact held d y hy
        · rcases List.mem_append.mp hy with hy | hy
          · exact held _ y hy
          · exact held _ y hy

/-- What the placement of a fire's pair tells of other commands' takes: nothing where an earlier pair has the destination. -/
def supersededBy (s : State) (pairs : List (Fin 16 × Pair)) (y : Fin 16 × Pair) : List (DestNo × Take) :=
  let earlier := fun d : DestNo => ∃ z ∈ pairs, z.1 < y.1 ∧ z.2.dest = d
  if earlier y.2.dest then [] else removedAt s earlier y.2.dest

/-- The state of a fire of the slot `m`, its pairs `pre` placed. -/
structure FiredSoFar (s : State) (m : SlotNo) (t : Trunk) (tag : Tag) (g : Target) (all pre : List (Fin 16 × Pair)) (x : State) : Prop where
  placed : PlacedSoFar s (firedRun m t tag g pre) x
  slot : x.salvos.get m = { s.salvos.get m with
    outstanding := (destsOf pre).toFinset.card
    tallies := { Tallies.zero with superseded := pre.length - (destsOf pre).toFinset.card }
    firingTrunk := some t, firingTag := some tag }
  told : ToldBut m x (tell .superseded (pre.flatMap (supersededBy s all)) s)

section
variable {s x b : State} {m : SlotNo} {t : Trunk} {tag : Tag} {g : Target} {all pre post : List (Fin 16 × Pair)} {y : Fin 16 × Pair}

/-- The destinations of the pairs before one. -/
theorem mem_destsOf_before (ordered : all.Pairwise fun y z => y.1 < z.1) (e : all = pre ++ y :: post) (d : DestNo) :
    d ∈ destsOf pre ↔ ∃ z ∈ all, z.1 < y.1 ∧ z.2.dest = d := by
  simp only [destsOf, List.mem_map]
  constructor
  · rintro ⟨z, hz, rfl⟩
    obtain ⟨inside, before⟩ := (mem_before_iff (fun _ _ => lt_asymm) ordered e z).mp hz
    exact ⟨z, inside, before, rfl⟩
  · rintro ⟨z, hz, before, rfl⟩
    exact ⟨z, (mem_before_iff (fun _ _ => lt_asymm) ordered e z).mpr ⟨hz, before⟩, rfl⟩

theorem destsOf_append (pre : List (Fin 16 × Pair)) (y : Fin 16 × Pair) : destsOf (pre ++ [y]) = destsOf pre ++ [y.2.dest] := by
  simp [destsOf]

theorem destsOf_toFinset (pre : List (Fin 16 × Pair)) (y : Fin 16 × Pair) :
    (destsOf (pre ++ [y])).toFinset = insert y.2.dest (destsOf pre).toFinset := by
  rw [destsOf_append, List.toFinset_append, Finset.union_comm]
  rfl

theorem destsOf_card_le (pre : List (Fin 16 × Pair)) : (destsOf pre).toFinset.card ≤ pre.length := by
  have := List.toFinset_card_le (destsOf pre)
  rwa [destsOf, List.length_map] at this

/-- The slot's outstanding count raised for a take about to be placed (R112). -/
def counting (m : SlotNo) (x : State) : State := x.updSalvo m fun k => { k with outstanding := k.outstanding + 1 }

theorem counting_but (m : SlotNo) (x : State) : ToldBut m (counting m x) x :=
  ⟨rfl, fun _ hj => Tbl.get_modify_ne _ _ (Ne.symm hj), rfl⟩

/-- The take that an earlier pair placed at a destination is what a placement there ends. -/
theorem PlacedSoFar.step_again {run : List (DestNo × Take)} (h : PlacedSoFar s run x) (alone : ∀ y ∈ run, y.2.partner = none)
    {d : DestNo} (k : Take) {q : Take} (again : lastFor run d = some q) :
    ∃ q' : Take, q'.salvo = q.salvo ∧ SameTold (placeTake b d k x) (notifyEnd d q' .superseded x) := by
  by_cases pf : placesFollow s d = true
  · have held : x.follow.get d = some { q with state := .following, placed := none } := by
      rw [h.follow, again]
      exact if_pos pf
    refine ⟨{ q with state := .following, placed := none }, rfl, ?_⟩
    have told := placeTake_follow_told (b := b) (k := k) (h.placesFollow_eq d ▸ pf)
    rw [followAt, held] at told
    exact told
  · have held : x.active.get d = some (armedTake s d q) := by
      rw [h.active, again]
      exact if_neg pf
    have armed : placesFollow x d = false := by rw [h.placesFollow_eq]; simpa using pf
    have unbound : boundPartner x d = none := (h.dealt alone).unbound d (by rw [again]; rfl)
    refine ⟨armedTake s d q, rfl, ?_⟩
    have told := placeTake_armed_told (b := b) (k := k) armed
    rw [leaving_eq, unbound, heldAt, held] at told
    exact told

/-- One pair of a fire more. -/
theorem FiredSoFar.step (active : ∀ d k, s.active.get d = some k → k.salvo ≠ some m) (follow : ∀ d k, s.follow.get d = some k → k.salvo ≠ some m)
    (ordered : all.Pairwise fun y z => y.1 < z.1) (e : all = pre ++ y :: post) (h : FiredSoFar s m t tag g all pre x) :
    FiredSoFar s m t tag g all (pre ++ [y]) (firePair b m t tag g y.2 x) := by
  have fires : firePair b m t tag g y.2 x = placeTake b y.2.dest (firedTake m t tag g y.2) (counting m x) := rfl
  have counted : (counting m x).salvos.get m = { x.salvos.get m with outstanding := (x.salvos.get m).outstanding + 1 } :=
    Tbl.get_modify_self ..
  have placed : PlacedSoFar s (firedRun m t tag g pre) (counting m x) := h.placed.of_same rfl
  have alone := firedRun_alone (slot := m) (t := t) (tag := tag) (g := g) pre
  have earlier (d : DestNo) := mem_destsOf_before ordered e d
  have le := destsOf_card_le pre
  rw [fires]
  have step : PlacedSoFar s (firedRun m t tag g (pre ++ [y])) (placeTake b y.2.dest (firedTake m t tag g y.2) (counting m x)) := by
    rw [firedRun, List.map_append]
    exact placed.step alone _ _
  have list : (pre ++ [y]).flatMap (supersededBy s all) = pre.flatMap (supersededBy s all) ++ supersededBy s all y := by simp
  by_cases again : y.2.dest ∈ destsOf pre
  · obtain ⟨q, hq⟩ := Option.isSome_iff_exists.mp ((firedRun_isSome (slot := m) (t := t) (tag := tag) (g := g) pre y.2.dest).mpr again)
    obtain ⟨q', hs, told⟩ := placed.step_again alone (b := b) (firedTake m t tag g y.2) hq
    have card : (destsOf (pre ++ [y])).toFinset.card = (destsOf pre).toFinset.card := by
      rw [destsOf_toFinset, Finset.insert_eq_of_mem (List.mem_toFinset.mpr again)]
    have several : 0 < (destsOf pre).toFinset.card := Finset.card_pos.mpr ⟨_, List.mem_toFinset.mpr again⟩
    rw [notifyEnd_counted (hs.trans (firedRun_salvo hq)) (by rw [counted, h.slot]; simp only; omega)] at told
    have quiet : supersededBy s all y = [] := if_pos ((earlier _).mp again)
    refine ⟨step, ?_, ?_⟩
    · rw [told.salvos, card]
      refine (Tbl.get_modify_self ..).trans ?_
      rw [counted, h.slot, List.length_append, List.length_singleton]
      have more : pre.length - (destsOf pre).toFinset.card + 1 = pre.length + 1 - (destsOf pre).toFinset.card := by omega
      rw [← more]
      rfl
    · rw [list, quiet, List.append_nil]
      refine (told.but m).trans (.trans ?_ ((counting_but m x).trans h.told))
      exact ⟨rfl, fun _ hj => Tbl.get_modify_ne _ _ (Ne.symm hj), rfl⟩
  · have new : lastFor (firedRun m t tag g pre) y.2.dest = none := by
      by_contra some
      exact again ((firedRun_isSome pre _).mp (Option.isSome_iff_ne_none.mpr some))
    have told := placed.step_told alone (b := b) (firedTake m t tag g y.2) new
    rw [removedAt_congr (q := fun d => ∃ z ∈ all, z.1 < y.1 ∧ z.2.dest = d) fun d => (firedRun_isSome pre d).trans (earlier d)] at told
    have removes : supersededBy s all y = removedAt s (fun d => ∃ z ∈ all, z.1 < y.1 ∧ z.2.dest = d) y.2.dest :=
      if_neg fun h => again ((earlier _).mpr h)
    have unnamed := removedAt_unnamed active follow (fun d => ∃ z ∈ all, z.1 < y.1 ∧ z.2.dest = d) y.2.dest
    have card : (destsOf (pre ++ [y])).toFinset.card = (destsOf pre).toFinset.card + 1 := by
      rw [destsOf_toFinset, Finset.card_insert_of_notMem fun h => again (List.mem_toFinset.mp h)]
    refine ⟨step, ?_, ?_⟩
    · rw [told.salvos, tell_slot _ unnamed, counted, h.slot, card, List.length_append, List.length_singleton, Nat.add_sub_add_right]
    · rw [list, removes, tell_append]
      exact (told.but m).trans (tell_toldBut ((counting_but m x).trans h.told) _ unnamed)

theorem fired_start : FiredSoFar s m t tag g all [] (s.updSalvo m (·.fire t tag)) where
  placed := (PlacedSoFar.start s).of_same rfl
  slot := Tbl.get_modify_self ..
  told := ⟨rfl, fun _ hj => Tbl.get_modify_ne _ _ (Ne.symm hj), rfl⟩

/-- The state after every pair of a fire. -/
theorem fired_done (active : ∀ d k, s.active.get d = some k → k.salvo ≠ some m) (follow : ∀ d k, s.follow.get d = some k → k.salvo ≠ some m)
    (ordered : all.Pairwise fun y z => y.1 < z.1) :
    FiredSoFar s m t tag g all all (all.foldl (fun x y => firePair s m t tag g y.2 x) (s.updSalvo m (·.fire t tag))) :=
  foldl_prefix (P := FiredSoFar s m t tag g all) fired_start fun _ _ _ _ e h => h.step active follow ordered e

end

end Sys2Proof.Machine
end

section
/-! SUPPORT. SALVO_FIRE (R108–R115): its act, and the records it leaves. -/

namespace Sys2Proof.Machine

/-! ## DISPLAY entries stay queued (R97) -/

/-- A DISPLAY entry waits for a destination. -/
def displayWaits (ports : Tbl DropPort 8) (d : DestNo) : Prop :=
  (⟨.display, channelOf d⟩ : ServiceEntry) ∈ (ports.get (portOf d)).service

theorem requestDisplay_waits {s : State} {d : DestNo} (e : DestNo) (h : displayWaits s.ports d) : displayWaits (requestDisplay e s).ports d := by
  unfold requestDisplay
  split
  · show _ ∈ ((s.ports.modify (portOf e) _).get (portOf d)).service
    rw [Tbl.get_modify]
    split
    · unfold DropPort.post
      split
      · exact h
      · exact List.mem_append_left _ h
    · exact h
  · exact h

theorem requestDisplay_own {s : State} {d : DestNo} (defined : (s.dests.get d).format.isSome = true) :
    displayWaits (requestDisplay d s).ports d := by
  rw [requestDisplay, if_pos defined]
  show _ ∈ ((s.ports.modify (portOf d) _).get (portOf d)).service
  rw [Tbl.get_modify_self]
  unfold DropPort.post
  split
  · next h => exact h
  · exact List.mem_append_right _ (List.mem_singleton_self _)

theorem displayVacated_waits {b s : State} {d : DestNo} (h : displayWaits s.ports d) : displayWaits (displayVacated b s).ports d :=
  foldl_invariant (P := fun x : State => displayWaits x.ports d) _ (fun _ e _ h => requestDisplay_waits e h) h

theorem placeTake_waits {b s : State} {d e : DestNo} (k : Take) (h : displayWaits s.ports d) : displayWaits (placeTake b e k s).ports d := by
  cases pf : placesFollow s e with
  | true =>
    rw [placeTake_eq_follow pf]
    simpa using h
  | false =>
    rw [placeTake_eq_armed pf, displayPlaced]
    split
    · exact requestDisplay_waits e (by simpa using h)
    · simpa using h

/-- Where PENDING appears, a placement requests an entry. -/
theorem placeTake_own {b s : State} {d : DestNo} (k : Take) (empty : b.active.get d = none) (armed : placesFollow s d = false)
    (defined : (s.dests.get d).format.isSome = true) : displayWaits (placeTake b d k s).ports d := by
  rw [placeTake_eq_armed armed, displayPlaced, if_pos (by rw [empty]; rfl)]
  exact requestDisplay_own (by simpa using defined)

/-- The entries of a fire: one waits for each destination where PENDING has appeared. -/
theorem fired_waits {s : State} {m : SlotNo} {t : Trunk} {tag : Tag} {g : Target} {all : List (Fin 16 × Pair)}
    (active : ∀ d k, s.active.get d = some k → k.salvo ≠ some m) (follow : ∀ d k, s.follow.get d = some k → k.salvo ≠ some m)
    (ordered : all.Pairwise fun y z => y.1 < z.1) : ∀ y ∈ all, s.active.get y.2.dest = none → (s.dests.get y.2.dest).format.isSome = true →
      displayWaits (all.foldl (fun x y => firePair s m t tag g y.2 x) (s.updSalvo m (·.fire t tag))).ports y.2.dest := by
  refine (foldl_prefix (P := fun pre x => FiredSoFar s m t tag g all pre x ∧ ∀ y ∈ pre, s.active.get y.2.dest = none →
    (s.dests.get y.2.dest).format.isSome = true → displayWaits x.ports y.2.dest) ⟨fired_start, fun _ h => absurd h List.not_mem_nil⟩
    fun pre y post x e ⟨fired, waits⟩ => ⟨fired.step active follow ordered e, fun z hz empty defined => ?_⟩).2
  rcases List.mem_append.mp hz with inside | last
  · exact placeTake_waits _ (s := counting m x) (waits z inside empty defined)
  · obtain rfl := List.mem_singleton.mp last
    have armed : placesFollow (counting m x) z.2.dest = false := by
      have same : placesFollow (counting m x) z.2.dest = placesFollow s z.2.dest := fired.placed.placesFollow_eq z.2.dest
      rw [same, placesFollow, empty]
      rfl
    have dests : (counting m x).dests = s.dests := fired.placed.schedule.2.1
    have present : ((counting m x).dests.get z.2.dest).format.isSome = true := by
      rw [dests]
      exact defined
    exact placeTake_own (s := counting m x) _ empty armed present

/-! ## The act (R108–R113) -/

theorem firstSkipped_split {α : Type} {number : α → Byte} {failure : α → Option Status} {pre post : List α} {x : α} {st : Status}
    (passes : ∀ y ∈ pre, failure y = none) (fails : failure x = some st) :
    firstSkipped number failure (pre ++ x :: post) = some (number x, st) := by
  induction pre with
  | nil => rw [List.nil_append, firstSkipped, fails]
  | cons y pre ih =>
    rw [List.cons_append, firstSkipped, passes y (List.mem_cons_self ..)]
    exact ih fun z hz => passes z (List.mem_cons_of_mem _ hz)

theorem fireModeOperand_none {b : Byte} (h : 2 ≤ b.toNat) : fireModeOperand b = none := by
  unfold fireModeOperand
  rw [if_neg, if_neg] <;> rintro rfl <;> exact absurd h (by decide)

theorem fireModeOperand_some {b : Byte} (h : b.toNat < 2) : fireModeOperand b = some (decide (b = 0)) := by
  unfold fireModeOperand
  by_cases zero : b = 0
  · rw [if_pos zero, decide_eq_true zero]
  · have one : b = 1 := by
      have : b.toNat ≠ 0 := fun e => zero (BitVec.eq_of_toNat_eq e)
      exact BitVec.eq_of_toNat_eq (show b.toNat = 1 by omega)
    rw [if_neg zero, if_pos one, decide_eq_false zero]

theorem slotState_empty {x : SalvoSlot} (idle : x.outstanding = 0) (none : x.count = 0) : x.state = .empty := by
  simp [SalvoSlot.state, idle, none]

theorem slotState_loaded {x : SalvoSlot} (idle : x.outstanding = 0) (some : 0 < x.count) : x.state = .loaded := by
  have : x.count ≠ 0 := by omega
  simp [SalvoSlot.state, idle, this]

section
variable {t : Trunk} {h : Header} {o : FireOperands} {s : State} {slot : SlotNo} {strict : Bool}

theorem actSalvoFire_mode (mode : namesMode o.mode = false) : actSalvoFire t h o s = refuse s .operandError := by
  rw [actSalvoFire, mode]
  rfl

theorem actSalvoFire_fireMode (mode : namesMode o.mode = true) (wrong : fireModeOperand o.fireMode = none) :
    actSalvoFire t h o s = refuse s .operandError := by
  rw [actSalvoFire, mode, wrong]
  rfl

theorem actSalvoFire_range (mode : namesMode o.mode = true) (fm : fireModeOperand o.fireMode = some strict) (range : slotOperand o.slot = none) :
    actSalvoFire t h o s = refuse s .range := by
  rw [actSalvoFire, mode, fm, range]
  rfl

variable (mode : namesMode o.mode = true) (fm : fireModeOperand o.fireMode = some strict) (hs : slotOperand o.slot = some slot)
include mode fm hs

theorem actSalvoFire_empty (state : (s.salvos.get slot).state = .empty) : actSalvoFire t h o s = refuse s .emptySlot := by
  rw [actSalvoFire, mode, fm, hs]
  dsimp only
  rw [state]
  rfl

theorem actSalvoFire_fired (state : (s.salvos.get slot).state = .fired) : actSalvoFire t h o s = refuse s .busy := by
  rw [actSalvoFire, mode, fm, hs]
  dsimp only
  rw [state]
  rfl

theorem actSalvoFire_strict {position : Byte} {st : Status} (state : (s.salvos.get slot).state = .loaded) (strictly : strict = true)
    (first : firstSkipped (fun x : Fin 16 × Pair => numByte x.1) (pairFailure s h.owner (fixTarget s.houseTime o.mode o.frames))
      (firedPairs (s.salvos.get slot)) = some (position, st)) : actSalvoFire t h o s = refuse s st [.quantity position] := by
  rw [actSalvoFire, mode, fm, hs, strictly]
  dsimp only
  rw [state, first]
  rfl

theorem actSalvoFire_fires (state : (s.salvos.get slot).state = .loaded)
    (whole : strict = true → firstSkipped (fun x : Fin 16 × Pair => numByte x.1)
      (pairFailure s h.owner (fixTarget s.houseTime o.mode o.frames)) (firedPairs (s.salvos.get slot)) = none) :
    let g := fixTarget s.houseTime o.mode o.frames
    let pairs := firedPairs (s.salvos.get slot)
    let accepted := pairs.filter fun x => (pairFailure s h.owner g x).isNone
    actSalvoFire t h o s = fireSalvo slot t h g accepted (pairs.length - accepted.length)
      (firstSkipped (fun x : Fin 16 × Pair => numByte x.1) (pairFailure s h.owner g) pairs) s := by
  rw [actSalvoFire, mode, fm, hs]
  dsimp only
  rw [state]
  cases strict with
  | true =>
    rw [whole rfl]
    rfl
  | false => rfl

end

/-! ## The pairs accepted and skipped (R109–R113) -/

theorem held_positions (k : SalvoSlot) (q : Option Pair → Bool) :
    ((List.finRange 16).filter fun i => decide (i.val < k.count) && (k.positions.get i).isSome).filter (fun i => q (k.positions.get i)) =
      ((firedPairs k).filter fun y => q (some y.2)).map (·.1) := by
  rw [firedPairs_positions k fun p => q (some p), List.filter_filter]
  refine List.filter_congr fun i _ => ?_
  cases hp : k.positions.get i with
  | none => simp
  | some p => simp [Bool.and_comm]

/-- An earlier accepted pair has the destination. -/
theorem before_iff {k : SalvoSlot} {l : List (Fin 16 × Pair)} (held : ∀ y ∈ l, k.positions.get y.1 = some y.2) (d : DestNo) (i : Fin 16) :
    ((l.map (·.1)).any fun j => decide (j < i) && (k.positions.get j).any fun q => q.dest == d) = true ↔
      ∃ z ∈ l, z.1 < i ∧ z.2.dest = d := by
  simp only [List.any_map, List.any_eq_true, Function.comp_apply, Bool.and_eq_true, decide_eq_true_eq]
  refine exists_congr fun z => and_congr_right fun hz => and_congr_right fun _ => ?_
  rw [held z hz, Option.any_some, beq_iff_eq]

/-- What a fire's pair tells, read at its position. -/
theorem supersededBy_eq {s : State} {k : SalvoSlot} {l : List (Fin 16 × Pair)} (held : ∀ y ∈ l, k.positions.get y.1 = some y.2)
    (y : Fin 16 × Pair) : (if ((l.map (·.1)).any fun j => decide (j < y.1) && (k.positions.get j).any fun q => q.dest == y.2.dest) = true then []
      else if placesFollow s y.2.dest then followAt s y.2.dest
      else match boundPartner s y.2.dest with
        | none => heldAt s y.2.dest
        | some e => if ((l.map (·.1)).any fun j => decide (j < y.1) && (k.positions.get j).any fun q => q.dest == e) = true then []
          else if e = y.2.dest then heldAt s e else heldAt s y.2.dest ++ heldAt s e) =
      supersededBy s l y := by
  refine if_congr (before_iff held ..) rfl ?_
  unfold removedAt
  refine if_congr Iff.rfl rfl ?_
  cases boundPartner s y.2.dest with
  | none => rfl
  | some e =>
    refine if_congr (before_iff held ..) rfl ?_
    by_cases self : e = y.2.dest
    · rw [if_pos self, if_pos self, self]
    · rw [if_neg self, if_neg self]

/-- The take of a pair that is the last for its destination. -/
theorem PlacedSoFar.last {s x : State} {m : SlotNo} {t : Trunk} {tag : Tag} {g : Target} {pre post : List (Fin 16 × Pair)} {y : Fin 16 × Pair}
    (h : PlacedSoFar s (firedRun m t tag g (pre ++ y :: post)) x) (last : ∀ z ∈ post, z.2.dest ≠ y.2.dest) :
    if placesFollow s y.2.dest then x.active.get y.2.dest = s.active.get y.2.dest ∧
      x.follow.get y.2.dest = some { firedTake m t tag g y.2 with state := .following, placed := none }
    else x.follow.get y.2.dest = s.follow.get y.2.dest ∧ x.active.get y.2.dest = some (armedTake s y.2.dest (firedTake m t tag g y.2)) := by
  have active := h.active y.2.dest
  have follow := h.follow y.2.dest
  rw [firedRun_last last] at active follow
  by_cases pf : placesFollow s y.2.dest = true
  · rw [if_pos pf]
    exact ⟨active.trans (if_pos pf), follow.trans (if_pos pf)⟩
  · rw [if_neg pf]
    exact ⟨follow.trans (if_neg pf), active.trans (if_neg pf)⟩

/-- The positions that a run does not name: vacated where a bound partner is superseded, and kept elsewhere. -/
theorem PlacedSoFar.others {s x : State} {run : List (DestNo × Take)} (h : PlacedSoFar s run x) {d : DestNo} (other : lastFor run d = none) :
    x.follow.get d = s.follow.get d ∧
      ((∃ e, boundPartner s d = some e ∧ (lastFor run e).isSome = true) → x.active.get d = none) ∧
      ((∀ e, boundPartner s d = some e → ¬(lastFor run e).isSome = true) → x.active.get d = s.active.get d) := by
  have active := h.active d
  have follow := h.follow d
  rw [other] at active follow
  refine ⟨follow, fun ⟨e, bound, reached⟩ => ?_, fun free => ?_⟩
  · rw [bound] at active
    exact active.trans (if_pos reached)
  · refine active.trans (if_neg ?_)
    cases bound : boundPartner s d with
    | none => exact Bool.false_ne_true
    | some e => exact free e bound

/-- Settles O44: the refusals, and the run of a fire's placements. -/
theorem salvoFireCreatesTakes : Obligations.SalvoFireCreatesTakes := by
  unfold Obligations.SalvoFireCreatesTakes
  refine ⟨fun t h o s hr => ?_, fun t h o k s hr mode fm hk some idle law _ => ?_⟩
  · intro refused
    have refuses (st : Status) (details : List ReplyField) (act : actSalvoFire t h o (headTaken s t) = refuse (headTaken s t) st details) :
        refused st details := (exec_salvoFire ..).trans (executeCommand_refused hr act)
    refine ⟨fun ⟨b, other⟩ => refuses _ _ (actSalvoFire_mode (by rw [other]; rfl)), fun mode wrong => ?_, fun mode fm range => ?_, ?_⟩
    · exact refuses _ _ (actSalvoFire_fireMode (namesMode_iff.mpr mode) (fireModeOperand_none wrong))
    · exact refuses _ _ (actSalvoFire_range (namesMode_iff.mpr mode) (fireModeOperand_some fm) (slotOperand_none.mpr range))
    · intro mode fm k hk x failure
      have names := namesMode_iff.mpr mode
      have slot : slotOperand o.slot = Option.some k := slotOperand_some.mpr hk
      refine ⟨fun idle none => ?_, fun busy => ?_, fun strict idle some i p st low hp fails passes => ?_⟩
      · exact refuses _ _ (actSalvoFire_empty names (fireModeOperand_some fm) slot (slotState_empty idle none))
      · exact refuses _ _ (actSalvoFire_fired names (fireModeOperand_some fm) slot ((fired_iff _).mpr busy))
      · refine refuses _ _ (actSalvoFire_strict names (fireModeOperand_some fm) slot (slotState_loaded idle some) (decide_eq_true strict) ?_)
        have inside : (i, p) ∈ firedPairs x := mem_firedPairs.mpr ⟨low, hp⟩
        obtain ⟨pre, post, e⟩ := List.append_of_mem inside
        have first : ∀ z ∈ pre, pairFailure (headTaken s t) h.owner (fixTarget s.houseTime o.mode o.frames) z = none := fun z hz => by
          obtain ⟨member, before⟩ := (mem_before_iff (r := fun y z : Fin 16 × Pair => y.1 < z.1) (fun _ _ => lt_asymm)
            (firedPairs_ordered x) e z).mp hz
          exact passes z.1 before z.2 (mem_firedPairs.mp member).2
        have split := firstSkipped_split (number := fun y : Fin 16 × Pair => numByte y.1) (post := post) first
          (show pairFailure (headTaken s t) h.owner (fixTarget s.houseTime o.mode o.frames) (i, p) = Option.some st from fails)
        rw [← e] at split
        exact split
  · intro g x failure held skipped accepted goes busy first whole
    let u := headTaken s t
    let pairs := firedPairs x
    let taken := pairs.filter fun y => (failure y.2).isNone
    have slot : slotOperand o.slot = Option.some k := slotOperand_some.mpr hk
    have fits (y : Fin 16 × Pair) (hy : y ∈ pairs) : x.positions.get y.1 = Option.some y.2 := (mem_firedPairs.mp hy).2
    have holds (y : Fin 16 × Pair) (hy : y ∈ taken) : x.positions.get y.1 = Option.some y.2 := fits y (List.mem_of_mem_filter hy)
    have accepts : accepted = taken.map (·.1) := held_positions x fun o => (o.bind failure).isNone
    have skips : skipped = (pairs.filter fun y => (failure y.2).isSome).map (·.1) := held_positions x fun o => (o.bind failure).isSome
    have rest : skipped.length = pairs.length - taken.length := by
      have both := List.length_eq_countP_add_countP (l := pairs) fun y => (failure y.2).isNone
      have complement : (pairs.filter fun y => (failure y.2).isSome) = pairs.filter fun y => decide ¬(failure y.2).isNone = true :=
        List.filter_congr fun y _ => by cases failure y.2 <;> rfl
      rw [List.countP_eq_length_filter, List.countP_eq_length_filter] at both
      rw [skips, List.length_map, complement]
      show _ = pairs.length - (pairs.filter fun y => (failure y.2).isNone).length
      omega
    have firstOf : skippedFields (firstSkipped (fun y : Fin 16 × Pair => numByte y.1) (fun y => failure y.2) pairs) = first := by
      rw [firstSkipped_eq]
      unfold first
      rw [skips]
      cases hf : pairs.filter fun y => (failure y.2).isSome with
      | nil => rfl
      | cons y ys =>
        have inside : y ∈ pairs := List.mem_of_mem_filter (p := fun y : Fin 16 × Pair => (failure y.2).isSome) (hf ▸ List.mem_cons_self ..)
        rw [List.map_cons]
        show [ReplyField.quantity (numByte y.1), .status ((failure y.2).getD .ok)] =
          [.quantity (BitVec.ofNat 8 y.1.val), .status (((x.positions.get y.1).bind failure).getD .ok)]
        rw [fits y inside]
        rfl
    have wholly (strict : decide (o.fireMode = 0) = true) :
        firstSkipped (fun y : Fin 16 × Pair => numByte y.1) (fun y => failure y.2) pairs = none := by
      have empty := whole (of_decide_eq_true strict)
      rw [skips, List.map_eq_nil_iff] at empty
      rw [firstSkipped_eq, empty]
      rfl
    have followers : followCount u taken = accepted.countP fun i => (x.positions.get i).any fun p => busy p.dest := by
      rw [accepts]
      exact (countP_positions x (fun p => busy p.dest) holds).symm
    have late : acceptedStatus (g.late && taken != []) = if g.late = true ∧ accepted ≠ [] then .okLate else .ok := by
      refine if_congr ?_ rfl rfl
      rw [Bool.and_eq_true, bne_iff_ne, accepts, ne_eq, ne_eq, List.map_eq_nil_iff]
    have length : accepted.length = taken.length := by rw [accepts, List.length_map]
    have act := actSalvoFire_fires (t := t) (h := h) (s := u) (namesMode_iff.mpr mode) (fireModeOperand_some fm) slot
      (slotState_loaded idle some) wholly
    have reached (d : DestNo) : goes d ↔ d ∈ destsOf taken := by
      show (∃ i ∈ accepted, ∃ p, x.positions.get i = Option.some p ∧ p.dest = d) ↔ _
      rw [accepts]
      simp only [destsOf, List.mem_map]
      constructor
      · rintro ⟨-, ⟨y, hy, rfl⟩, p, hp, rfl⟩
        exact ⟨y, hy, by rw [Option.some.inj ((holds y hy).symm.trans hp)]⟩
      · rintro ⟨y, hy, rfl⟩
        exact ⟨y.1, ⟨y, hy, rfl⟩, y.2, holds y hy, rfl⟩
    have ordered : taken.Pairwise fun y z => y.1 < z.1 := (firedPairs_ordered x).filter _
    obtain ⟨active, follow⟩ := unnamed_of_idle law idle
    have fired : FiredSoFar u k t h.tag g taken taken _ := fired_done (s := u) active follow ordered
    have waits := fired_waits (s := u) (m := k) (t := t) (tag := h.tag) (g := g) active follow ordered
    have act' : actSalvoFire t h o u = ⟨displayVacated u (taken.foldl (fun x y => firePair u k t h.tag g y.2 x) (u.updSalvo k (·.fire t h.tag))),
        if g.late = true ∧ accepted ≠ [] then .okLate else .ok,
        [.quantity (BitVec.ofNat 8 accepted.length), .quantity (BitVec.ofNat 8 skipped.length)] ++ first ++
          [.quantity (BitVec.ofNat 8
              ((taken.foldl (fun x y => firePair u k t h.tag g y.2 x) (u.updSalvo k (·.fire t h.tag))).salvos.get k).outstanding),
            .quantity (BitVec.ofNat 8 (accepted.countP fun i => (x.positions.get i).any fun p => busy p.dest)), .flag g.late]⟩ := by
      refine act.trans ?_
      rw [← late, length, rest, ← firstOf, ← followers]
      rfl
    generalize taken.foldl (fun x y => firePair u k t h.tag g y.2 x) (u.updSalvo k (·.fire t h.tag)) = z at fired waits act'
    have shows := displayVacated_eq u z
    have silent := displayVacated_told u z
    have keeps (d : DestNo) (h : displayWaits z.ports d) : displayWaits (displayVacated u z).ports d := displayVacated_waits h
    generalize displayVacated u z = s₁ at act' shows silent keeps
    refine ⟨s₁, ?_⟩
    intro y
    have slotOf : y = z.salvos.get k := congrArg (Tbl.get · k) silent.salvos
    have slotIs := slotOf.trans fired.slot
    have activeOf : s₁.active = z.active := by rw [shows]
    have followOf : s₁.follow = z.follow := by rw [shows]
    have busyOf (d : DestNo) : placesFollow u d = busy d := rfl
    refine ⟨?_, ?_, fun i hi p hp last => ?_, fun d away => ?_, ?_, ?_, ?_, ?_, ?_, fun ds nodup same => ?_⟩
    · rw [slotOf]
      exact (exec_salvoFire ..).trans (executeCommand_of_act hr act')
    · rw [shows]
      dsimp only
      rw [fired.placed.rest]
    · have inside : (i, p) ∈ taken := by
        rw [accepts, List.mem_map] at hi
        obtain ⟨w, hw, rfl⟩ := hi
        rw [← Option.some.inj ((holds w hw).symm.trans hp)]
        exact hw
      obtain ⟨pre, post, e⟩ := List.append_of_mem inside
      have final (w : Fin 16 × Pair) (hw : w ∈ post) : w.2.dest ≠ p.dest := by
        have member : w ∈ taken := by rw [e]; exact List.mem_append_right _ (List.mem_cons_of_mem _ hw)
        have after : i < w.1 := by
          have := ordered
          rw [e] at this
          exact (List.pairwise_cons.mp (List.pairwise_append.mp this).2.1).1 w hw
        exact last w.1 (by rw [accepts]; exact List.mem_map_of_mem member) after w.2 (holds w member)
      have stands := (e ▸ fired.placed).last final
      rw [activeOf, followOf]
      cases pf : placesFollow u p.dest with
      | true =>
        have stood := (if_pos pf).mp stands
        exact (if_pos pf).mpr stood
      | false =>
        have free : ¬placesFollow u p.dest = true := by rw [pf]; exact Bool.false_ne_true
        obtain ⟨kept, armed⟩ := (if_neg free).mp stands
        refine (if_neg free).mpr ⟨kept, armed, fun empty => keeps p.dest (waits (i, p) inside empty ?_)⟩
        have passes : failure p = none := Option.isNone_iff_eq_none.mp (List.mem_filter.mp inside).2
        exact (requestFailure_none passes).1
    · have none : lastFor (firedRun k t h.tag g taken) d = none := by
        by_contra some
        exact away ((reached d).mpr ((firedRun_isSome taken d).mp (Option.isSome_iff_ne_none.mpr some)))
      have runs (e : DestNo) : goes e ↔ (lastFor (firedRun k t h.tag g taken) e).isSome = true :=
        (reached e).trans (firedRun_isSome taken e).symm
      obtain ⟨kept, superseded, stays⟩ := fired.placed.others none
      rw [activeOf, followOf]
      exact ⟨kept, fun ⟨e, bound, gone⟩ => superseded ⟨e, bound, (runs e).mp gone⟩,
        fun free => stays fun e bound gone => free e bound ((runs e).mpr gone)⟩
    · intro held before removed told
      have list : removed = taken.flatMap (supersededBy u taken) := by
        unfold removed before
        rw [accepts, List.flatMap_map]
        refine List.flatMap_congr fun w hw => ?_
        rw [holds w hw, Option.toList_some, List.flatMap_singleton]
        exact supersededBy_eq (s := u) holds w
      have all := (silent.but k).trans fired.told
      rw [← list] at all
      have plain : SameTold (tell .superseded removed u) told := tell_told (u := u) (v := s) ⟨rfl, rfl, rfl⟩ .superseded removed
      exact ⟨all.returns.trans plain.returns, fun m hm => (all.salvos m hm).trans (by rw [plain.salvos])⟩
    · exact congrArg SalvoSlot.firingTrunk slotIs
    · exact congrArg SalvoSlot.firingTag slotIs
    · exact (congrArg SalvoSlot.count slotIs).trans rfl
    · exact (congrArg SalvoSlot.positions slotIs).trans rfl
    · have card : (destsOf taken).toFinset.card = ds.length := by
        rw [← List.toFinset_card_of_nodup nodup]
        refine congrArg Finset.card (Finset.ext fun d => ?_)
        rw [List.mem_toFinset, List.mem_toFinset, ← reached, same]
      rw [slotIs, card, length]
      exact ⟨rfl, rfl⟩

end Sys2Proof.Machine
end

section
/-! SUPPORT. The Source Tracker's work on a cell (R26): the sequence check (R34, R87), the change of lock made known (R33), and
re-anchoring (R17), each as what it does to every record. -/

namespace Sys2Proof.Machine

/-! ## Reports queued on the mask -/

theorem queueMasked_eq (r : Report) (s : State) : queueMasked r s = { s with returns := (queueMasked r s).returns } := rfl

theorem queueMasked_returns_congr {r : Report} {u v : State} (returns : u.returns = v.returns) (mask : u.reportMask = v.reportMask) :
    (queueMasked r u).returns = (queueMasked r v).returns := by
  unfold queueMasked
  rw [returns, mask]

/-! ## The sequence check (R34, R87) -/

/-- The sequence number is not the next one (R34). -/
def Source.breaks (r : Source) (seq : BitVec 16) : Bool := r.lastSeq.any fun q => seq != q + 1

theorem Source.breaks_not (r : Source) (seq : BitVec 16) : (!r.breaks seq) = r.lastSeq.all fun q => seq == q + 1 := by
  unfold Source.breaks
  cases r.lastSeq with
  | none => rfl
  | some q => simp [bne]

/-- A switching record that has come to wait for a frame of `n`, its fill timer starting a period later (R87). -/
def waitsLater (s : State) (n : SourceNo) (d : DestNo) (w : Switching) : Switching :=
  { cut := .steady (some n) .waiting
    fill := if (s.dests.get d).format.isSome then some (pointFrom s d (addTicks s.houseTime ((formatOf s d).pi.toNat + 1))) else w.fill }

theorem armFillLater_waits (d : DestNo) (n : SourceNo) (s : State) :
    armFillLater d (s.updSwitching d fun w => { w with cut := .steady (some n) .waiting }) =
      s.updSwitching d (waitsLater s n d) := by
  unfold armFillLater armFill
  have dests : (s.updSwitching d fun w => { w with cut := .steady (some n) .waiting }).dests = s.dests := rfl
  rw [dests]
  by_cases defined : (s.dests.get d).format.isSome = true
  · rw [if_pos defined]
    simp only [State.updSwitching, Tbl.modify_modify]
    refine congrArg (fun g => { s with switching := s.switching.modify d g }) (funext fun w => ?_)
    unfold waitsLater
    rw [if_pos defined]
    rfl
  · rw [if_neg defined]
    refine congrArg (s.updSwitching d) (funext fun w => ?_)
    unfold waitsLater
    rw [if_neg defined]

/-- A switching record after a sequence break of its forwarded source (R34, R87). -/
def brokenSwitching (s : State) (d : DestNo) (w : Switching) : Switching :=
  match w.cut with
  | .steady (some m) .forwarding => waitsLater s m d w
  | _ => w

theorem breakForwarding_eq (d : DestNo) (s : State) : breakForwarding d s = s.updSwitching d (brokenSwitching s d) := by
  have idle (h : brokenSwitching s d (s.switching.get d) = s.switching.get d) : s = s.updSwitching d (brokenSwitching s d) := by
    rw [State.updSwitching, modify_self_of_eq _ _ _ h]
  unfold breakForwarding
  split
  · next m hc =>
    rw [armFillLater_waits]
    have own : brokenSwitching s d (s.switching.get d) = waitsLater s m d (s.switching.get d) := by rw [brokenSwitching, hc]
    rw [State.updSwitching, State.updSwitching, Tbl.modify_eq_set, Tbl.modify_eq_set, own]
  · next other =>
    refine idle ?_
    unfold brokenSwitching
    split
    · next m hc => exact absurd hc (other m)
    · rfl

theorem SameSchedule.waitsLater {s x : State} (h : SameSchedule s x) (n : SourceNo) (d : DestNo) (w : Switching) :
    waitsLater x n d w = waitsLater s n d w := by
  obtain ⟨pi, -⟩ := h.formatOf_cadence d
  unfold Machine.waitsLater
  simp only [h.now, h.dests, pointFrom_congr h.frames h.dests, pi]

theorem SameSchedule.brokenSwitching {s x : State} (h : SameSchedule s x) (d : DestNo) (w : Switching) :
    brokenSwitching x d w = brokenSwitching s d w := by
  unfold Machine.brokenSwitching
  split
  · exact h.waitsLater ..
  · rfl

theorem breakNotices_get (n : SourceNo) (s : State) (d : DestNo) : (breakNotices n s).switching.get d =
    if (s.switching.get d).forwards n then brokenSwitching s d (s.switching.get d) else s.switching.get d := by
  have keep (x : State) (i j : DestNo) (h : i ≠ j) : (breakForwarding i x).switching.get j = x.switching.get j :=
    breakForwarding_get_ne i x h
  unfold breakNotices
  by_cases forwards : (s.switching.get d).forwards n = true
  · have inside : d ∈ destsForwarding s n := by simpa [destsForwarding] using forwards
    obtain ⟨x, hx, own, l, -, e⟩ := foldl_get_once (fun x d => breakForwarding d x) State.switching keep (destsForwarding s n)
      ((List.nodup_finRange 128).filter _) s d inside
    have schedule : SameSchedule s x := by
      rw [e]
      exact .of_formats (foldl_keeps _ State.houseTime (fun s a => by simp) l s) (foldl_keeps _ State.dests (fun s a => by simp) l s)
        (foldl_keeps _ State.formats (fun s a => by simp) l s)
    rw [if_pos forwards, hx, breakForwarding_eq, State.updSwitching_switching, Tbl.get_modify_self, own, schedule.brokenSwitching]
  · have outside : d ∉ destsForwarding s n := by simpa [destsForwarding] using forwards
    rw [if_neg forwards]
    exact foldl_get_other _ State.switching keep _ s outside

/-- The sequence check changes the record of its source, and on a break the destinations forwarding it (R34). -/
theorem sequenceCheck_eq (n : SourceNo) (seq : BitVec 16) (s : State) : sequenceCheck n seq s = { s with
    sources := s.sources.modify n (·.sequenced seq), switching := (sequenceCheck n seq s).switching } := by
  apply State.ext <;> simp [sequenceCheck_sources]

/-- A destination's switching record after the sequence check on its forwarded source. -/
def sequencedSwitching (s : State) (n : SourceNo) (seq : BitVec 16) (d : DestNo) : Switching :=
  if (s.sources.get n).breaks seq && (s.switching.get d).forwards n then brokenSwitching s d (s.switching.get d) else s.switching.get d

theorem sequenceCheck_get (n : SourceNo) (seq : BitVec 16) (s : State) (d : DestNo) :
    (sequenceCheck n seq s).switching.get d = sequencedSwitching s n seq d := by
  unfold sequenceCheck sequencedSwitching Source.breaks
  dsimp only
  cases (s.sources.get n).lastSeq with
  | none => rfl
  | some q =>
    dsimp only
    by_cases next : seq = q + 1
    · simp [next]
    · rw [if_neg next]
      have schedule : SameSchedule s (s.updSource n fun r => { r with gaps := bump r.gaps }) := .of_formats rfl rfl rfl
      refine (breakNotices_get ..).trans ?_
      have breaks : (seq != q + 1) = true := bne_iff_ne.mpr next
      rw [schedule.brokenSwitching, Option.any_some, breaks, Bool.true_and]
      rfl

theorem sequencedSwitching_forwarded (s : State) (n : SourceNo) (seq : BitVec 16) (d : DestNo) :
    (sequencedSwitching s n seq d).cut.forwarded = (s.switching.get d).cut.forwarded := by
  unfold sequencedSwitching brokenSwitching
  split
  · split
    · next hc => rw [hc]; rfl
    · rfl
  · rfl

/-! ## A change of lock made known (R33) -/

/-- A change of a source's state that does not enter LOST: tracking, SOURCE_STATE and the DISPLAY entries, when it is one of lock. -/
theorem sourceChanged_live {n : SourceNo} {previous : SourceState} {s : State} (live : (s.sources.get n).state ≠ .lost) :
    sourceChanged n previous s =
      let r := s.sources.get n
      let lock := lockChanges previous r.state
      { s with
        formats := if lock then (evaluateTracking n s).formats else s.formats
        returns := if lock then (queueMasked (.sourceState n previous r.state r.format r.phase s.houseTime) s).returns else s.returns
        ports := if lock then (requestDisplays (destsForwarding s n) s).ports else s.ports } := by
  have stays : entersLost previous (s.sources.get n).state = false := by
    cases h : (s.sources.get n).state with
    | lost => exact absurd h live
    | undefined | absent | acquiring | locked => simp [entersLost]
  rw [sourceChanged_eq, stays, if_neg Bool.false_ne_true]
  unfold sourceAnnounced
  dsimp only
  rw [stays, Bool.or_false]
  by_cases lock : lockChanges previous (s.sources.get n).state = true
  · simp only [lock, if_true]
    apply State.ext <;> simp
    · exact requestDisplays_ports_congr _ (by simp) (by simp)
    · exact queueMasked_returns_congr (by simp) (by simp)
  · simp only [lock]
    rfl

/-- What a capture tells of a change of lock (R33). -/
def lockTold (s : State) (n : SourceNo) (previous : SourceState) (r : Source) : State :=
  if lockChanges previous r.state then queueMasked (.sourceState n previous r.state r.format r.phase s.houseTime) s else s

/-! ## Re-anchoring (R17) -/

/-- The capture that makes the record of source `n` the record `r` re-anchors format `f` (R17). -/
def anchors (s : State) (n : SourceNo) (r : Source) (f : FormatNo) : Bool :=
  r.format == some f && (s.formats.get f).cadence == some n && r.state == .locked &&
    decide ((s.formats.get f).wl.toNat < (deviation (s.formats.get f) s.houseTime).natAbs)

theorem anchors_iff {s : State} {n : SourceNo} {r : Source} {f : FormatNo} : anchors s n r f = true ↔
    r.format = some f ∧ (s.formats.get f).cadence = some n ∧ r.state = .locked ∧
      (s.formats.get f).wl.toNat < (deviation (s.formats.get f) s.houseTime).natAbs := by
  simp [anchors, and_assoc]

/-- The destination's format is re-anchored. -/
def anchorMoves (s : State) (n : SourceNo) (r : Source) (d : DestNo) : Bool := (s.dests.get d).format.any (anchors s n r)

theorem anchorMoves_iff {s : State} {n : SourceNo} {r : Source} {d : DestNo} : anchorMoves s n r d = true ↔
    ∃ f, (s.dests.get d).format = some f ∧ anchors s n r f = true := by
  simp [anchorMoves, Option.any_eq_true]

theorem recomputed_congr {s x : State} (now : x.houseTime = s.houseTime) (formats : x.formats = s.formats) (dests : x.dests = s.dests)
    (margin : x.margin = s.margin) (d : DestNo) (k : Take) : mustRetarget x d k = mustRetarget s d k ∧ recomputed x d k = recomputed s d k := by
  have place := placeFor_congr (.of_formats formats) dests margin d
  have due : isDue x = isDue s := by unfold isDue; rw [now]
  have must : mustRetarget x d k = mustRetarget s d k := by
    unfold mustRetarget ownCommit armedTake
    rw [due, margin]
    simp only [place]
  refine ⟨must, ?_⟩
  unfold recomputed retargeted armedTake
  rw [must, now]
  simp only [place]

/-- The ANCHOR report of a capture of source `n` that re-anchors `f`, its format as it stands after in `y` (R17). -/
def anchorReport (s y : State) (f : FormatNo) : Report :=
  .anchor f (deviation (s.formats.get f) s.houseTime) s.houseTime (frameNumber (s.formats.get f) (nearestFrame (s.formats.get f) s.houseTime))
    ((List.finRange 128).countP fun d => (s.dests.get d).format == some f && isArmed (s.active.get d))
    ((List.finRange 128).countP fun d =>
      (s.dests.get d).format == some f && (s.active.get d).any fun k => k.state == .armed && mustRetarget y d k)

/-- A switching record whose fill timer, when active, takes the first frame point after now (R90). -/
def realigned (y : State) (d : DestNo) (w : Switching) : Switching := { w with fill := w.fill.map fun _ => pointFrom y d (y.houseTime + 1) }

/-- A position whose take, when ARMED, is recomputed (R18). -/
def recomputedAt (y : State) (d : DestNo) (o : Option Take) : Option Take := o.map fun k => if k.state = .armed then recomputed y d k else k

/-- Everything that re-anchoring does. -/
structure Reanchored (s : State) (f : FormatNo) (y : State) : Prop where
  rest : y = { s with formats := y.formats, returns := y.returns, switching := y.switching, active := y.active }
  formats : y.formats = s.formats.modify f fun x => { x with
    epoch := s.houseTime, epochFrame := frameNumber (s.formats.get f) (nearestFrame (s.formats.get f) s.houseTime), reanchors := bump x.reanchors }
  returns : y.returns = (queueMasked (anchorReport s y f) s).returns
  switching : ∀ d, y.switching.get d = if hasFormat s f d then realigned y d (s.switching.get d) else s.switching.get d
  active : ∀ d, y.active.get d = if hasFormat s f d then recomputedAt y d (s.active.get d) else s.active.get d

theorem reanchor_reanchored (f : FormatNo) (s : State) : Reanchored s f (reanchor f s.houseTime
    (frameNumber (s.formats.get f) (nearestFrame (s.formats.get f) s.houseTime)) (deviation (s.formats.get f) s.houseTime) s) := by
  let b := anchored f s.houseTime (frameNumber (s.formats.get f) (nearestFrame (s.formats.get f) s.houseTime)) s
  let v := realignFill (hasFormat s f) b
  have eq := reanchor_eq f s.houseTime (frameNumber (s.formats.get f) (nearestFrame (s.formats.get f) s.houseTime))
    (deviation (s.formats.get f) s.houseTime) s
  generalize reanchor f s.houseTime (frameNumber (s.formats.get f) (nearestFrame (s.formats.get f) s.houseTime))
    (deviation (s.formats.get f) s.houseTime) s = y at eq
  have formats : y.formats = b.formats := by rw [eq]; simp [b]
  have now : y.houseTime = s.houseTime := by rw [eq]; simp [anchored]
  have dests : y.dests = s.dests := by rw [eq]; simp [anchored]
  have margin : y.margin = s.margin := by rw [eq]; simp [anchored]
  have switching : y.switching = v.switching := by rw [eq]; simp [v, b]
  have active : y.active = (recomputeTakes (hasFormat s f) v).active := by rw [eq]; simp [v, b]
  have vformats : v.formats = y.formats := by rw [formats]; simp [v]
  have vrest : v = { b with switching := v.switching } := rfl
  have computes (d : DestNo) (k : Take) := recomputed_congr (x := v) (s := y) (by rw [now]; rfl) vformats (by rw [dests]; rfl)
    (by rw [margin]; rfl) d k
  refine ⟨?_, formats, ?_, fun d => ?_, fun d => ?_⟩
  · rw [eq]
    rfl
  · have own : y.returns = (queueMasked (.anchor f (deviation (s.formats.get f) s.houseTime) s.houseTime
        (frameNumber (s.formats.get f) (nearestFrame (s.formats.get f) s.houseTime)) (recomputeCounts (hasFormat s f) v).1
        (recomputeCounts (hasFormat s f) v).2) s).returns := by rw [eq]; rfl
    have counts : recomputeCounts (hasFormat s f) v =
        ((List.finRange 128).countP fun d => (s.dests.get d).format == some f && isArmed (s.active.get d),
          (List.finRange 128).countP fun d =>
            (s.dests.get d).format == some f && (s.active.get d).any fun k => k.state == .armed && mustRetarget y d k) := by
      unfold recomputeCounts
      simp only [(computes _ _).1]
      rfl
    rw [own, counts]
    rfl
  · have points (x : Time) : pointFrom b d x = pointFrom y d x := pointFrom_congr (.of_formats formats.symm) (by rw [dests]; rfl) d x
    have same : b.switching = s.switching := rfl
    have time : b.houseTime = y.houseTime := by rw [now]; rfl
    rw [switching, realignFill_get, same, points, time]
    cases hasFormat s f d with
    | false => rfl
    | true =>
      unfold realigned
      generalize s.switching.get d = w
      obtain ⟨cut, fill⟩ := w
      cases fill <;> rfl
  · have same : v.active = s.active := rfl
    rw [active, recomputeTakes_get, same]
    simp only [(computes _ _).2]
    rfl

/-! ## A capture (R26, stages 3 to 6) -/

/-- A format that source `n` carries and steers is defined, and its tracking state is the lock of `n` (R9). -/
def Steers (s : State) (n : SourceNo) : Prop :=
  ∀ f, (s.sources.get n).format = some f → (s.formats.get f).cadence = some n →
    (s.formats.get f).defined = true ∧ (s.formats.get f).tracking = ((s.sources.get n).state == .locked)

theorem isTracking_own {sources : Tbl Source 128} {n : SourceNo} {f : FormatNo} {x : Format} (cadence : x.cadence = some n)
    (format : (sources.get n).format = some f) (defined : x.defined = true) : isTracking sources f x = ((sources.get n).state == .locked) := by
  unfold isTracking
  rw [cadence, defined]
  dsimp only
  rw [format]
  simp

theorem FormatLaw.steers {s : State} (h : FormatLaw s) (n : SourceNo) : Steers s n := fun f format cadence =>
  have defined := h.ofSource n f format
  ⟨defined, (h.tracking f).trans (isTracking_own cadence format defined)⟩

/-- A format record after a capture that makes the record of its source `n` the record `r`: its tracking state (R9, R33). -/
def steered (s : State) (n : SourceNo) (previous : SourceState) (r : Source) (f : FormatNo) : Format :=
  let x := s.formats.get f
  if lockChanges previous r.state && x.cadence == some n then { x with tracking := isTracking (s.sources.set n r) f x } else x

theorem steered_frames (s : State) (n : SourceNo) (previous : SourceState) (r : Source) (f : FormatNo) :
    steered s n previous r f = { s.formats.get f with tracking := (steered s n previous r f).tracking } := by
  unfold steered
  dsimp only
  split <;> rfl

theorem steered_tracking {s : State} {n : SourceNo} {previous : SourceState} {r : Source} {f : FormatNo} (format : r.format = some f)
    (cadence : (s.formats.get f).cadence = some n) (defined : (s.formats.get f).defined = true)
    (before : (s.formats.get f).tracking = (previous == .locked)) : (steered s n previous r f).tracking = (r.state == .locked) := by
  unfold steered
  dsimp only
  rw [cadence, beq_self_eq_true, Bool.and_true]
  cases lock : lockChanges previous r.state with
  | true =>
    rw [if_pos rfl]
    have own : (s.sources.set n r).get n = r := Tbl.get_set_self ..
    refine (isTracking_own (sources := s.sources.set n r) cadence ?_ defined).trans ?_
    · rw [own]
      exact format
    · rw [own]
  | false =>
    refine before.trans ?_
    simpa [lockChanges] using lock

/-- Everything that a capture does which makes the record of source `n` the record `r`. -/
structure CapturedAs (s : State) (n : SourceNo) (previous : SourceState) (r : Source) (y : State) : Prop where
  rest : y = { s with
    sources := s.sources.set n r, formats := y.formats, returns := y.returns, ports := y.ports, switching := y.switching, active := y.active }
  formats : ∀ f, y.formats.get f =
    let x := steered s n previous r f
    if anchors s n r f then { x with
      epoch := s.houseTime, epochFrame := frameNumber x (nearestFrame x s.houseTime), reanchors := bump x.reanchors } else x
  ports : y.ports = if lockChanges previous r.state then (requestDisplays (destsForwarding s n) s).ports else s.ports
  switching : ∀ d, y.switching.get d = if anchorMoves s n r d then realigned y d (s.switching.get d) else s.switching.get d
  active : ∀ d, y.active.get d = if anchorMoves s n r d then recomputedAt y d (s.active.get d) else s.active.get d
  anchored : ∀ f, anchors s n r f = true → y.returns = (queueMasked (anchorReport s y f) (lockTold s n previous r)).returns
  unanchored : (∀ f, anchors s n r f = false) → y.returns = (lockTold s n previous r).returns

theorem Source.captured_live {r : Source} (captures : r.captures = true) (f : Format) (c : Time) : (r.captured f c).state ≠ .lost := by
  have state : r.state = .acquiring ∨ r.state = .locked := (captures_iff r).mp captures
  unfold Source.captured Source.counted
  rcases state with h | h <;> (dsimp only; (repeat' split) <;> simp_all)

/-- A re-anchoring comparison after the change of lock has been made known, and L stored (R17, R26). -/
theorem reanchorCheck_captured {s b y : State} {n : SourceNo} {previous : SourceState} {r : Source} {sources : Tbl Source 128}
    (rest : b = { s with sources := sources, formats := b.formats, returns := b.returns, ports := b.ports })
    (formats : ∀ f, b.formats.get f = steered s n previous r f)
    (ports : b.ports = if lockChanges previous r.state then (requestDisplays (destsForwarding s n) s).ports else s.ports)
    (returns : b.returns = (lockTold s n previous r).returns) (anchoring : ∀ f, reanchoring b n f ↔ anchors s n r f = true)
    (stored : y = { reanchorCheck n b with sources := s.sources.set n r }) : CapturedAs s n previous r y := by
  rcases reanchorCheck_cases n b with ⟨none, e⟩ | ⟨f, here, e⟩
  · rw [e] at stored
    have quiet (f : FormatNo) : anchors s n r f = false := Bool.eq_false_iff.mpr fun h => none f ((anchoring f).mpr h)
    have still (d : DestNo) : anchorMoves s n r d = false := by
      rw [Bool.eq_false_iff, ne_eq, anchorMoves_iff]
      rintro ⟨f, -, hf⟩
      rw [quiet f] at hf
      cases hf
    refine ⟨?_, fun f => ?_, ?_, fun d => ?_, fun d => ?_, fun f hf => ?_, fun _ => ?_⟩
    · rw [stored, rest]
    · rw [quiet f, stored]
      exact formats f
    · rw [stored]
      exact ports
    · rw [still d, stored, rest]
      rfl
    · rw [still d, stored, rest]
      rfl
    · rw [quiet f] at hf
      cases hf
    · rw [stored]
      exact returns
  · have done := reanchor_reanchored f b
    rw [← e] at done
    generalize reanchorCheck n b = c at done stored
    have now : b.houseTime = s.houseTime := by rw [rest]
    have dests : b.dests = s.dests := by rw [rest]
    have active : b.active = s.active := by rw [rest]
    have switching : b.switching = s.switching := by rw [rest]
    have margin : b.margin = s.margin := by rw [rest]
    have cformats : c.formats = y.formats := by rw [stored]
    have creturns : y.returns = c.returns := by rw [stored]
    have cactive : y.active = c.active := by rw [stored]
    have cswitching : y.switching = c.switching := by rw [stored]
    have cnow : c.houseTime = y.houseTime := by rw [stored]
    have cdests : c.dests = y.dests := by rw [stored]
    have cmargin : c.margin = y.margin := by rw [stored]
    have computes (d : DestNo) (k : Take) := recomputed_congr cnow cformats cdests cmargin d k
    have points (d : DestNo) (x : Time) : pointFrom c d x = pointFrom y d x := pointFrom_congr (.of_formats cformats) cdests d x
    have anchored := (anchoring f).mp here
    obtain ⟨format, -⟩ := anchors_iff.mp anchored
    have only (g : FormatNo) : anchors s n r g = true ↔ g = f := by
      refine ⟨fun hg => ?_, fun e => e ▸ anchored⟩
      obtain ⟨format', -⟩ := anchors_iff.mp hg
      exact Option.some.inj (format'.symm.trans format)
    have moves (d : DestNo) : anchorMoves s n r d = hasFormat b f d := by
      rw [Bool.eq_iff_iff, anchorMoves_iff, hasFormat, beq_iff_eq, dests]
      simp only [only]
      exact ⟨fun ⟨g, hg, e⟩ => e ▸ hg, fun h => ⟨f, h, rfl⟩⟩
    have frames := steered_frames s n previous r f
    have report : anchorReport b c f = anchorReport s y f := by
      unfold anchorReport
      simp only [now, dests, active, (computes _ _).1]
      rw [formats, frames]
      rfl
    refine ⟨?_, fun g => ?_, ?_, fun d => ?_, fun d => ?_, fun g hg => ?_, fun none => ?_⟩
    · rw [stored, done.rest, rest]
    · rw [← cformats, done.formats, Tbl.get_modify]
      by_cases h : f = g
      · subst h
        rw [if_pos rfl, if_pos anchored, formats, now]
      · rw [if_neg h, if_neg fun hg => h ((only g).mp hg).symm]
        exact formats g
    · rw [stored, done.rest]
      exact ports
    · rw [cswitching, done.switching, moves, switching]
      unfold realigned
      rw [points, cnow]
    · rw [cactive, done.active, moves, active]
      unfold recomputedAt
      simp only [(computes _ _).2]
    · obtain rfl := (only g).mp hg
      rw [creturns, done.returns, report]
      refine queueMasked_returns_congr returns ?_
      rw [rest]
      unfold lockTold
      split <;> rfl
    · rw [none f] at anchored
      cases anchored

theorem captureFrame_captured {s : State} {n : SourceNo} (captures : (s.sources.get n).captures = true) (steers : Steers s n) :
    CapturedAs s n (s.sources.get n).state ((s.sources.get n).capturedAt (sourceFormat s n) s.houseTime) (captureFrame n s) := by
  let q := (s.sources.get n).captured (sourceFormat s n) s.houseTime
  let r := (s.sources.get n).capturedAt (sourceFormat s n) s.houseTime
  let a := s.updSource n fun r => r.captured (sourceFormat s n) s.houseTime
  have own : a.sources.get n = q := Tbl.get_modify_self ..
  have keeps : q.format = (s.sources.get n).format := Source.captured_format ..
  have live : (a.sources.get n).state ≠ .lost := by rw [own]; exact Source.captured_live captures _ _
  have changed := sourceChanged_live (previous := (s.sources.get n).state) live
  generalize hb : sourceChanged n (s.sources.get n).state a = b at changed
  rw [own] at changed
  have sources : b.sources = a.sources := by rw [changed]
  have locks (f : FormatNo) (x : Format) : isTracking a.sources f x = isTracking (s.sources.set n r) f x := by
    refine isTracking_congr (.refl x) fun m _ => ?_
    by_cases h : n = m
    · subst h
      rw [own, Tbl.get_set_self]
      exact .refl _
    · rw [Tbl.get_set_ne _ _ h, show a.sources.get m = s.sources.get m from Tbl.get_modify_ne _ _ h]
      exact .refl _
  have state : r.state = q.state := rfl
  have formats (f : FormatNo) : b.formats.get f = steered s n (s.sources.get n).state r f := by
    rw [changed]
    dsimp only
    unfold steered
    dsimp only
    rw [state]
    by_cases lock : lockChanges (s.sources.get n).state q.state = true
    · rw [if_pos lock, evaluateTracking_get, locks]
      simp only [lock, Bool.true_and, beq_iff_eq]
      rfl
    · rw [if_neg lock]
      simp only [lock, Bool.false_and, Bool.false_eq_true, if_false]
      rfl
  have tracking (f : FormatNo) (format : q.format = some f) (cadence : (s.formats.get f).cadence = some n) :
      (steered s n (s.sources.get n).state r f).tracking = (q.state == .locked) := by
    obtain ⟨defined, before⟩ := steers f (keeps ▸ format) cadence
    exact steered_tracking (r := r) format cadence defined before
  have anchoring (f : FormatNo) : reanchoring b n f ↔ anchors s n r f = true := by
    have time : b.houseTime = s.houseTime := by rw [changed]; rfl
    rw [anchors_iff, reanchoring, sources, own, formats, time]
    refine and_congr_right fun format => ?_
    have same := steered_frames s n (s.sources.get n).state r f
    have cadence : (steered s n (s.sources.get n).state r f).cadence = (s.formats.get f).cadence := by rw [same]
    rw [cadence]
    refine and_congr_right fun steering => ?_
    rw [tracking f format steering, beq_iff_eq, state, same]
    rfl
  have rest : b = { s with sources := a.sources, formats := b.formats, returns := b.returns, ports := b.ports } := by rw [changed]; rfl
  have ports : b.ports = if lockChanges (s.sources.get n).state r.state then (requestDisplays (destsForwarding s n) s).ports else s.ports := by
    rw [changed, state]
    exact if_congr Iff.rfl (requestDisplays_ports_congr _ rfl rfl) rfl
  have returns : b.returns = (lockTold s n (s.sources.get n).state r).returns := by
    rw [changed]
    unfold lockTold
    dsimp only
    rw [state]
    by_cases lock : lockChanges (s.sources.get n).state q.state = true
    · rw [if_pos lock, if_pos lock]
      rfl
    · rw [if_neg lock, if_neg lock]
      rfl
  refine reanchorCheck_captured rest formats ports returns anchoring ?_
  have table : (captureFrame n s).sources = s.sources.set n r := by rw [captureFrame_sources, Tbl.modify_eq_set]
  rw [← table, ← hb]
  rfl

end Sys2Proof.Machine
end

section
/-! SUPPORT. What an essence cell does at the Source Tracker (R26–R30, R33, R34, R17). -/

namespace Sys2Proof.Machine

/-- The record of source `n` after a cell (R26). -/
def trackedSource (s : State) (n : SourceNo) (c : Cell) : Source :=
  Source.tracked (sourceFormat s n) s.houseTime c (s.sources.get n)

/-- The cell of source `n` is a capture that re-anchors format `f` (R17). -/
def cellAnchors (s : State) (n : SourceNo) (c : Cell) (f : FormatNo) : Bool := c.frameStart && anchors s n (trackedSource s n c) f

/-- The cell of source `n` re-anchors the destination's format. -/
def cellMoves (s : State) (n : SourceNo) (c : Cell) (d : DestNo) : Bool := c.frameStart && anchorMoves s n (trackedSource s n c) d

/-- Everything that a cell of source `n` does at the Source Tracker, the return queues holding `b` before it. -/
structure Tracked (s : State) (b : Tbl ReturnTx 8) (n : SourceNo) (c : Cell) (y : State) : Prop where
  rest : y = { s with
    sources := s.sources.set n (trackedSource s n c), formats := y.formats, receivers := y.receivers, returns := y.returns,
    ports := y.ports, switching := y.switching, active := y.active }
  formats : ∀ f, y.formats.get f =
    let x := steered s n (s.sources.get n).state (trackedSource s n c) f
    if cellAnchors s n c f then { x with
      epoch := s.houseTime, epochFrame := frameNumber x (nearestFrame x s.houseTime), reanchors := bump x.reanchors } else x
  ports : y.ports = if lockChanges (s.sources.get n).state (trackedSource s n c).state then
    (requestDisplays (destsForwarding s n) s).ports else s.ports
  switching : ∀ d, y.switching.get d = if cellMoves s n c d then realigned y d (sequencedSwitching s n c.seq d)
    else sequencedSwitching s n c.seq d
  active : ∀ d, y.active.get d = if cellMoves s n c d then recomputedAt y d (s.active.get d) else s.active.get d
  anchored : ∀ f, cellAnchors s n c f = true →
    y.returns = (queueMasked (anchorReport s y f) (lockTold { s with returns := b } n (s.sources.get n).state (trackedSource s n c))).returns
  unanchored : (∀ f, cellAnchors s n c f = false) →
    y.returns = (lockTold { s with returns := b } n (s.sources.get n).state (trackedSource s n c)).returns

theorem Source.sequenced_state (r : Source) (seq : BitVec 16) : (r.sequenced seq).state = r.state := rfl

theorem Source.entered_locked (r : Source) (b : Bool) : ((r.entered b).state == .locked) = (r.state == .locked) := (Source.entered_lock r b).1

theorem lockChanges_congr {p q : SourceState} (h : (p == .locked) = (q == .locked)) (r : SourceState) : lockChanges p r = lockChanges q r := by
  unfold lockChanges
  rw [h]

/-- A source that a frame start enters is not locked by it. -/
theorem Source.entered_changes {r : Source} {b : Bool} (f : Format) (c : Time) (changes : lockChanges r.state ((r.entered b).capturedAt f c).state = true) :
    (r.entered b).state = r.state := by
  by_cases enters : r.state = .absent ∨ (r.state = .lost ∧ b)
  · have unlocked : (r.state == .locked) = false := by rcases enters with h | ⟨h, -⟩ <;> rw [h] <;> rfl
    have entered : r.entered b = { r with
        state := .acquiring, inWindow := 0, outWindow := 0, lastCapture := none, frameWatch := none } := if_pos enters
    have acquires : ((r.entered b).capturedAt f c).state = .acquiring := by rw [entered]; rfl
    rw [acquires, lockChanges, unlocked] at changes
    cases changes
  · have same : r.entered b = r := if_neg enters
    rw [same]

theorem lockTold_congr {s u : State} {n : SourceNo} {p q : SourceState} {r : Source} (now : u.houseTime = s.houseTime)
    (returns : u.returns = s.returns) (mask : u.reportMask = s.reportMask) (lock : (p == .locked) = (q == .locked))
    (same : lockChanges q r.state = true → p = q) : (lockTold u n p r).returns = (lockTold s n q r).returns := by
  unfold lockTold
  rw [lockChanges_congr lock]
  by_cases changes : lockChanges q r.state = true
  · rw [if_pos changes, if_pos changes, same changes, now]
    exact queueMasked_returns_congr returns mask
  · rw [if_neg changes, if_neg changes]
    exact returns

theorem Source.entered_captures {r : Source} {b : Bool} (defined : r.state ≠ .undefined) (start : b = true) : (r.entered b).captures = true := by
  unfold Source.entered Source.captures
  cases h : r.state with
  | undefined => exact absurd h defined
  | absent | lost | acquiring | locked => simp [start, h]

theorem trackCell_tracked {s : State} {n : SourceNo} {c : Cell} (defined : (s.sources.get n).state ≠ .undefined)
    (steers : c.frameStart = true → Steers s n) : Tracked s s.returns n c (trackCell n c s) := by
  let r := s.sources.get n
  let q := (r.sequenced c.seq).entered c.frameStart
  let u : State := { s with sources := s.sources.set n q, switching := (sequenceCheck n c.seq s).switching }
  have first : (sequenceCheck n c.seq s).updSource n (·.entered c.frameStart) = u := by
    rw [sequenceCheck_eq, State.updSource]
    dsimp only
    rw [Tbl.modify_modify, Tbl.modify_eq_set]
  have own : u.sources.get n = q := Tbl.get_set_self ..
  have unfolded : trackCell n c s = if c.frameStart && (u.sources.get n).captures then captureFrame n u else u := by
    rw [← first]
    rfl
  have format : sourceFormat u n = sourceFormat s n := sourceFormat_congr rfl (by rw [own]; exact Source.entered_format ..)
  have lock : (q.state == .locked) = (r.state == .locked) := Source.entered_locked ..
  have switching (d : DestNo) : u.switching.get d = sequencedSwitching s n c.seq d := sequenceCheck_get n c.seq s d
  cases start : c.frameStart with
  | false =>
    have same : trackCell n c s = u := by rw [unfolded, start]; rfl
    have tracked : trackedSource s n c = q := if_neg (by rw [start]; exact Bool.false_ne_true)
    have quiet (f : FormatNo) : cellAnchors s n c f = false := by rw [cellAnchors, start]; rfl
    have still (d : DestNo) : cellMoves s n c d = false := by rw [cellMoves, start]; rfl
    have stays : lockChanges r.state q.state = false := by rw [lockChanges, lock]; exact bne_self_eq_false _
    have untold : lockTold s n r.state q = s := by rw [lockTold, stays]; rfl
    rw [same]
    refine ⟨?_, fun f => ?_, ?_, fun d => ?_, fun d => ?_, fun f hf => ?_, fun _ => ?_⟩
    · rw [tracked]
    · rw [quiet, tracked, steered, stays]
      rfl
    · rw [tracked, stays]
      rfl
    · rw [still]
      exact switching d
    · rw [still]
      rfl
    · rw [quiet] at hf
      cases hf
    · rw [tracked, untold]
  | true =>
    have captures : q.captures = true := Source.entered_captures (r := r.sequenced c.seq) defined start
    have same : trackCell n c s = captureFrame n u := by
      rw [unfolded, own, start, captures]
      rfl
    have tracked : trackedSource s n c = q.capturedAt (sourceFormat s n) s.houseTime := if_pos (Bool.and_eq_true_iff.mpr ⟨start, captures⟩)
    have steering : Steers u n := fun f hf hc => by
      rw [own] at hf ⊢
      obtain ⟨known, tracking⟩ := steers start f (by rw [← hf]; exact (Source.entered_format (r.sequenced c.seq) c.frameStart).symm) hc
      exact ⟨known, tracking.trans lock.symm⟩
    have done := captureFrame_captured (s := u) (n := n) (by rw [own]; exact captures) steering
    rw [own, format] at done
    rw [same]
    generalize captureFrame n u = y at done
    have changes : lockChanges q.state (trackedSource s n c).state = lockChanges r.state (trackedSource s n c).state := lockChanges_congr lock _
    have result : q.capturedAt (sourceFormat s n) u.houseTime = trackedSource s n c := tracked.symm
    rw [result] at done
    have told : (lockTold u n q.state (trackedSource s n c)).returns = (lockTold s n r.state (trackedSource s n c)).returns := by
      refine lockTold_congr rfl rfl rfl lock fun h => ?_
      rw [tracked] at h
      exact Source.entered_changes (r := r.sequenced c.seq) _ _ h
    have anchor (f : FormatNo) : cellAnchors s n c f = anchors u n (trackedSource s n c) f := by rw [cellAnchors, start]; rfl
    have moves (d : DestNo) : cellMoves s n c d = anchorMoves u n (trackedSource s n c) d := by rw [cellMoves, start]; rfl
    have forwarding : destsForwarding u n = destsForwarding s n := by
      unfold destsForwarding Switching.forwards
      simp only [switching, sequencedSwitching_forwarded]
    have twice : u.sources.set n (trackedSource s n c) = s.sources.set n (trackedSource s n c) := Tbl.set_set ..
    have steer (f : FormatNo) : steered u n q.state (trackedSource s n c) f = steered s n r.state (trackedSource s n c) f := by
      unfold steered
      rw [changes, twice]
    refine ⟨?_, fun f => ?_, ?_, fun d => ?_, fun d => ?_, fun f hf => ?_, fun none => ?_⟩
    · have received : y.receivers = s.receivers := by rw [done.rest]
      rw [← twice, received]
      exact done.rest
    · rw [anchor, done.formats, steer]
    · rw [done.ports, changes, forwarding]
      exact if_congr Iff.rfl (requestDisplays_ports_congr _ rfl rfl) rfl
    · rw [moves, done.switching, switching]
    · rw [moves, done.active]
    · rw [done.anchored f (anchor f ▸ hf)]
      refine queueMasked_returns_congr told ?_
      unfold lockTold
      (repeat' split) <;> rfl
    · rw [done.unanchored fun f => anchor f ▸ none f, told]

/-- The record of the trunk receiver, and what its state has been told of, do not enter the tracking of the cell. -/
theorem Tracked.of_received {s y : State} {a : Tbl Receiver 8} {b : Tbl ReturnTx 8} {n : SourceNo} {c : Cell}
    (h : Tracked { s with receivers := a, returns := b } b n c y) : Tracked s b n c y where
  rest := h.rest
  formats := h.formats
  ports := by
    refine h.ports.trans (if_congr Iff.rfl ?_ rfl)
    exact requestDisplays_ports_congr _ rfl rfl
  switching := h.switching
  active := h.active
  anchored f hf := by
    refine (h.anchored f hf).trans (queueMasked_returns_congr (lockTold_congr rfl rfl rfl rfl fun _ => rfl) ?_)
    unfold lockTold
    (repeat' split) <;> rfl
  unanchored none := (h.unanchored none).trans (lockTold_congr rfl rfl rfl rfl fun _ => rfl)

end Sys2Proof.Machine
end

section
/-! SUPPORT. The Replication Engine (R82, R85, R87, R91–R95): admission and storing, in closed form. -/

namespace Sys2Proof.Machine

/-! ## Admission (R92) -/

/-- The destinations of a list that a port serves. -/
def servedBy (p : Port) (l : List DestNo) : Nat := l.countP fun e => portOf e == p

theorem servedBy_append (p : Port) (l : List DestNo) (d : DestNo) : servedBy p (l ++ [d]) = servedBy p l + if portOf d = p then 1 else 0 := by
  simp [servedBy, List.countP_append, List.countP_singleton]

theorem servedBy_cons (p : Port) (d : DestNo) (l : List DestNo) : servedBy p (d :: l) = servedBy p l + if portOf d = p then 1 else 0 := by
  simp [servedBy, List.countP_cons]

/-- A destination of a list finds room behind the members of the list before it (R92). -/
def hasRoom (s : State) (l : List DestNo) (d : DestNo) : Bool :=
  decide ((s.ports.get (portOf d)).essence.length + servedBy (portOf d) (l.filter fun e => decide (e < d)) < Config.essenceDepth)

/-- The members before one of an ordered list. -/
theorem filter_before {l pre post : List DestNo} {d : DestNo} (ordered : l.Pairwise (· < ·)) (e : l = pre ++ d :: post) :
    (l.filter fun e => decide (e < d)) = pre := by
  subst e
  obtain ⟨-, tail, across⟩ := List.pairwise_append.mp ordered
  obtain ⟨after, -⟩ := List.pairwise_cons.mp tail
  rw [List.filter_append, List.filter_eq_self.mpr fun e he => decide_eq_true (across e he d (List.mem_cons_self ..)),
    List.filter_eq_nil_iff.mpr fun e he => ?_, List.append_nil]
  rcases List.mem_cons.mp he with rfl | he
  · simp
  · simpa using le_of_lt (after e he)

/-- Admission in closed form: the destinations that find room behind those before them, admitted or not. -/
theorem admittedSet_eq (s : State) {l : List DestNo} (ordered : l.Pairwise (· < ·)) : admittedSet s l [] = l.filter (hasRoom s l) := by
  suffices h : ∀ post pre, l = pre ++ post → (∀ p, servedBy p (pre.filter (hasRoom s l)) =
      min (servedBy p pre) (Config.essenceDepth - (s.ports.get p).essence.length)) →
      admittedSet s post (pre.filter (hasRoom s l)) = l.filter (hasRoom s l) from h l [] rfl fun p => by simp [servedBy]
  intro post
  induction post with
  | nil =>
    intro pre e _
    rw [e, List.append_nil]
    rfl
  | cons d post ih =>
    intro pre e served
    have room : hasRoom s l d = decide ((s.ports.get (portOf d)).essence.length + servedBy (portOf d) pre < Config.essenceDepth) := by
      rw [hasRoom, filter_before ordered e]
    have allotted : (pre.filter (hasRoom s l)).countP (fun e => portOf e == portOf d) = _ := served (portOf d)
    have next : l = (pre ++ [d]) ++ post := by rw [e, List.append_assoc, List.singleton_append]
    have more : (pre ++ [d]).filter (hasRoom s l) = if hasRoom s l d then pre.filter (hasRoom s l) ++ [d] else pre.filter (hasRoom s l) := by
      rw [List.filter_append, List.filter_singleton]
      cases hasRoom s l d <;> simp
    have kept : ∀ p, servedBy p ((pre ++ [d]).filter (hasRoom s l)) =
        min (servedBy p (pre ++ [d])) (Config.essenceDepth - (s.ports.get p).essence.length) := fun p => by
      rw [more, servedBy_append]
      by_cases hp : portOf d = p
      · subst hp
        rw [if_pos rfl, room]
        split
        · next h =>
          have := of_decide_eq_true h
          rw [servedBy_append, if_pos rfl, served]
          omega
        · next h =>
          have : ¬_ := fun h' => h (decide_eq_true h')
          rw [served]
          omega
      · rw [if_neg hp, Nat.add_zero, ← served p]
        split
        · rw [servedBy_append, if_neg hp]
          rfl
        · rfl
    have step := ih (pre ++ [d]) next kept
    unfold admittedSet
    dsimp only
    rw [allotted]
    by_cases h : (s.ports.get (portOf d)).essence.length + servedBy (portOf d) pre < Config.essenceDepth
    · rw [if_pos (by omega)]
      rw [more, room, decide_eq_true h, if_pos rfl] at step
      exact step
    · rw [if_neg (by omega)]
      rw [more, room, decide_eq_false h, if_neg Bool.false_ne_true] at step
      exact step

/-! ## The Cell Pool (R92, R95) -/

/-- A slot is taken while the pool holds fewer than 2,048 distinct slots. -/
theorem takeSlot_isSome {pool : List PoolSlot} (distinct : (pool.map (·.number)).Nodup) (pick : PoolNo) :
    (takeSlot pool pick).isSome = true ↔ pool.length < 2048 := by
  have occupied : (takeSlot pool pick).isSome = true ↔ ∃ k : PoolNo, k ∉ pool.map (·.number) := by
    unfold takeSlot
    rw [List.find?_isSome]
    constructor
    · rintro ⟨k, -, free⟩
      exact ⟨k, fun inside => by
        obtain ⟨x, hx, e⟩ := List.mem_map.mp inside
        exact slotFree_iff.mp free x hx e⟩
    · rintro ⟨k, out⟩
      refine ⟨k, List.mem_map.mpr ⟨k - pick, List.mem_finRange _, by abel⟩, slotFree_iff.mpr fun x hx e => out ?_⟩
      exact List.mem_map.mpr ⟨x, hx, e⟩
  rw [occupied]
  have size : (pool.map (·.number)).toFinset.card = pool.length := by
    rw [List.toFinset_card_of_nodup distinct, List.length_map]
  have full : (pool.map (·.number)).toFinset.card < 2048 ↔ (pool.map (·.number)).toFinset ≠ Finset.univ := by
    rw [← Finset.card_lt_iff_ne_univ, Fintype.card_fin]
  rw [← size, full, ne_eq, Finset.eq_univ_iff_forall, not_forall]
  simp only [List.mem_toFinset]

/-! ## Refusals (R93) -/

theorem countRefusals_get (refused : List DestNo) (s : State) (p : Port) : (countRefusals refused s).ports.get p =
    { s.ports.get p with refused := bump^[servedBy p refused] (s.ports.get p).refused } := by
  induction refused generalizing s with
  | nil => rfl
  | cons d l ih =>
    refine (ih (s.updPort (portOf d) fun x => { x with refused := bump x.refused })).trans ?_
    rw [State.updPort_ports, Tbl.get_modify, servedBy_cons]
    by_cases h : portOf d = p
    · rw [if_pos h, if_pos h]
      rfl
    · rw [if_neg h, if_neg h]
      rfl

end Sys2Proof.Machine
end

section
/-! SUPPORT. The Replication Engine (R82, R85, R87, R91–R95): what a cell settles for its receivers. -/

namespace Sys2Proof.Machine

/-! ## One receiver (R85, R87, R93, R94) -/

/-- A receiver's switching record after the cell, with whether the cell was queued for it. -/
def settledSwitching (s : State) (n : SourceNo) (got : Bool) (d : DestNo) (w : Switching) : Switching :=
  match w.cut with
  | .steady _ .waiting => if got then { cut := .steady (some n) .forwarding, fill := none } else w
  | .joining _ => if got then { cut := .steady (some n) .forwarding, fill := none } else waitsLater s n d w
  | .steady (some m) .forwarding => if got then w else waitsLater s m d w
  | .steady none .forwarding => w
  | .draining old _ x => if got then w else { w with cut := .draining old false x }

theorem SameSchedule.settledSwitching {s x : State} (h : SameSchedule s x) (n : SourceNo) (got : Bool) (d : DestNo) (w : Switching) :
    settledSwitching x n got d w = settledSwitching s n got d w := by
  unfold Machine.settledSwitching
  simp only [h.waitsLater]

/-- The COMMITTED take that a cell completes at a receiver: the destination joins (R71, R85). -/
def completing (s : State) (d : DestNo) : Option Take :=
  match (s.switching.get d).cut with
  | .joining _ => (s.active.get d).filter fun k => k.state == .committed
  | _ => none

theorem completing_some {s : State} {d : DestNo} {k : Take} : completing s d = some k ↔
    (∃ x, (s.switching.get d).cut = .joining x) ∧ s.active.get d = some k ∧ k.state = .committed := by
  unfold completing
  cases hc : (s.switching.get d).cut with
  | joining x => simp [Option.filter_eq_some_iff]
  | steady | draining => simp

/-- One receiver settled. -/
def settleOne (n : SourceNo) (locked got : Bool) (d : DestNo) (s : State) : State :=
  if got then receiveCell n locked d s else missCell n locked d s

theorem settleReceivers_eq (n : SourceNo) (locked : Bool) (got l : List DestNo) (s : State) :
    settleReceivers n locked got l s = l.foldl (fun s d => settleOne n locked (decide (d ∈ got)) d s) s := by
  unfold settleReceivers settleOne
  simp only [decide_eq_true_eq]

theorem updSwitching_congr {s : State} {d : DestNo} {f g : Switching → Switching} (h : f (s.switching.get d) = g (s.switching.get d)) :
    s.updSwitching d f = s.updSwitching d g := by
  rw [State.updSwitching, State.updSwitching, Tbl.modify_eq_set, Tbl.modify_eq_set, h]

theorem updSwitching_self {s : State} {d : DestNo} {f : Switching → Switching} (h : f (s.switching.get d) = s.switching.get d) :
    s.updSwitching d f = s := by
  rw [State.updSwitching, modify_self_of_eq _ _ _ h]

/-- A receiver is settled by its switching record, and where it joins its take completes. -/
theorem settleOne_eq (n : SourceNo) (locked got : Bool) (d : DestNo) (s : State) : settleOne n locked got d s =
    match (s.switching.get d).cut with
    | .joining _ => complete d (.frameStart locked) (s.updSwitching d (settledSwitching s n got d))
    | _ => s.updSwitching d (settledSwitching s n got d) := by
  unfold settleOne receiveCell missCell
  cases hc : (s.switching.get d).cut with
  | steady m flag =>
    cases flag with
    | waiting =>
      dsimp only
      split
      · next got => exact updSwitching_congr (by simp [settledSwitching, hc, got])
      · next missed => exact (updSwitching_self (by simp [settledSwitching, hc, missed])).symm
    | forwarding =>
      dsimp only
      split
      · next got => exact (updSwitching_self (by cases m <;> simp [settledSwitching, hc, got])).symm
      · next missed =>
        rw [breakForwarding_eq]
        exact updSwitching_congr (by cases m <;> simp [settledSwitching, brokenSwitching, hc, missed])
  | draining old tail x =>
    dsimp only
    split
    · next got => exact (updSwitching_self (by simp [settledSwitching, hc, got])).symm
    · next missed => exact updSwitching_congr (by simp [settledSwitching, hc, missed])
  | joining x =>
    dsimp only
    split
    · next got => exact congrArg _ (updSwitching_congr (by simp [settledSwitching, hc, got]))
    · next missed =>
      rw [armFillLater_waits]
      exact congrArg _ (updSwitching_congr (by simp [settledSwitching, hc, missed]))

theorem settleOne_quiet {n : SourceNo} {locked got : Bool} {d : DestNo} {s : State} (none : completing s d = none) :
    settleOne n locked got d s = s.updSwitching d (settledSwitching s n got d) := by
  rw [settleOne_eq]
  split
  · next x hc =>
    refine complete_idle ?_
    rw [Bool.eq_false_iff]
    intro committed
    obtain ⟨k, hk, ks⟩ := isCommitted_iff.mp committed
    rw [completing_some.mpr ⟨⟨x, hc⟩, hk, ks⟩] at none
    cases none
  · rfl

theorem settleOne_completes {n : SourceNo} {locked got : Bool} {d : DestNo} {s : State} {k : Take} (some : completing s d = some k) :
    Completed (s.updSwitching d (settledSwitching s n got d)) d k (outcomeOf (.frameStart locked) k.late) (settleOne n locked got d s) := by
  obtain ⟨⟨x, hc⟩, hk, ks⟩ := completing_some.mp some
  rw [settleOne_eq, hc]
  exact complete_completed (s := s.updSwitching d (settledSwitching s n got d)) hk ks

/-! ## Every receiver (log 6) -/

/-- The end of the take that a cell completes at a destination of `s`, told in `x`. -/
def tellCompletion (s : State) (locked : Bool) (x : State) (d : DestNo) : State :=
  match completing s d with
  | some k => notifyEnd d k (outcomeOf (.frameStart locked) k.late) x
  | none => x

/-- The receivers `pre` have been settled. -/
structure SettledSoFar (s : State) (n : SourceNo) (locked : Bool) (got : List DestNo) (pre : List DestNo) (x : State) : Prop where
  rest : x = { s with
    active := x.active, follow := x.follow, switching := x.switching, salvos := x.salvos, returns := x.returns, ports := x.ports, mode := x.mode }
  switching : ∀ e, x.switching.get e =
    if e ∈ pre then settledSwitching s n (decide (e ∈ got)) e (s.switching.get e) else s.switching.get e
  active : ∀ e, x.active.get e =
    if e ∈ pre ∧ (completing s e).isSome = true then (s.follow.get e).map (promotedTake s e) else s.active.get e
  follow : ∀ e, x.follow.get e = if e ∈ pre ∧ (completing s e).isSome = true then none else s.follow.get e
  ports : ∀ p, x.ports.get p = { s.ports.get p with service := (x.ports.get p).service }
  shown : ∀ d, displayWaits s.ports d → displayWaits x.ports d
  waits : ∀ e ∈ pre, (completing s e).isSome = true → (s.dests.get e).format.isSome = true → displayWaits x.ports e
  mode : x.mode = s.mode ∨ s.mode = .holding ∧ x.mode = .held
  idle : (∀ e ∈ pre, completing s e = none) → x.mode = s.mode ∧ x.ports = s.ports
  told : (s.mode ≠ .holding ∨ ∀ e ∈ pre, completing s e = none) → SameTold x (pre.foldl (tellCompletion s locked) s)

theorem requestDisplay_service (d : DestNo) (s : State) (p : Port) :
    (requestDisplay d s).ports.get p = { s.ports.get p with service := ((requestDisplay d s).ports.get p).service } := by
  rw [requestDisplay_get]
  split
  · unfold DropPort.post
    split <;> rfl
  · rfl

theorem SettledSoFar.step {s x : State} {n : SourceNo} {locked : Bool} {got pre : List DestNo} {d : DestNo}
    (h : SettledSoFar s n locked got pre x) (new : d ∉ pre) :
    SettledSoFar s n locked got (pre ++ [d]) (settleOne n locked (decide (d ∈ got)) d x) := by
  have schedule : SameSchedule s x := by rw [h.rest]; exact .of_formats rfl rfl rfl
  have own : x.switching.get d = s.switching.get d := by rw [h.switching, if_neg new]
  have ownActive : x.active.get d = s.active.get d := by rw [h.active, if_neg fun both => new both.1]
  have ownFollow : x.follow.get d = s.follow.get d := by rw [h.follow, if_neg fun both => new both.1]
  have same : completing x d = completing s d := by unfold completing; rw [own, ownActive]
  have settled := schedule.settledSwitching n (decide (d ∈ got)) d
  have member (e : DestNo) : e ∈ pre ++ [d] ↔ e ∈ pre ∨ e = d := by simp
  have switching (e : DestNo) : (x.updSwitching d (settledSwitching x n (decide (d ∈ got)) d)).switching.get e =
      if e ∈ pre ++ [d] then settledSwitching s n (decide (e ∈ got)) e (s.switching.get e) else s.switching.get e := by
    rw [State.updSwitching_switching, Tbl.get_modify]
    by_cases he : d = e
    · subst he
      rw [if_pos rfl, if_pos ((member d).mpr (.inr rfl)), own, settled]
    · rw [if_neg he, h.switching]
      exact if_congr (by rw [member, or_iff_left (Ne.symm he)]) rfl rfl
  have list : (pre ++ [d]).foldl (tellCompletion s locked) s = tellCompletion s locked (pre.foldl (tellCompletion s locked) s) d := by
    rw [List.foldl_append]
    rfl
  cases hk : completing s d with
  | none =>
    have eq := settleOne_quiet (n := n) (locked := locked) (got := decide (d ∈ got)) (same.trans hk)
    have reach (e : DestNo) : (e ∈ pre ++ [d] ∧ (completing s e).isSome = true) ↔ e ∈ pre ∧ (completing s e).isSome = true := by
      refine and_congr_left fun some => ?_
      rw [member, or_iff_left]
      rintro rfl
      rw [hk] at some
      cases some
    rw [eq]
    refine ⟨?_, switching, fun e => ?_, fun e => ?_, h.ports, h.shown, fun e he some => ?_, h.mode,
      fun none => h.idle fun e he => none e (List.mem_append_left _ he), fun quiet => ?_⟩
    · exact congrArg (fun y : State => y.updSwitching d (settledSwitching x n (decide (d ∈ got)) d)) h.rest
    · exact (h.active e).trans (if_congr (reach e).symm rfl rfl)
    · exact (h.follow e).trans (if_congr (reach e).symm rfl rfl)
    · exact h.waits e ((reach e).mp ⟨he, some⟩).1 some
    · rw [list, tellCompletion, hk]
      obtain ⟨now, salvos, returns⟩ := h.told (quiet.imp_right fun all e he => all e (List.mem_append_left _ he))
      exact ⟨now, salvos, returns⟩
  | some k =>
    have done := settleOne_completes (n := n) (locked := locked) (got := decide (d ∈ got)) (same.trans hk)
    generalize settleOne n locked (decide (d ∈ got)) d x = y at done ⊢
    generalize hv : x.updSwitching d (settledSwitching x n (decide (d ∈ got)) d) = v at done switching
    have vrest : v = { s with
        active := x.active, follow := x.follow, switching := v.switching, salvos := x.salvos, returns := x.returns, ports := x.ports,
        mode := x.mode } := by
      rw [← hv]
      exact congrArg (fun y : State => y.updSwitching d (settledSwitching x n (decide (d ∈ got)) d)) h.rest
    have vactive : v.active = x.active := by rw [vrest]
    have vfollow : v.follow = x.follow := by rw [vrest]
    have vports : v.ports = x.ports := by rw [vrest]
    have vdests : v.dests = s.dests := by rw [vrest]
    have vmode : v.mode = x.mode := by rw [vrest]
    have promotes : promotedTake v d = promotedTake s d :=
      funext (promotedTake_congr (by rw [vrest]) (by rw [vrest]) vdests (by rw [vrest]) d)
    have shown (e : DestNo) (he : displayWaits x.ports e) : displayWaits y.ports e := by
      rw [done.ports]
      exact requestDisplay_waits d (by rw [vports]; exact he)
    have here : d ∈ pre ++ [d] ∧ (completing s d).isSome = true := ⟨(member d).mpr (.inr rfl), by rw [hk]; rfl⟩
    have reach (e : DestNo) (he : e ≠ d) : (e ∈ pre ++ [d] ∧ (completing s e).isSome = true) ↔ e ∈ pre ∧ (completing s e).isSome = true := by
      rw [member, or_iff_left he]
    refine ⟨?_, fun e => ?_, fun e => ?_, fun e => ?_, fun p => ?_, fun e he => shown e (h.shown e he), fun e he some defined => ?_, ?_,
      fun none => ?_, fun quiet => ?_⟩
    · rw [done.rest, vrest]
    · rw [done.rest]
      exact switching e
    · by_cases he : e = d
      · subst he
        rw [done.own, vfollow, ownFollow, promotes, if_pos here]
      · rw [done.others e he, vactive, h.active]
        exact if_congr (reach e he).symm rfl rfl
    · have fo : y.follow = v.follow.set d none := by rw [done.rest]
      rw [fo, vfollow, Tbl.get_set]
      by_cases he : e = d
      · subst he
        rw [if_pos rfl, if_pos here]
      · rw [if_neg (Ne.symm he), h.follow]
        exact if_congr (reach e he).symm rfl rfl
    · rw [done.ports, requestDisplay_service, vports, h.ports]
    · rcases (member e).mp he with inside | rfl
      · exact shown e (h.waits e inside some defined)
      · rw [done.ports]
        exact requestDisplay_own (by rw [vdests]; exact defined)
    · rw [done.mode, vmode]
      split
      · next held =>
        rcases h.mode with same | ⟨holding, held'⟩
        · exact .inr ⟨same ▸ held.1, rfl⟩
        · rw [held'] at held
          cases held.1
      · exact h.mode
    · rw [none d here.1] at hk
      cases hk
    · have running : s.mode ≠ .holding := quiet.resolve_right fun all => by
        have := all d here.1
        rw [hk] at this
        cases this
      have still : x.mode = s.mode := h.mode.resolve_right fun both => running both.1
      have base : SameTold v (pre.foldl (tellCompletion s locked) s) := by
        obtain ⟨now, salvos, returns⟩ := h.told (.inl running)
        exact ⟨by rw [vrest, ← now, h.rest], by rw [vrest]; exact salvos, by rw [vrest]; exact returns⟩
      have told : SameTold y (notifyEnd d k (outcomeOf (.frameStart locked) k.late) v) :=
        ⟨by rw [done.rest]; simp, done.salvos, done.returns (by rw [vmode, still]; exact running)⟩
      rw [list, tellCompletion, hk]
      exact told.trans (notifyEnd_told base ..)

/-- Every receiver of a cell settled. -/
theorem settleReceivers_settled (s : State) (n : SourceNo) (locked : Bool) (got : List DestNo) {l : List DestNo} (distinct : l.Nodup) :
    SettledSoFar s n locked got l (settleReceivers n locked got l s) := by
  rw [settleReceivers_eq]
  refine foldl_prefix (P := SettledSoFar s n locked got) ?_ fun pre d post x e h => h.step fun inside => ?_
  · refine ⟨rfl, fun e => ?_, fun e => ?_, fun e => ?_, fun _ => rfl, fun _ => id, fun e he => absurd he List.not_mem_nil, .inl rfl, fun _ => ⟨rfl, rfl⟩,
      fun _ => .refl s⟩
    · rw [if_neg List.not_mem_nil]
    · rw [if_neg fun h => List.not_mem_nil h.1]
    · rw [if_neg fun h => List.not_mem_nil h.1]
  · rw [e] at distinct
    exact (List.nodup_append.mp distinct).2.2 d inside d (List.mem_cons_self ..) rfl

end Sys2Proof.Machine
end

section
/-! SUPPORT. The Replication Engine (R82, R85, R87, R91–R95): everything that a cell does there. -/

namespace Sys2Proof.Machine

/-! ## Who receives a cell, and who gets it (R91–R94) -/

/-- The receiving set of a cell of source `n`, draining ended. -/
def receivers (s : State) (n : SourceNo) (c : Cell) : List DestNo := receivingSet (drainEnded n c.frameStart s) n c.frameStart

/-- The destination receives the cell. -/
def cellReceives (s : State) (n : SourceNo) (c : Cell) (d : DestNo) : Bool :=
  receives (drainEnded n c.frameStart s) n c.frameStart d

/-- The destination receives the cell, and its port has room. -/
def cellAdmitted (s : State) (n : SourceNo) (c : Cell) (d : DestNo) : Bool := cellReceives s n c d && hasRoom s (receivers s n c) d

/-- The cell is queued for the destination. -/
def cellGets (s : State) (n : SourceNo) (c : Cell) (pick : PoolNo) (d : DestNo) : Bool :=
  cellAdmitted s n c d && (takeSlot s.pool pick).isSome

theorem receivers_eq (s : State) (n : SourceNo) (c : Cell) : receivers s n c = (List.finRange 128).filter (cellReceives s n c) := rfl

theorem mem_receivers {s : State} {n : SourceNo} {c : Cell} {d : DestNo} : d ∈ receivers s n c ↔ cellReceives s n c d = true :=
  mem_receivingSet

theorem receivers_nodup (s : State) (n : SourceNo) (c : Cell) : (receivers s n c).Nodup := receivingSet_nodup ..

theorem receivers_ordered (s : State) (n : SourceNo) (c : Cell) : (receivers s n c).Pairwise (· < ·) :=
  (List.pairwise_lt_finRange 128).filter _

theorem hasRoom_congr {s s' : State} (h : ∀ p, (s'.ports.get p).essence = (s.ports.get p).essence) (l : List DestNo) : hasRoom s' l = hasRoom s l :=
  funext fun d => by unfold hasRoom; rw [h]

/-- The admitted set in closed form. -/
theorem admittedSet_receivers (s : State) (n : SourceNo) (c : Cell) :
    admittedSet (drainEnded n c.frameStart s) (receivers s n c) [] = (List.finRange 128).filter (cellAdmitted s n c) := by
  have same := hasRoom_congr (s := s) (s' := drainEnded n c.frameStart s) (fun p => by simp) (receivers s n c)
  rw [admittedSet_eq _ (receivers_ordered s n c), same, receivers_eq, List.filter_filter]
  refine List.filter_congr fun d _ => ?_
  rw [cellAdmitted, receivers_eq, Bool.and_comm]

theorem refused_receivers (s : State) (n : SourceNo) (c : Cell) :
    (receivers s n c).filter (· ∉ (List.finRange 128).filter (cellAdmitted s n c)) =
      (List.finRange 128).filter fun d => cellReceives s n c d && !cellAdmitted s n c d := by
  rw [receivers_eq, List.filter_filter]
  refine List.filter_congr fun d _ => ?_
  have member : d ∈ (List.finRange 128).filter (cellAdmitted s n c) ↔ cellAdmitted s n c d = true := by simp
  simp only [member]
  cases cellReceives s n c d <;> cases cellAdmitted s n c d <;> rfl

theorem cellAdmitted_receives {s : State} {n : SourceNo} {c : Cell} {d : DestNo} (h : cellAdmitted s n c d = true) : cellReceives s n c d = true :=
  (Bool.and_eq_true_iff.mp h).1

theorem cellGets_receives {s : State} {n : SourceNo} {c : Cell} {pick : PoolNo} {d : DestNo} (h : cellGets s n c pick d = true) : cellReceives s n c d = true :=
  cellAdmitted_receives (Bool.and_eq_true_iff.mp h).1

theorem cellGets_room {s : State} {n : SourceNo} {c : Cell} {pick : PoolNo} (room : (takeSlot s.pool pick).isSome = true) :
    cellGets s n c pick = cellAdmitted s n c :=
  funext fun d => by rw [cellGets, room, Bool.and_true]

theorem cellGets_full {s : State} {n : SourceNo} {c : Cell} {pick : PoolNo} (full : takeSlot s.pool pick = none) (d : DestNo) :
    cellGets s n c pick d = false := by
  rw [cellGets, full]
  exact Bool.and_false _

/-! ## What is queued and counted (R92–R95) -/

/-- The queues, the pool and the counters after a cell of source `n`. -/
structure Queued (s : State) (n : SourceNo) (c : Cell) (pick : PoolNo) (z : State) : Prop where
  unstored : (∀ d, cellGets s n c pick d = false) → z.pool = s.pool ∧ ∀ p, (z.ports.get p).essence = (s.ports.get p).essence
  stored : (∃ d, cellGets s n c pick d = true) → ∃ k, (∀ x ∈ s.pool, x.number ≠ k) ∧
    z.pool = poolInsert ⟨k, (List.finRange 128).countP (cellGets s n c pick), c⟩ s.pool ∧
    ∀ p, (z.ports.get p).essence = (s.ports.get p).essence ++
      (((List.finRange 128).filter fun d => cellGets s n c pick d && portOf d == p).map fun d => ⟨k, channelOf d⟩)
  exhausted : z.poolExhausted = if (∃ d, cellAdmitted s n c d = true) ∧ takeSlot s.pool pick = none then bump s.poolExhausted else s.poolExhausted
  refused : ∀ p, (z.ports.get p).refused =
    bump^[(List.finRange 128).countP fun d => cellReceives s n c d && !cellAdmitted s n c d && portOf d == p] (s.ports.get p).refused

/-! ## What is switched (R82, R85, R87, R71–R73) -/

/-- The take that a cell of source `n` completes at the destination. -/
def cellCompletes (s : State) (n : SourceNo) (c : Cell) (d : DestNo) : Option Take :=
  if cellReceives s n c d then completing (drainEnded n c.frameStart s) d else none

/-- The switching records, the takes and what is told of them after a cell of source `n`. -/
structure Switched (s : State) (n : SourceNo) (c : Cell) (got : DestNo → Bool) (z : State) : Prop where
  rest : z = { s with
    pool := z.pool, poolExhausted := z.poolExhausted, ports := z.ports, switching := z.switching, active := z.active, follow := z.follow,
    salvos := z.salvos, returns := z.returns, mode := z.mode }
  switching : ∀ d, z.switching.get d =
    let w := (drainEnded n c.frameStart s).switching.get d
    if cellReceives s n c d then settledSwitching s n (got d) d w else w
  active : ∀ d, z.active.get d = if (cellCompletes s n c d).isSome then (s.follow.get d).map (promotedTake s d) else s.active.get d
  follow : ∀ d, z.follow.get d = if (cellCompletes s n c d).isSome then none else s.follow.get d
  shown : ∀ d, displayWaits s.ports d → displayWaits z.ports d
  waits : ∀ d, (cellCompletes s n c d).isSome = true → (s.dests.get d).format.isSome = true → displayWaits z.ports d
  mode : z.mode = s.mode ∨ s.mode = .holding ∧ z.mode = .held
  quiet : (∀ d, cellCompletes s n c d = none) → z.salvos = s.salvos ∧ z.returns = s.returns
  idle : (∀ d, cellCompletes s n c d = none) → z.mode = s.mode ∧
    ∀ p, z.ports.get p = { s.ports.get p with essence := (z.ports.get p).essence, refused := (z.ports.get p).refused }
  told : ∀ d k, s.mode ≠ .holding → cellCompletes s n c d = some k → (∀ e, e ≠ d → cellCompletes s n c e = none) →
    let out := outcomeOf (.frameStart ((s.sources.get n).state == .locked)) k.late
    z.salvos = (notifyEnd d k out s).salvos ∧ z.returns = (notifyEnd d k out s).returns

theorem tellCompletions_told {s u v : State} {locked : Bool} (h : SameTold u v) (l : List DestNo) :
    SameTold (l.foldl (tellCompletion s locked) u) (l.foldl (tellCompletion s locked) v) := by
  induction l generalizing u v with
  | nil => exact h
  | cons d l ih =>
    refine ih ?_
    unfold tellCompletion
    cases completing s d with
    | none => exact h
    | some k => exact notifyEnd_told h ..

theorem tellCompletions_none {s u : State} {locked : Bool} {l : List DestNo} (none : ∀ e ∈ l, completing s e = none) :
    l.foldl (tellCompletion s locked) u = u := by
  induction l with
  | nil => rfl
  | cons d l ih =>
    have quiet : tellCompletion s locked u d = u := by rw [tellCompletion, none d (List.mem_cons_self ..)]
    rw [List.foldl_cons, quiet]
    exact ih fun e he => none e (List.mem_cons_of_mem _ he)

theorem tellCompletions_one {s u : State} {locked : Bool} {l : List DestNo} (distinct : l.Nodup) {d : DestNo} {k : Take} (inside : d ∈ l)
    (some : completing s d = some k) (others : ∀ e ∈ l, e ≠ d → completing s e = none) :
    l.foldl (tellCompletion s locked) u = notifyEnd d k (outcomeOf (.frameStart locked) k.late) u := by
  obtain ⟨pre, post, rfl⟩ := List.append_of_mem inside
  obtain ⟨-, tail, across⟩ := List.nodup_append.mp distinct
  have own : tellCompletion s locked u d = notifyEnd d k (outcomeOf (.frameStart locked) k.late) u := by rw [tellCompletion, some]
  rw [List.foldl_append, tellCompletions_none fun e he => others e (List.mem_append_left _ he) (across e he d (List.mem_cons_self ..)),
    List.foldl_cons, own]
  refine tellCompletions_none fun e he => others e (List.mem_append_right _ (List.mem_cons_of_mem _ he)) ?_
  rintro rfl
  exact (List.nodup_cons.mp tail).1 he

theorem settled_switched {s v z : State} {n : SourceNo} {c : Cell} {got : List DestNo} {gets : DestNo → Bool}
    (vrest : v = { drainEnded n c.frameStart s with pool := v.pool, poolExhausted := v.poolExhausted, ports := v.ports })
    (ports : ∀ p, v.ports.get p = { s.ports.get p with essence := (v.ports.get p).essence, refused := (v.ports.get p).refused })
    (same_gets : ∀ d, cellReceives s n c d = true → decide (d ∈ got) = gets d)
    (settled : SettledSoFar v n ((s.sources.get n).state == .locked) got (receivers s n c) z) : Switched s n c gets z := by
  have drest : drainEnded n c.frameStart s = { s with switching := (drainEnded n c.frameStart s).switching } := by
    unfold drainEnded
    split <;> rfl
  generalize hu : drainEnded n c.frameStart s = u at vrest drest
  have vfull : v = { s with switching := u.switching, pool := v.pool, poolExhausted := v.poolExhausted, ports := v.ports } := by
    rw [drest] at vrest
    exact vrest
  have vswitching : v.switching = u.switching := by rw [vfull]
  have vactive : v.active = s.active := by rw [vfull]
  have vfollow : v.follow = s.follow := by rw [vfull]
  have vdests : v.dests = s.dests := by rw [vfull]
  have vmode : v.mode = s.mode := by rw [vfull]
  have schedule : SameSchedule s v := .of_formats (by rw [vfull]) vdests (by rw [vfull])
  have told : SameTold v s := ⟨by rw [vfull], by rw [vfull], by rw [vfull]⟩
  have promotes (d : DestNo) : promotedTake v d = promotedTake s d :=
    funext (promotedTake_congr (by rw [vfull]) (by rw [vfull]) vdests (by rw [vfull]) d)
  have same (d : DestNo) : completing v d = completing u d := by
    unfold completing
    rw [vswitching, vactive, drest]
  have completes (d : DestNo) : cellCompletes s n c d = if cellReceives s n c d then completing v d else none := by
    rw [cellCompletes, hu, same]
  have reach (d : DestNo) : (d ∈ receivers s n c ∧ (completing v d).isSome = true) ↔ (cellCompletes s n c d).isSome = true := by
    rw [completes, mem_receivers]
    cases cellReceives s n c d <;> simp
  have shows (d : DestNo) : displayWaits v.ports d ↔ displayWaits s.ports d := by
    unfold displayWaits
    rw [ports]
  have unfinished (none : ∀ d, cellCompletes s n c d = Option.none) : ∀ e ∈ receivers s n c, completing v e = Option.none := fun e he => by
    rw [← none e, completes, if_pos (mem_receivers.mp he)]
  refine ⟨?_, fun d => ?_, fun d => ?_, fun d => ?_, fun d h => ?_, fun d some defined => ?_, ?_, fun none => ?_, fun none => ?_,
    fun d k running some others => ?_⟩
  · rw [settled.rest, vfull]
  · rw [hu, settled.switching, vswitching]
    dsimp only
    simp only [mem_receivers]
    split
    · next h => rw [same_gets d h, schedule.settledSwitching]
    · rfl
  · rw [settled.active, promotes, vactive, vfollow]
    exact if_congr (reach d) rfl rfl
  · rw [settled.follow, vfollow]
    exact if_congr (reach d) rfl rfl
  · exact settled.shown d ((shows d).mpr h)
  · obtain ⟨inside, completed⟩ := (reach d).mpr some
    exact settled.waits d inside completed (by rw [vdests]; exact defined)
  · rw [← vmode]
    exact settled.mode
  · have all := unfinished none
    have done := (settled.told (.inr all)).trans (by rw [tellCompletions_none all]; exact told)
    exact ⟨done.salvos, done.returns⟩
  · obtain ⟨mode, same⟩ := settled.idle (unfinished none)
    refine ⟨mode.trans vmode, fun p => ?_⟩
    rw [same]
    exact ports p
  · have hk : d ∈ receivers s n c ∧ completing v d = Option.some k := by
      rw [completes] at some
      by_cases h : cellReceives s n c d = true
      · rw [if_pos h] at some
        exact ⟨mem_receivers.mpr h, some⟩
      · rw [if_neg h] at some
        cases some
    have only : ∀ e ∈ receivers s n c, e ≠ d → completing v e = none := fun e he hne => by
      rw [← others e hne, completes, if_pos (mem_receivers.mp he)]
    have one := tellCompletions_one (u := v) (locked := (s.sources.get n).state == .locked) (receivingSet_nodup _ n c.frameStart) hk.1 hk.2 only
    have done := settled.told (.inl (by rw [vmode]; exact running))
    have final : SameTold z _ := done.trans (by rw [receivers, one]; exact notifyEnd_told told ..)
    exact ⟨final.salvos, final.returns⟩

theorem settled_queues {v z : State} {n : SourceNo} {locked : Bool} {got l : List DestNo} (settled : SettledSoFar v n locked got l z) :
    z.pool = v.pool ∧ z.poolExhausted = v.poolExhausted ∧ (∀ p, (z.ports.get p).essence = (v.ports.get p).essence) ∧
      ∀ p, (z.ports.get p).refused = (v.ports.get p).refused :=
  ⟨by rw [settled.rest], by rw [settled.rest], fun p => by rw [settled.ports], fun p => by rw [settled.ports]⟩

/-- Everything that the Replication Engine does with a cell (R91–R95). -/
theorem replicate_replicated {s : State} (n : SourceNo) (c : Cell) (pick : PoolNo) :
    Queued s n c pick (replicate n c pick s) ∧ Switched s n c (cellGets s n c pick) (replicate n c pick s) := by
  obtain ⟨s₁, locked, l, admitted, refused, h₁, rfl, hl, ha, hr, cases⟩ := replicate_cases n c pick s
  have hl' : l = receivers s n c := by rw [hl, h₁]; rfl
  subst h₁ hl'
  rw [admittedSet_receivers] at ha
  rw [ha, refused_receivers] at hr
  have member (d : DestNo) : d ∈ admitted ↔ cellAdmitted s n c d = true := by rw [ha]; simp
  let v₀ := countRefusals refused (drainEnded n c.frameStart s)
  have ports (p : Port) : v₀.ports.get p = { s.ports.get p with refused := bump^[servedBy p refused] (s.ports.get p).refused } := by
    refine (countRefusals_get ..).trans ?_
    rw [show (drainEnded n c.frameStart s).ports = s.ports by simp]
  have counts (p : Port) : servedBy p refused =
      (List.finRange 128).countP fun d => cellReceives s n c d && !cellAdmitted s n c d && portOf d == p := by
    rw [servedBy, hr, List.countP_filter]
    refine List.countP_congr fun d _ => ?_
    rw [Bool.and_comm]
  have rest₀ : v₀ = { drainEnded n c.frameStart s with pool := v₀.pool, poolExhausted := v₀.poolExhausted, ports := v₀.ports } := by
    apply State.ext <;> simp [v₀]
  have pool₀ : v₀.pool = s.pool := by simp [v₀]
  have exhausted₀ : v₀.poolExhausted = s.poolExhausted := by simp [v₀]
  have refuses (p : Port) : (v₀.ports.get p).refused =
      bump^[(List.finRange 128).countP fun d => cellReceives s n c d && !cellAdmitted s n c d && portOf d == p] (s.ports.get p).refused := by
    rw [ports, ← counts]
  have essence₀ (p : Port) : (v₀.ports.get p).essence = (s.ports.get p).essence := by rw [ports]
  have plain (p : Port) : v₀.ports.get p = { s.ports.get p with
      essence := (v₀.ports.get p).essence, refused := (v₀.ports.get p).refused } := by rw [ports]
  rcases cases with ⟨none, e⟩ | ⟨k, some, free, e⟩ | ⟨some, full, e⟩
  · have unadmitted (d : DestNo) : cellAdmitted s n c d = false := by
      rw [Bool.eq_false_iff, ne_eq, ← member, none]
      exact List.not_mem_nil
    have ungot (d : DestNo) : cellGets s n c pick d = false := by rw [cellGets, unadmitted, Bool.false_and]
    have settled := settleReceivers_settled v₀ n ((s.sources.get n).state == .locked) [] (receivers_nodup s n c)
    have eq : replicate n c pick s = settleReceivers n ((s.sources.get n).state == .locked) [] (receivers s n c) v₀ := e
    rw [eq]
    obtain ⟨pool, exhausted, essence, refusals⟩ := settled_queues settled
    refine ⟨⟨fun _ => ⟨pool.trans pool₀, fun p => (essence p).trans (essence₀ p)⟩, fun ⟨d, hd⟩ => ?_, ?_, fun p => (refusals p).trans (refuses p)⟩, ?_⟩
    · rw [ungot] at hd
      cases hd
    · rw [if_neg]
      · exact exhausted.trans exhausted₀
      · rintro ⟨⟨d, hd⟩, -⟩
        rw [unadmitted] at hd
        cases hd
    · exact settled_switched rest₀ plain (fun d _ => by rw [ungot]; exact decide_eq_false List.not_mem_nil) settled
  · have room : (takeSlot s.pool pick).isSome = true := by rw [free]; rfl
    have gets := cellGets_room (n := n) (c := c) room
    have settled := settleReceivers_settled (storeCell k c admitted v₀) n ((s.sources.get n).state == .locked) admitted
      (receivers_nodup s n c)
    have eq : replicate n c pick s = settleReceivers n ((s.sources.get n).state == .locked) admitted (receivers s n c) (storeCell k c admitted v₀) := e
    rw [eq]
    obtain ⟨pool, exhausted, essence, refusals⟩ := settled_queues settled
    have stores (p : Port) : (storeCell k c admitted v₀).ports.get p = { v₀.ports.get p with
        essence := (v₀.ports.get p).essence ++ (admitted.filter fun d => portOf d == p).map fun d => ⟨k, channelOf d⟩ } :=
      appendEntries_get ..
    have list (p : Port) : (admitted.filter fun d => portOf d == p) = (List.finRange 128).filter fun d => cellGets s n c pick d && portOf d == p := by
      rw [ha, List.filter_filter, gets]
      exact List.filter_congr fun d _ => Bool.and_comm ..
    have size : admitted.length = (List.finRange 128).countP (cellGets s n c pick) := by rw [ha, gets, List.countP_eq_length_filter]
    have entered : (storeCell k c admitted v₀).pool = poolInsert ⟨k, admitted.length, c⟩ s.pool := by
      rw [← pool₀]
      simp [storeCell]
    refine ⟨⟨fun ungot => ?_, fun _ => ⟨k, slotFree_iff.mp (takeSlot_free free), ?_, fun p => ?_⟩, ?_, fun p => ?_⟩, ?_⟩
    · refine absurd (List.eq_nil_iff_forall_not_mem.mpr fun d hd => ?_) some
      have := (member d).mp hd
      rw [← gets, ungot d] at this
      cases this
    · rw [pool, entered, size]
    · rw [essence, stores, list, essence₀]
    · rw [if_neg fun h => (by rw [h.2] at room; cases room), exhausted]
      simp [storeCell, exhausted₀]
    · rw [refusals, stores]
      exact refuses p
    · refine settled_switched ?_ (fun p => by rw [stores, ports]) (fun d _ => ?_) settled
      · apply State.ext <;> simp [v₀, storeCell]
      · rw [gets, Bool.eq_iff_iff, decide_eq_true_iff]
        exact member d
  · have ungot := cellGets_full (n := n) (c := c) full
    let v : State := { v₀ with poolExhausted := bump s.poolExhausted }
    have settled := settleReceivers_settled v n ((s.sources.get n).state == .locked) [] (receivers_nodup s n c)
    have eq : replicate n c pick s = settleReceivers n ((s.sources.get n).state == .locked) [] (receivers s n c) v := e
    rw [eq]
    obtain ⟨pool, exhausted, essence, refusals⟩ := settled_queues settled
    refine ⟨⟨fun _ => ⟨pool.trans pool₀, fun p => (essence p).trans (essence₀ p)⟩, fun ⟨d, hd⟩ => ?_, ?_, fun p => (refusals p).trans (refuses p)⟩, ?_⟩
    · rw [ungot] at hd
      cases hd
    · obtain ⟨d, hd⟩ := List.exists_mem_of_ne_nil _ some
      rw [if_pos ⟨⟨d, (member d).mp hd⟩, full⟩]
      exact exhausted
    · refine settled_switched (v := v) ?_ plain (fun d _ => by rw [ungot]; exact decide_eq_false List.not_mem_nil) settled
      exact congrArg (fun y : State => { y with poolExhausted := bump s.poolExhausted }) rest₀

end Sys2Proof.Machine
end

section
/-! SUPPORT. The arrival of an essence cell of a defined source as a whole: received (R135, R136), tracked (R26), replicated (R91). -/

namespace Sys2Proof.Machine

/-! ## Reception -/

theorem goodCounted_rest (t : Trunk) (s : State) :
    goodCounted t s = { s with receivers := (goodCounted t s).receivers, returns := (goodCounted t s).returns } := by
  rw [goodCounted_eq, reportIf]
  split <;> rfl

theorem goodCounted_clean {t : Trunk} {s : State} (clean : (s.receivers.get t).state = .clean) : (goodCounted t s).returns = s.returns := by
  rw [goodCounted_eq, reportIf, if_neg fun h => by rw [clean] at h; cases h.1]
  rfl

/-- A good cell of a defined source is counted, tracked and replicated. -/
theorem exec_essence {t : Trunk} {c : Cell} {pick : PoolNo} {s : State} (line : s.resetLine = false) (good : c.good = true)
    (kind : c.kind = 1) (state : (s.receivers.get t).state ≠ .quarantined)
    (defined : (s.sources.get (sourceOf t c.stream)).state ≠ .undefined) : exec (.trunkCellArrival t c pick) s =
      .next (replicate (sourceOf t c.stream) c pick (trackCell (sourceOf t c.stream) c (goodCounted t s))) := by
  have essence : c.kind = Cell.essenceKind := kind
  have sources : (goodCounted t s).sources = s.sources := by rw [goodCounted_rest]
  rw [exec_trunkCellArrival_good line good, goodArrival_other state, if_pos essence, essenceArrival, sources, if_neg defined]

/-! ## Who joins (R82, R85) -/

/-- The destination joins on the cell of source `n`. -/
def cellJoins (s : State) (n : SourceNo) (c : Cell) (d : DestNo) : Bool :=
  c.frameStart && (s.dests.get d).current == some n && match (s.switching.get d).cut with
    | .steady _ _ => false
    | .draining old _ _ => old == n
    | .joining _ => true

theorem drainEnded_get (n : SourceNo) (b : Bool) (s : State) (d : DestNo) : (drainEnded n b s).switching.get d =
    match (s.switching.get d).cut with
    | .draining old _ _ =>
      if b = true ∧ old = n then { s.switching.get d with cut := .joining (cutExpiry (formatOf s d) s.houseTime) } else s.switching.get d
    | _ => s.switching.get d := by
  unfold drainEnded
  cases b with
  | false => cases (s.switching.get d).cut <;> simp
  | true =>
    rw [if_pos rfl, endDraining_get]
    cases (s.switching.get d).cut <;> simp

/-- What of a cut enters who receives a cell, in the words of the cut before draining ends. -/
theorem cellReceives_eq (s : State) (n : SourceNo) (c : Cell) (d : DestNo) : cellReceives s n c d =
    match (s.switching.get d).cut with
    | .steady m flag => m == some n && (c.frameStart || flag == .forwarding)
    | .draining old tail _ => old == n && if c.frameStart then (s.dests.get d).current == some n else tail
    | .joining _ => c.frameStart && (s.dests.get d).current == some n := by
  have dests : (drainEnded n c.frameStart s).dests = s.dests := by simp
  unfold cellReceives receives
  rw [drainEnded_get, dests]
  cases hc : (s.switching.get d).cut with
  | steady m flag =>
    dsimp only
    rw [hc]
    cases m with
    | none => rfl
    | some m =>
      dsimp only
      rw [Bool.or_comm]
      rfl
  | draining old tail x =>
    dsimp only
    cases hs : c.frameStart with
    | false => simp [hc]
    | true =>
      by_cases h : old = n <;> simp [h, hc]
  | joining x =>
    dsimp only
    rw [hc]

theorem cellCompletes_eq (s : State) (n : SourceNo) (c : Cell) (d : DestNo) : cellCompletes s n c d =
    if cellJoins s n c d then (s.active.get d).filter (fun k => k.state == .committed) else none := by
  have active : (drainEnded n c.frameStart s).active = s.active := by simp
  unfold cellCompletes completing cellJoins
  rw [cellReceives_eq, drainEnded_get, active]
  cases hc : (s.switching.get d).cut with
  | steady m flag => simp [hc]
  | draining old tail x =>
    dsimp only
    cases hs : c.frameStart with
    | false => simp [hc]
    | true => by_cases h : old = n <;> simp [h]
  | joining x => simp [hc]

section
variable {s y : State} {b : Tbl ReturnTx 8} {n : SourceNo} {c : Cell}

theorem Tracked.cut (h : Tracked s b n c y) (d : DestNo) : (y.switching.get d).cut = (sequencedSwitching s n c.seq d).cut := by
  rw [h.switching]
  split <;> rfl

/-- A sequence break moves FORWARDING destinations of the source alone. -/
theorem sequencedSwitching_other {d : DestNo} (other : (s.switching.get d).forwards n = false) :
    sequencedSwitching s n c.seq d = s.switching.get d := by
  rw [sequencedSwitching, other, Bool.and_false]
  exact if_neg Bool.false_ne_true

theorem sequencedSwitching_draining {d : DestNo} {old : SourceNo} {tail : Bool} {x : Time} (hc : (s.switching.get d).cut = .draining old tail x) :
    sequencedSwitching s n c.seq d = s.switching.get d := by
  unfold sequencedSwitching brokenSwitching
  rw [hc]
  exact ite_self _

theorem sequencedSwitching_joining {d : DestNo} {x : Time} (hc : (s.switching.get d).cut = .joining x) :
    sequencedSwitching s n c.seq d = s.switching.get d := by
  unfold sequencedSwitching brokenSwitching
  rw [hc]
  exact ite_self _

theorem Tracked.dests (h : Tracked s b n c y) : y.dests = s.dests := by rw [h.rest]

theorem Tracked.follow (h : Tracked s b n c y) : y.follow = s.follow := by rw [h.rest]

theorem Tracked.joins (h : Tracked s b n c y) (d : DestNo) : cellJoins y n c d = cellJoins s n c d := by
  unfold cellJoins
  rw [h.dests, h.cut]
  cases hc : (s.switching.get d).cut with
  | steady m flag =>
    have steady : ∃ m' flag', (sequencedSwitching s n c.seq d).cut = .steady m' flag' := by
      unfold sequencedSwitching brokenSwitching
      split
      · split
        · exact ⟨_, _, rfl⟩
        · exact ⟨m, flag, hc⟩
      · exact ⟨m, flag, hc⟩
    obtain ⟨m', flag', e⟩ := steady
    rw [e]
  | draining old tail x => rw [sequencedSwitching_draining hc, hc]
  | joining x => rw [sequencedSwitching_joining hc, hc]

theorem recomputedAt_committed (d : DestNo) (o : Option Take) :
    (recomputedAt y d o).filter (fun k => k.state == .committed) = o.filter fun k => k.state == .committed := by
  unfold recomputedAt
  cases o with
  | none => rfl
  | some k =>
    rw [Option.map_some]
    split
    · next armed => simp [Option.filter_some, armed]
    · rfl

theorem Tracked.completes (h : Tracked s b n c y) (d : DestNo) : cellCompletes y n c d = cellCompletes s n c d := by
  rw [cellCompletes_eq, cellCompletes_eq, h.joins, h.active]
  split
  · split
    · rw [recomputedAt_committed]
    · rfl
  · rfl

theorem cellCompletes_some {d : DestNo} {k : Take} : cellCompletes s n c d = some k ↔
    cellJoins s n c d = true ∧ s.active.get d = some k ∧ k.state = .committed := by
  rw [cellCompletes_eq]
  cases cellJoins s n c d <;> simp [Option.filter_eq_some_iff]

theorem cellCompletes_isSome {d : DestNo} (h : (cellCompletes s n c d).isSome = true) :
    cellJoins s n c d = true ∧ isCommitted (s.active.get d) = true := by
  obtain ⟨k, hk⟩ := Option.isSome_iff_exists.mp h
  obtain ⟨joins, active, committed⟩ := cellCompletes_some.mp hk
  exact ⟨joins, isCommitted_iff.mpr ⟨k, active, committed⟩⟩

theorem cellCompletes_none {d : DestNo} (h : cellJoins s n c d = false) : cellCompletes s n c d = none := by
  rw [cellCompletes_eq, h]
  rfl

end

/-! ## The record of the source (R26–R30, R34) -/

/-- A record that a cell takes into ACQUIRING (R27). -/
def Source.fresh (r : Source) : Source :=
  { r with state := .acquiring, inWindow := 0, outWindow := 0, lastCapture := none, frameWatch := none }

/-- A capture stored: its deviation, L and the frame watch (R28, R15). -/
def Source.stored (r : Source) (x : Format) (now : Time) : Source :=
  { r with phase := saturate32 (deviation x now), lastCapture := some now, frameWatch := some (watchTime x now) }

/-- The interval from L judged (R29, R30). -/
def Source.judged (r : Source) (x : Format) (now : Time) : Source :=
  match r.lastCapture with
  | some l => r.counted (intervalInWindow x l now)
  | none => r

theorem Source.capturedAt_eq (r : Source) (x : Format) (now : Time) : r.capturedAt x now = (r.judged x now).stored x now := by
  unfold Source.capturedAt Source.captured Source.judged Source.stored Source.counted
  obtain ⟨_, _, _, state, last⟩ := r
  cases last with
  | none => rfl
  | some l =>
    cases state <;> dsimp only <;> (repeat' split) <;> rfl

theorem Source.tracked_eq {r : Source} (x : Format) (now : Time) (c : Cell) (defined : r.state ≠ .undefined) : Source.tracked x now c r =
    let b := r.sequenced c.seq
    if r.state = .absent ∨ (r.state = .lost ∧ c.frameStart = true) then (if c.frameStart = true then b.fresh.stored x now else b.fresh)
    else if c.frameStart = true then (b.judged x now).stored x now
    else b := by
  have captures (start : c.frameStart = true) : ((r.sequenced c.seq).entered c.frameStart).captures = true :=
    Source.entered_captures (r := r.sequenced c.seq) defined start
  unfold Source.tracked
  dsimp only
  by_cases start : c.frameStart = true
  · have both : (c.frameStart && ((r.sequenced c.seq).entered c.frameStart).captures) = true := by rw [captures start, start]; rfl
    rw [if_pos both, Source.capturedAt_eq, if_pos start, if_pos start]
    by_cases enters : r.state = .absent ∨ (r.state = .lost ∧ c.frameStart = true)
    · have entered : (r.sequenced c.seq).entered c.frameStart = (r.sequenced c.seq).fresh := if_pos enters
      rw [entered, if_pos enters]
      rfl
    · have same : (r.sequenced c.seq).entered c.frameStart = r.sequenced c.seq := if_neg enters
      rw [same, if_neg enters]
  · have no : (c.frameStart && ((r.sequenced c.seq).entered c.frameStart).captures) ≠ true := fun h => start (Bool.and_eq_true_iff.mp h).1
    rw [if_neg no, if_neg start, if_neg start]
    rfl

end Sys2Proof.Machine
end

section
/-! SUPPORT. The arrival of an essence cell of a defined source as a whole: what it does to formats, takes and switching records. -/

namespace Sys2Proof.Machine

/-- The arrival of a cell of a defined source in its three stages. -/
theorem essence_arrives {t : Trunk} {c : Cell} {s : State} (pick : PoolNo) (line : s.resetLine = false) (good : c.good = true)
    (kind : c.kind = 1) (state : (s.receivers.get t).state ≠ .quarantined)
    (defined : (s.sources.get (sourceOf t c.stream)).state ≠ .undefined)
    (steers : c.frameStart = true → Steers s (sourceOf t c.stream)) : ∃ b y z,
      ((s.receivers.get t).state = .clean → b = s.returns) ∧ exec (.trunkCellArrival t c pick) s = .next z ∧
      Tracked s b (sourceOf t c.stream) c y ∧
      Queued y (sourceOf t c.stream) c pick z ∧ Switched y (sourceOf t c.stream) c (cellGets y (sourceOf t c.stream) c pick) z := by
  have rest := goodCounted_rest t s
  obtain ⟨queued, switched⟩ := replicate_replicated (s := trackCell (sourceOf t c.stream) c (goodCounted t s)) (sourceOf t c.stream) c pick
  refine ⟨(goodCounted t s).returns, _, _, goodCounted_clean, exec_essence line good kind state defined, .of_received (a := (goodCounted t s).receivers) ?_, queued, switched⟩
  rw [← rest]
  refine trackCell_tracked (by rw [rest]; exact defined) fun start => ?_
  rw [rest]
  exact steers start

theorem trackedSource_format (s : State) (n : SourceNo) (c : Cell) : (trackedSource s n c).format = (s.sources.get n).format :=
  (Source.tracked_use (sourceFormat s n) s.houseTime c (s.sources.get n)).1

theorem cellAnchors_iff {s : State} {n : SourceNo} {c : Cell} {f : FormatNo} : cellAnchors s n c f = true ↔
    c.frameStart = true ∧ (s.sources.get n).format = some f ∧ (s.formats.get f).cadence = some n ∧ (trackedSource s n c).state = .locked ∧
      (s.formats.get f).wl.toNat < (deviation (s.formats.get f) s.houseTime).natAbs := by
  rw [cellAnchors, Bool.and_eq_true, anchors_iff, trackedSource_format]

theorem cellMoves_iff {s : State} {n : SourceNo} {c : Cell} {d : DestNo} : cellMoves s n c d = true ↔
    ∃ f, (s.dests.get d).format = some f ∧ cellAnchors s n c f = true := by
  rw [cellMoves, Bool.and_eq_true, anchorMoves_iff]
  simp only [cellAnchors, Bool.and_eq_true]
  exact ⟨fun ⟨start, f, hf, ha⟩ => ⟨f, hf, start, ha⟩, fun ⟨f, hf, start, ha⟩ => ⟨start, f, hf, ha⟩⟩

theorem sourceFormat_some {s : State} {n : SourceNo} {f : FormatNo} (h : (s.sources.get n).format = some f) : sourceFormat s n = s.formats.get f := by
  rw [sourceFormat, h]

theorem watchTime_eq (x : Format) (l : Time) : watchTime x l = l + BitVec.ofNat 48 (2 * x.pi.toNat + x.wl.toNat) := by
  rw [watchTime, ← addTicks_natCast]
  push_cast
  rfl

theorem deviation_eq (x : Format) (l : Time) : deviation x l =
    (l - (x.epoch + BitVec.ofNat 48 (nearestFrame x l * x.pi.toNat + nearestFrame x l * x.pn.toNat / x.pd.toNat))).toInt := by
  rw [deviation, signedDiff, framePoint_eq, zero_add, BitVec.ofInt_natCast]
  rfl

theorem Source.sequenced_eq (r : Source) (seq : BitVec 16) : r.sequenced seq =
    { r with lastSeq := some seq, gaps := if r.breaks seq then bump r.gaps else r.gaps } := by
  unfold Source.sequenced
  rw [← Source.breaks_not]
  cases r.breaks seq <;> rfl

theorem requestDisplays_waits {ds : List DestNo} {s : State} {d : DestNo} (h : d ∈ ds) (defined : (s.dests.get d).format.isSome = true) :
    displayWaits (requestDisplays ds s).ports d := by
  induction ds generalizing s with
  | nil => cases h
  | cons e ds ih =>
    rcases List.mem_cons.mp h with rfl | inside
    · exact foldl_invariant (P := fun x : State => displayWaits x.ports d) ds (fun _ e _ h => requestDisplay_waits e h) (requestDisplay_own defined)
    · exact ih (s := requestDisplay e s) inside (by simpa using defined)

theorem mustRetarget_eq {s : State} {d : DestNo} {f : FormatNo} (format : (s.dests.get d).format = some f) (k : Take) : mustRetarget s d k =
    isDue s (addTicks (switchPlace (s.formats.get f) (s.dests.get d).offset s.margin k.target
      (if k.mode = .frames then k.frames.toNat else 0)).switchPoint (-s.margin)) := by
  have own : formatOf s d = s.formats.get f := by rw [formatOf, format]
  rw [← own]
  rfl

/-! ## Formats (R9, R17) -/

section
variable {s y z : State} {b : Tbl ReturnTx 8} {n : SourceNo} {c : Cell} {got : DestNo → Bool} {d : DestNo} {f : FormatNo} {k : Take}

/-- The format of the source after the cell. -/
theorem Tracked.format_own (h : Tracked s b n c y) (steers : Steers s n) (format : (s.sources.get n).format = some f) : y.formats.get f =
    let x := s.formats.get f
    if cellAnchors s n c f then { x with
      tracking := true, epoch := s.houseTime, epochFrame := x.epochFrame + BitVec.ofNat 32 (nearestFrame x s.houseTime),
      reanchors := bump x.reanchors }
    else if x.cadence = some n then { x with tracking := (trackedSource s n c).state == .locked }
    else x := by
  have frames := steered_frames s n (s.sources.get n).state (trackedSource s n c) f
  have format' : (trackedSource s n c).format = some f := by rw [trackedSource_format, format]
  have tracking (cadence : (s.formats.get f).cadence = some n) :
      (steered s n (s.sources.get n).state (trackedSource s n c) f).tracking = ((trackedSource s n c).state == .locked) :=
    steered_tracking format' cadence (steers f format cadence).1 (steers f format cadence).2
  rw [h.formats]
  dsimp only
  by_cases anchor : cellAnchors s n c f = true
  · obtain ⟨-, -, cadence, locked, -⟩ := cellAnchors_iff.mp anchor
    rw [if_pos anchor, if_pos anchor, frames, tracking cadence, locked]
    rfl
  · rw [if_neg anchor, if_neg anchor]
    by_cases cadence : (s.formats.get f).cadence = some n
    · rw [if_pos cadence, frames, tracking cadence]
    · rw [if_neg cadence, steered]
      simp [cadence]

/-- Every other format stands: its source is not of it (R9). -/
theorem Tracked.format_other (h : Tracked s b n c y) (law : FormatLaw s) (other : (s.sources.get n).format ≠ some f) :
    y.formats.get f = s.formats.get f := by
  have unanchored : ¬cellAnchors s n c f = true := fun h => other (cellAnchors_iff.mp h).2.1
  have foreign {sources : Tbl Source 128} {x : Format} (cadence : x.cadence = some n) (hn : (sources.get n).format ≠ some f) :
      isTracking sources f x = false := by
    unfold isTracking
    rw [cadence]
    simp [hn]
  rw [h.formats]
  dsimp only
  rw [if_neg unanchored, steered]
  split
  · next both =>
    have cadence : (s.formats.get f).cadence = some n := by simpa using (Bool.and_eq_true_iff.mp both).2
    have own : ((s.sources.set n (trackedSource s n c)).get n).format ≠ some f := by rw [Tbl.get_set_self, trackedSource_format]; exact other
    rw [foreign cadence own, ← foreign (sources := s.sources) cadence other, ← law.tracking f]
  · rfl

/-! ## Takes (R18, R71–R73) -/

theorem Arrived.follow_kept (h : Tracked s b n c y) (w : Switched y n c got z) (stays : cellJoins s n c d = false) :
    z.follow.get d = s.follow.get d := by
  rw [w.follow, cellCompletes_none (by rw [h.joins]; exact stays), h.follow]
  rfl

theorem Arrived.active_kept (h : Tracked s b n c y) (w : Switched y n c got z) (stays : cellCompletes s n c d = none)
    (unmoved : cellMoves s n c d = false ∨ isArmed (s.active.get d) = false) : z.active.get d = s.active.get d := by
  rw [w.active, h.completes, stays, h.active]
  refine (if_neg Bool.false_ne_true).trans ?_
  rcases unmoved with still | unarmed
  · rw [still]
    exact if_neg Bool.false_ne_true
  · split
    · unfold recomputedAt
      cases hk : s.active.get d with
      | none => rfl
      | some k =>
        rw [Option.map_some, if_neg]
        intro armed
        rw [isArmed_iff.mpr ⟨k, hk, armed⟩] at unarmed
        cases unarmed
    · rfl

theorem Arrived.active_armed (h : Tracked s b n c y) (w : Switched y n c got z) (active : s.active.get d = some k) (armed : k.state = .armed) :
    z.active.get d = some (if cellMoves s n c d then recomputed y d k else k) := by
  have stays : cellCompletes s n c d = none := by
    rw [cellCompletes_eq, active]
    split
    · simp [Option.filter_some, armed]
    · rfl
  rw [w.active, h.completes, stays, h.active, active]
  refine (if_neg Bool.false_ne_true).trans ?_
  unfold recomputedAt
  rw [Option.map_some, if_pos armed]
  exact (apply_ite some ..).symm

theorem Arrived.completed (h : Tracked s b n c y) (w : Switched y n c got z) (joins : cellJoins s n c d = true) (active : s.active.get d = some k)
    (committed : k.state = .committed) : z.follow.get d = none ∧ z.active.get d = (s.follow.get d).map (promotedTake y d) := by
  have completes : (cellCompletes y n c d).isSome = true := by
    rw [h.completes, cellCompletes_some.mpr ⟨joins, active, committed⟩]
    rfl
  rw [w.follow, w.active, if_pos completes, if_pos completes, h.follow]
  exact ⟨rfl, rfl⟩

/-! ## Switching records (R82, R85, R87, R90) -/

/-- The destination stands on the source, drains it or joins it. -/
def cutOn (s : State) (n : SourceNo) (d : DestNo) : Bool :=
  match (s.switching.get d).cut with
  | .steady m _ => m == some n
  | .draining old _ _ => old == n
  | .joining _ => (s.dests.get d).current == some n

theorem Arrived.switching_other (h : Tracked s b n c y) (w : Switched y n c got z) (other : cutOn s n d = false) :
    z.switching.get d = if cellMoves s n c d then realigned y d (s.switching.get d) else s.switching.get d := by
  have sequenced : sequencedSwitching s n c.seq d = s.switching.get d := by
    unfold cutOn at other
    cases hc : (s.switching.get d).cut with
    | steady m flag =>
      rw [hc] at other
      refine sequencedSwitching_other ?_
      unfold Switching.forwards
      rw [hc]
      cases m with
      | none => rfl
      | some m => simpa [Cut.forwarded] using other
    | draining old tail x => exact sequencedSwitching_draining hc
    | joining x => exact sequencedSwitching_joining hc
  have cut : (y.switching.get d).cut = (s.switching.get d).cut := by rw [h.cut, sequenced]
  have unreceived : cellReceives y n c d = false := by
    unfold cutOn at other
    rw [cellReceives_eq, cut, h.dests]
    cases hc : (s.switching.get d).cut <;> (rw [hc] at other; simp_all)
  have drained : (drainEnded n c.frameStart y).switching.get d = y.switching.get d := by
    unfold cutOn at other
    rw [drainEnded_get, cut]
    cases hc : (s.switching.get d).cut with
    | steady m flag => rfl
    | joining x => rfl
    | draining old tail x =>
      have off : old ≠ n := by
        rw [hc] at other
        simpa using other
      exact if_neg fun both => off both.2
  rw [w.switching, drained, unreceived, h.switching, sequenced]
  exact if_neg Bool.false_ne_true

/-! ## What is told (R33, R17) -/

/-- A change of lock posts a DISPLAY entry for every defined destination that forwards the source. -/
theorem Arrived.lock_shown (h : Tracked s b n c y) (w : Switched y n c got z) (lock : lockChanges (s.sources.get n).state (trackedSource s n c).state = true)
    (defined : (s.dests.get d).format.isSome = true) (forwards : (s.switching.get d).forwards n = true) : displayWaits z.ports d := by
  refine w.shown d ?_
  rw [h.ports, if_pos lock]
  exact requestDisplays_waits (by simpa [destsForwarding] using forwards) defined

theorem lockChanges_iff {p q : SourceState} : lockChanges p q = true ↔ ¬(p = .locked ↔ q = .locked) := by
  unfold lockChanges
  cases p <;> cases q <;> decide

end

end Sys2Proof.Machine
end

section
/-! SUPPORT. O26: what an essence cell does to its source, its format and what carries the format. -/

namespace Sys2Proof.Machine

/-- The counts toward lock and toward fallback, written out (R29, R30). -/
theorem Source.judged_eq (r : Source) {x : Format} {now : Time} {inside : Time → Prop} [DecidablePred inside]
    (window : ∀ l, intervalInWindow x l now = true ↔ inside l) : r.judged x now =
      match r.state, r.lastCapture with
      | .acquiring, some l =>
        if ¬inside l then { r with inWindow := 0 }
        else if r.inWindow + 1 = 3 then { r with state := .locked, inWindow := 3, outWindow := 0 }
        else { r with inWindow := r.inWindow + 1 }
      | .locked, some l =>
        if inside l then { r with outWindow := 0 }
        else if r.outWindow + 1 = 2 then { r with state := .acquiring, inWindow := 0, outWindow := 0 }
        else { r with outWindow := r.outWindow + 1 }
      | _, _ => r := by
  unfold Source.judged Source.counted
  cases hl : r.lastCapture with
  | none => cases r.state <;> rfl
  | some l =>
    cases hs : r.state with
    | undefined | absent | lost => rfl
    | acquiring | locked =>
      dsimp only
      by_cases fits : inside l
      · simp [(window l).mpr fits, fits]
      · simp [Bool.eq_false_iff.mpr fun h => fits ((window l).mp h), fits]

/-- Settles O26, first that a third interval in window locks, then the three stages of an arrival one after the other. -/
theorem sourceFollowsItsCells : Obligations.SourceFollowsItsCells := by
  unfold Obligations.SourceFollowsItsCells
  refine ⟨?_, ?_⟩
  · intro t c pick s l f line good kind start state n r x acquiring two capture format inside next
    have defined : r.state ≠ .undefined := by rw [acquiring]; decide
    refine ⟨_, exec_essence line good kind state defined, ?_⟩
    have rest := goodCounted_rest t s
    generalize goodCounted t s = u at rest
    have sources : u.sources = s.sources := by rw [rest]
    have own : sourceFormat u n = x := by rw [sourceFormat_some (f := f) (by rw [sources]; exact format), rest]
    have now : u.houseTime = s.houseTime := by rw [rest]
    have kept : (replicate n c pick (trackCell n c u)).sources = (trackCell n c u).sources := by simp
    rw [kept, trackCell_sources, sources, own, now, Tbl.modify_eq_set]
    refine congrArg _ ?_
    have unbroken : r.breaks c.seq = false := by
      unfold Source.breaks
      cases hq : r.lastSeq with
      | none => rfl
      | some q => simp [next q hq]
    have later : ¬(r.state = .absent ∨ (r.state = .lost ∧ c.frameStart = true)) := by
      rw [acquiring]
      rintro (h | ⟨h, -⟩) <;> cases h
    have judged : (r.sequenced c.seq).judged x s.houseTime = { r.sequenced c.seq with state := .locked, inWindow := 3, outWindow := 0 } := by
      have last : (r.sequenced c.seq).lastCapture = some l := capture
      have third : (r.sequenced c.seq).inWindow + 1 = 3 := congrArg (· + 1) two
      have there : (r.sequenced c.seq).state = .acquiring := acquiring
      unfold Source.judged
      rw [last]
      dsimp only
      rw [inside]
      unfold Source.counted
      rw [there]
      dsimp only
      rw [if_pos rfl, if_pos third]
    rw [Source.tracked_eq x s.houseTime c defined]
    dsimp only
    rw [if_neg later, if_pos start, judged, Source.sequenced_eq, unbroken]
    rfl
  · intro t c pick s f line good kind state law n r x now defined format breaks base fresh g age j dev captured inside counted r' anchors x' moved p
      late joins
    obtain ⟨b, y, z, clean, run, tracked, queued, switched⟩ :=
      essence_arrives pick line good kind state defined fun _ => law.steers n
    have devEq : deviation x now = dev := deviation_eq x now
    have sequenced : r.sequenced c.seq = base := Source.sequenced_eq r c.seq
    have judges : base.judged x now = counted := Source.judged_eq base (intervalInWindow_iff x · now)
    have source : trackedSource s n c = r' := by
      have own : trackedSource s n c = Source.tracked x now c r := by rw [trackedSource, sourceFormat_some format]
      have stores (b : Source) : b.stored x now = captured b := by
        unfold Source.stored
        rw [devEq, watchTime_eq]
        rfl
      rw [own, Source.tracked_eq x now c defined]
      dsimp only
      rw [sequenced, judges, stores, stores]
      rfl
    have anchoring : cellAnchors s n c f = true ↔ anchors := by
      rw [cellAnchors_iff, source, devEq]
      exact ⟨fun ⟨start, _, rest⟩ => ⟨start, rest⟩, fun ⟨start, rest⟩ => ⟨start, format, rest⟩⟩
    have only (h : FormatNo) (other : h ≠ f) : cellAnchors s n c h = false := by
      rw [Bool.eq_false_iff, ne_eq, cellAnchors_iff]
      rintro ⟨-, format', -⟩
      exact other (Option.some.inj (format'.symm.trans format))
    have moves (d : DestNo) : cellMoves s n c d = true ↔ moved d := by
      refine cellMoves_iff.trans ⟨fun ⟨h, hd, ha⟩ => ?_, fun ⟨ha, hd⟩ => ⟨f, hd, anchoring.mpr ha⟩⟩
      by_cases e : h = f
      · exact ⟨anchoring.mp (e ▸ ha), e ▸ hd⟩
      · rw [only h e] at ha
        cases ha
    have joining (d : DestNo) : cellJoins s n c d = true ↔ joins d := by
      unfold cellJoins joins
      rw [Bool.and_eq_true, Bool.and_eq_true, beq_iff_eq, and_assoc]
      refine and_congr_right fun _ => and_congr_right fun _ => ?_
      cases (s.switching.get d).cut <;> simp
    have parts (d : DestNo) (h : ¬joins d) : cellJoins s n c d = false := Bool.eq_false_iff.mpr fun j => h ((joining d).mp j)
    have own : y.formats.get f = x' := by
      refine (tracked.format_own (law.steers n) format).trans ?_
      show (if cellAnchors s n c f = true then _ else if x.cadence = some n then { x with tracking := (trackedSource s n c).state == .locked } else x) = _
      rw [source]
      exact if_congr anchoring rfl rfl
    have formats : y.formats = s.formats.set f x' := by
      refine Tbl.ext_get fun g => ?_
      rw [Tbl.get_set]
      split
      · next e => rw [← e, own]
      · next other => exact tracked.format_other law fun h => other (Option.some.inj (format.symm.trans h))
    have dests : y.dests = s.dests := tracked.dests
    have time : y.houseTime = now := by rw [tracked.rest]
    have margin : y.margin = s.margin := by rw [tracked.rest]
    have rest := switched.rest
    have yrest := tracked.rest
    rw [source] at yrest
    refine ⟨z, run, ?_, fun d away => ?_, fun d empty => ?_, fun d k active armed => ?_, fun d away => ?_, fun change d present forwards => ?_, fun cleanly quiet => ?_⟩
    · rw [rest, ← formats]
      rw [yrest]
    · refine ⟨Arrived.follow_kept tracked switched (parts d away), fun k active unarmed => ?_⟩
      refine (Arrived.active_kept tracked switched (cellCompletes_none (parts d away)) (.inr ?_)).trans active
      rw [active]
      simpa [isArmed] using unarmed
    · refine (Arrived.active_kept tracked switched ?_ (.inr (by rw [empty]; rfl))).trans empty
      rw [cellCompletes_eq, empty]
      exact ite_self _
    · refine (Arrived.active_armed tracked switched active armed).trans (congrArg some ?_)
      by_cases move : moved d
      · have here : (y.dests.get d).format = some f := by rw [dests]; exact move.2
        rw [if_pos ((moves d).mpr move), if_neg (not_not.mpr move), recomputed_armed here armed, own, dests, margin, time]
        have due : isDue y = isDue s := by unfold isDue; rw [time]
        rw [due]
      · rw [if_neg fun h => move ((moves d).mp h), if_pos move]
    · have other : cutOn s n d = false := by
        unfold cutOn
        cases hc : (s.switching.get d).cut <;> (rw [hc] at away; simpa using away)
      rw [Arrived.switching_other tracked switched other]
      by_cases move : moved d
      · have here : (y.dests.get d).format = some f := by rw [dests]; exact move.2
        rw [if_pos ((moves d).mpr move), if_pos move]
        refine ⟨rfl, ?_⟩
        unfold realigned
        simp only [pointFrom_format here, own, dests, time]
      · rw [if_neg fun h => move ((moves d).mp h), if_neg move]
        exact ⟨rfl, rfl⟩
    · refine Arrived.lock_shown tracked switched ?_ present forwards
      rw [lockChanges_iff, source]
      exact change
    · intro told armed retargeted
      have still (d : DestNo) : cellCompletes y n c d = none := by
        rw [tracked.completes]
        refine cellCompletes_none (parts d fun ⟨_, current, cut⟩ => ?_)
        have steady := quiet d current
        cases hc : (s.switching.get d).cut <;> rw [hc] at cut steady
        · exact cut
        · cases steady
        · cases steady
      have ended : z.returns = y.returns := (switched.quiet still).2
      have untouched : ({ s with returns := b } : State) = s := by rw [clean cleanly]
      have telling : lockTold { s with returns := b } n (s.sources.get n).state (trackedSource s n c) = told := by
        have carried : r'.format = some f := by rw [← source, trackedSource_format]; exact format
        rw [untouched, source, lockTold, carried]
        by_cases change : lockChanges (s.sources.get n).state r'.state = true
        · rw [if_pos change]
          exact (if_neg (lockChanges_iff.mp change)).symm
        · rw [if_neg change]
          exact (if_pos (not_not.mp fun h => change (lockChanges_iff.mpr h))).symm
      have retargets (d : DestNo) (k : Take) (here : (s.dests.get d).format = some f) : mustRetarget y d k = late d k := by
        have due : isDue y = isDue s := by unfold isDue; rw [time]
        rw [mustRetarget_eq (by rw [dests]; exact here), own, dests, margin, due]
      rw [ended]
      by_cases anchor : anchors
      · rw [if_pos anchor, tracked.anchored f (anchoring.mpr anchor), telling]
        have moved : x'.epochFrame = frameNumber x (nearestFrame x now) := by
          have after : x' = _ := if_pos anchor
          rw [after]
          rfl
        have report : anchorReport s y f = .anchor f dev now x'.epochFrame armed retargeted := by
          have counts : ((List.finRange 128).countP fun d =>
              (s.dests.get d).format == some f && (s.active.get d).any fun k => k.state == .armed && mustRetarget y d k) = retargeted := by
            refine List.countP_congr fun d _ => ?_
            cases here : (s.dests.get d).format == some f with
            | false => simp
            | true => simp only [retargets d _ (beq_iff_eq.mp here)]
          rw [anchorReport, devEq, moved, counts]
        rw [report]
      · rw [if_neg anchor]
        refine (tracked.unanchored fun g => ?_).trans (congrArg State.returns telling)
        by_cases e : g = f
        · rw [e]
          exact Bool.eq_false_iff.mpr fun h => anchor (anchoring.mp h)
        · exact only g e

end Sys2Proof.Machine
end

section
/-! SUPPORT. O25: who receives an essence cell, what is queued, and every switching record and take after it. -/

namespace Sys2Proof.Machine

section
variable {s y z : State} {b : Tbl ReturnTx 8} {n : SourceNo} {c : Cell} {got : DestNo → Bool} {d : DestNo} {f : FormatNo} {k : Take}

/-! ## Frame points after the cell (R17) -/

theorem Tracked.now (h : Tracked s b n c y) : y.houseTime = s.houseTime := by rw [h.rest]

/-- A format keeps its cadence. -/
theorem Tracked.cadence (h : Tracked s b n c y) (d : DestNo) : (formatOf y d).pi = (formatOf s d).pi ∧ (formatOf y d).wl = (formatOf s d).wl := by
  unfold formatOf
  rw [h.dests]
  cases (s.dests.get d).format with
  | none => exact ⟨rfl, rfl⟩
  | some f =>
    dsimp only
    rw [h.formats, steered_frames]
    dsimp only
    split <;> exact ⟨rfl, rfl⟩

/-- A destination whose format is not re-anchored keeps its frame points. -/
theorem Tracked.point_unmoved (h : Tracked s b n c y) (still : cellMoves s n c d = false) (x : Time) : pointFrom y d x = pointFrom s d x := by
  have frames : SameFrames (formatOf s d) (formatOf y d) := by
    unfold formatOf
    rw [h.dests]
    cases hf : (s.dests.get d).format with
    | none => exact ⟨rfl, rfl, rfl, rfl, rfl⟩
    | some f =>
      have unanchored : ¬cellAnchors s n c f = true := fun ha => by
        rw [cellMoves_iff.mpr ⟨f, hf, ha⟩] at still
        cases still
      dsimp only
      rw [h.formats]
      dsimp only
      rw [if_neg unanchored, steered_frames]
      exact ⟨rfl, rfl, rfl, rfl, rfl⟩
  unfold pointFrom
  rw [firstPoint_congr frames, h.dests]

/-! ## Who receives the cell (R91–R94) -/

theorem Tracked.pool (h : Tracked s b n c y) : y.pool = s.pool := by rw [h.rest]

theorem Tracked.essence (h : Tracked s b n c y) (p : Port) : (y.ports.get p).essence = (s.ports.get p).essence ∧
    (y.ports.get p).refused = (s.ports.get p).refused := by
  rw [h.ports]
  split
  · rw [requestDisplays_get]
    exact foldl_invariant (P := fun x : DropPort => x.essence = (s.ports.get p).essence ∧ x.refused = (s.ports.get p).refused) _
      (fun x e _ hx => by simpa using hx) ⟨rfl, rfl⟩
  · exact ⟨rfl, rfl⟩

/-- Who receives the cell, read before it. -/
theorem Tracked.receives (h : Tracked s b n c y) (d : DestNo) : cellReceives y n c d =
    match (s.switching.get d).cut with
    | .steady m flag => m == some n && (c.frameStart || flag == .forwarding && !(s.sources.get n).breaks c.seq)
    | .draining old tail _ => old == n && if c.frameStart then (s.dests.get d).current == some n else tail
    | .joining _ => c.frameStart && (s.dests.get d).current == some n := by
  rw [cellReceives_eq, h.cut, h.dests]
  cases hc : (s.switching.get d).cut with
  | steady m flag =>
    unfold sequencedSwitching brokenSwitching
    by_cases own : m = some n
    · subst own
      have forwards : (s.switching.get d).forwards n = true := by simp [Switching.forwards, hc, Cut.forwarded]
      rw [forwards, Bool.and_true]
      cases (s.sources.get n).breaks c.seq <;> cases flag <;> simp [hc, waitsLater]
    · have off : (m == some n) = false := beq_false_of_ne own
      have other : (s.switching.get d).forwards n = false := by
        unfold Switching.forwards
        rw [hc]
        cases m with
        | none => rfl
        | some m => simpa [Cut.forwarded] using off
      rw [other, Bool.and_false, if_neg Bool.false_ne_true, hc]
      dsimp only
      rw [off]
      rfl
  | draining old tail x => rw [sequencedSwitching_draining hc, hc]
  | joining x => rw [sequencedSwitching_joining hc, hc]

theorem Tracked.room (h : Tracked s b n c y) (d : DestNo) : hasRoom y (receivers y n c) d = decide ((s.ports.get (portOf d)).essence.length +
    ((List.finRange 128).countP fun e => cellReceives y n c e && portOf e == portOf d && decide (e < d)) < 512) := by
  have count : servedBy (portOf d) ((receivers y n c).filter fun e => decide (e < d)) =
      (List.finRange 128).countP fun e => cellReceives y n c e && portOf e == portOf d && decide (e < d) := by
    rw [servedBy, receivers_eq, List.filter_filter, List.countP_filter]
    refine List.countP_congr fun e _ => ?_
    cases cellReceives y n c e <;> cases portOf e == portOf d <;> simp
  rw [hasRoom, count, (h.essence _).1]
  rfl

/-! ## The switching record of every destination (R34, R82, R85, R87, R90) -/

/-- The switching record of a destination after the cell, where nothing but a re-anchoring touches it. -/
def keptSwitching (s y : State) (n : SourceNo) (c : Cell) (d : DestNo) : Switching :=
  if cellMoves s n c d then realigned y d (s.switching.get d) else s.switching.get d

/-- The time a period after now from which a fill timer starts (R87). -/
def laterPoint (s y : State) (d : DestNo) : Time := pointFrom y d (s.houseTime + BitVec.ofNat 48 ((formatOf s d).pi.toNat + 1))

theorem waitsLater_defined {w : Switching} (defined : (s.dests.get d).format.isSome = true) : waitsLater s n d w =
    { cut := .steady (some n) .waiting, fill := some (laterPoint s s d) } := by
  unfold waitsLater laterPoint
  rw [if_pos defined, ← addTicks_natCast]
  push_cast
  rfl

theorem Tracked.waitsLater (h : Tracked s b n c y) {w : Switching} (defined : (s.dests.get d).format.isSome = true) : waitsLater y n d w =
    { cut := .steady (some n) .waiting, fill := some (laterPoint s y d) } := by
  rw [waitsLater_defined (by rw [h.dests]; exact defined)]
  unfold laterPoint
  rw [h.now, (h.cadence d).1]

/-- A destination on a source is defined. -/
theorem SwitchLaw.defined (law : SwitchLaw s) (current : (s.dests.get d).current = some n) : (s.dests.get d).format.isSome = true := by
  rw [Option.isSome_iff_ne_none]
  intro none
  rw [(law.undefined d none).1] at current
  cases current

theorem SwitchLaw.defined_inProgress (law : SwitchLaw s) (cut : (s.switching.get d).cut.inProgress = true) :
    (s.dests.get d).format.isSome = true := steadyFits_inProgress cut ▸ law.steady d

/-- A destination FORWARDING the source is on it, and its fill timer inactive. -/
theorem SwitchLaw.forwarding (law : SwitchLaw s) (hc : (s.switching.get d).cut = .steady (some n) .forwarding) :
    (s.dests.get d).format.isSome = true ∧ s.switching.get d = { cut := .steady (some n) .forwarding, fill := none } := by
  obtain ⟨current, -, fill⟩ := (steadyFits_steady hc).mp (law.steady d)
  have inactive : (s.switching.get d).fill = none := by
    rw [← Option.isNone_iff_eq_none, ← Option.not_isSome, fill]
    simp
  refine ⟨law.defined current.symm, ?_⟩
  rw [← hc, ← inactive]

theorem keptSwitching_cut : (keptSwitching s y n c d).cut = (s.switching.get d).cut := by
  unfold keptSwitching
  split <;> rfl

/-- A destination that no break touches is kept by the Source Tracker. -/
theorem Tracked.kept (h : Tracked s b n c y) (unbroken : sequencedSwitching s n c.seq d = s.switching.get d) :
    y.switching.get d = keptSwitching s y n c d := by
  rw [h.switching, unbroken]
  rfl

section
variable (h : Tracked s b n c y) (w : Switched y n c got z)
include h w

theorem Arrived.steady_other {m : Option SourceNo} {flag : FwdFlag} (hc : (s.switching.get d).cut = .steady m flag) (other : m ≠ some n) :
    z.switching.get d = keptSwitching s y n c d :=
  Arrived.switching_other h w (by rw [cutOn, hc]; exact beq_false_of_ne other)

theorem Arrived.waiting (hc : (s.switching.get d).cut = .steady (some n) .waiting) (receives : got d = true → c.frameStart = true) :
    z.switching.get d = if got d then { cut := .steady (some n) .forwarding, fill := none } else keptSwitching s y n c d := by
  have kept : y.switching.get d = keptSwitching s y n c d := h.kept (by
    unfold sequencedSwitching brokenSwitching
    rw [hc]
    exact ite_self _)
  have cut : (keptSwitching s y n c d).cut = .steady (some n) .waiting := keptSwitching_cut.trans hc
  have drained : (drainEnded n c.frameStart y).switching.get d = keptSwitching s y n c d := by
    rw [drainEnded_get, kept, cut]
  rw [w.switching, drained, h.receives, hc]
  cases hg : got d with
  | true =>
    rw [receives hg]
    simp [settledSwitching, cut]
  | false => cases c.frameStart <;> simp [settledSwitching, cut]

theorem Arrived.forwarding (law : SwitchLaw s) (hc : (s.switching.get d).cut = .steady (some n) .forwarding)
    (receives : got d = true → cellReceives y n c d = true) :
    z.switching.get d = if got d then { cut := .steady (some n) .forwarding, fill := none } else
      { cut := .steady (some n) .waiting,
        fill := some (if (s.sources.get n).breaks c.seq = true ∧ cellMoves s n c d = true then pointFrom y d (s.houseTime + 1)
          else laterPoint s y d) } := by
  obtain ⟨defined, stands⟩ := law.forwarding hc
  have forwards : (s.switching.get d).forwards n = true := by simp [Switching.forwards, hc, Cut.forwarded]
  have received := h.receives d
  rw [hc] at received
  dsimp only at received
  rw [beq_self_eq_true, beq_self_eq_true, Bool.true_and, Bool.true_and] at received
  cases broken : (s.sources.get n).breaks c.seq with
  | false =>
    have kept : y.switching.get d = { cut := .steady (some n) .forwarding, fill := none } := by
      have plain : sequencedSwitching s n c.seq d = s.switching.get d := by
        rw [sequencedSwitching, broken]
        rfl
      rw [h.kept plain, keptSwitching, stands]
      exact ite_self _
    have drained : (drainEnded n c.frameStart y).switching.get d = { cut := .steady (some n) .forwarding, fill := none } := by
      rw [drainEnded_get, kept]
    have all : cellReceives y n c d = true := by rw [received, broken]; simp
    rw [w.switching, drained, all]
    dsimp only
    rw [if_pos rfl, settledSwitching]
    dsimp only
    rw [h.waitsLater defined]
    simp
  | true =>
    let fill := if cellMoves s n c d = true then pointFrom y d (s.houseTime + 1) else laterPoint s y d
    have waits : y.switching.get d = { cut := .steady (some n) .waiting, fill := some fill } := by
      have breaks : sequencedSwitching s n c.seq d = { cut := .steady (some n) .waiting, fill := some (laterPoint s s d) } := by
        rw [sequencedSwitching, broken, forwards, brokenSwitching, hc]
        exact waitsLater_defined defined
      rw [h.switching, breaks]
      unfold fill
      cases still : cellMoves s n c d with
      | true =>
        rw [← h.now]
        rfl
      | false =>
        have same : laterPoint s s d = laterPoint s y d := (h.point_unmoved still _).symm
        rw [if_neg Bool.false_ne_true, if_neg Bool.false_ne_true, same]
    have drained : (drainEnded n c.frameStart y).switching.get d = { cut := .steady (some n) .waiting, fill := some fill } := by
      rw [drainEnded_get, waits]
    have all : cellReceives y n c d = c.frameStart := by rw [received, broken]; simp
    rw [all] at receives
    have timer : (if true = true ∧ cellMoves s n c d = true then pointFrom y d (s.houseTime + 1) else laterPoint s y d) = fill :=
      if_congr (by simp) rfl rfl
    rw [w.switching, drained, all, timer]
    dsimp only
    cases hg : got d with
    | true =>
      rw [if_pos (receives hg)]
      rfl
    | false => exact ite_self _

theorem Arrived.joining {x : Time} (law : SwitchLaw s) (hc : (s.switching.get d).cut = .joining x) :
    z.switching.get d = if cellJoins s n c d then
      (if got d then { cut := .steady (some n) .forwarding, fill := none } else { cut := .steady (some n) .waiting, fill := some (laterPoint s y d) })
      else keptSwitching s y n c d := by
  have kept := h.kept (sequencedSwitching_joining hc)
  have cut : (keptSwitching s y n c d).cut = .joining x := keptSwitching_cut.trans hc
  have drained : (drainEnded n c.frameStart y).switching.get d = keptSwitching s y n c d := by
    rw [drainEnded_get, kept, cut]
  have joins : cellReceives y n c d = cellJoins s n c d := by
    rw [h.receives, cellJoins, hc]
    exact (Bool.and_true _).symm
  rw [w.switching, drained, joins]
  refine if_congr Iff.rfl ?_ rfl
  rw [settledSwitching, cut]
  exact if_congr Iff.rfl rfl (h.waitsLater (law.defined_inProgress (by rw [hc]; rfl)))

theorem Arrived.draining {tail : Bool} {x : Time} (law : SwitchLaw s) (hc : (s.switching.get d).cut = .draining n tail x) :
    z.switching.get d = if c.frameStart = true then
        if cellJoins s n c d then
          (if got d then { cut := .steady (some n) .forwarding, fill := none } else { cut := .steady (some n) .waiting, fill := some (laterPoint s y d) })
        else { keptSwitching s y n c d with
          cut := .joining (s.houseTime + BitVec.ofNat 48 ((formatOf s d).pi.toNat + (formatOf s d).wl.toNat)) }
      else if tail = true ∧ got d = false then { keptSwitching s y n c d with cut := .draining n false x }
      else keptSwitching s y n c d := by
  have kept := h.kept (sequencedSwitching_draining hc)
  have cut : (keptSwitching s y n c d).cut = .draining n tail x := keptSwitching_cut.trans hc
  have received := h.receives d
  rw [hc] at received
  dsimp only at received
  rw [beq_self_eq_true, Bool.true_and] at received
  cases start : c.frameStart with
  | true =>
    have expiry : cutExpiry (formatOf y d) y.houseTime = s.houseTime + BitVec.ofNat 48 ((formatOf s d).pi.toNat + (formatOf s d).wl.toNat) := by
      rw [cutExpiry, (h.cadence d).1, (h.cadence d).2, h.now, ← addTicks_natCast]
      push_cast
      rfl
    have drained : (drainEnded n c.frameStart y).switching.get d = { keptSwitching s y n c d with
        cut := .joining (s.houseTime + BitVec.ofNat 48 ((formatOf s d).pi.toNat + (formatOf s d).wl.toNat)) } := by
      rw [drainEnded_get, kept, cut, expiry]
      exact if_pos ⟨start, rfl⟩
    have joins : cellReceives y n c d = cellJoins s n c d := by
      rw [received, cellJoins, hc, start]
      simp
    rw [← start, w.switching, drained, joins, start, if_pos rfl]
    refine if_congr Iff.rfl ?_ rfl
    rw [settledSwitching]
    exact if_congr Iff.rfl rfl (h.waitsLater (law.defined_inProgress (by rw [hc]; rfl)))
  | false =>
    have drained : (drainEnded n c.frameStart y).switching.get d = keptSwitching s y n c d := by
      rw [drainEnded_get, kept, cut, start]
      exact if_neg fun both => Bool.false_ne_true both.1
    have tails : cellReceives y n c d = tail := by rw [received, start]; rfl
    have settled := w.switching d
    dsimp only at settled
    rw [drained, tails] at settled
    rw [if_neg Bool.false_ne_true, settled]
    cases tail with
    | false => simp
    | true => cases hg : got d <;> simp [settledSwitching, cut]

end

end

end Sys2Proof.Machine
end

section
/-! SUPPORT. O25, the plain cell: in sequence, no frame start, with room everywhere. -/

namespace Sys2Proof.Machine

/-- A list of destinations in which each port finds room admits every member (R92). -/
theorem hasRoom_of_all {s : State} {l : List DestNo} (ordered : l.Pairwise (· < ·)) {d : DestNo} (inside : d ∈ l)
    (room : (s.ports.get (portOf d)).essence.length + servedBy (portOf d) l ≤ 512) : hasRoom s l d = true := by
  obtain ⟨pre, post, e⟩ := List.append_of_mem inside
  have before := filter_before ordered e
  have more : servedBy (portOf d) pre + 1 ≤ servedBy (portOf d) l := by
    rw [e, servedBy, servedBy, List.countP_append, List.countP_cons, beq_self_eq_true, if_pos rfl]
    omega
  rw [hasRoom, before]
  exact decide_eq_true (show _ < 512 by omega)

section
variable {s y z : State} {b : Tbl ReturnTx 8} {n : SourceNo} {c : Cell} {pick : PoolNo} {got : DestNo → Bool} {d : DestNo}

/-- A source neither ABSENT nor UNDEFINED keeps its record but for the sequence number over a cell in sequence that is no frame start. -/
theorem trackedSource_plain (start : c.frameStart = false) (defined : (s.sources.get n).state ≠ .undefined)
    (present : (s.sources.get n).state ≠ .absent) (unbroken : (s.sources.get n).breaks c.seq = false) :
    trackedSource s n c = { s.sources.get n with lastSeq := some c.seq } := by
  have stays : ¬((s.sources.get n).state = .absent ∨ ((s.sources.get n).state = .lost ∧ c.frameStart = true)) := by
    rw [start]
    rintro (h | ⟨-, h⟩)
    · exact present h
    · cases h
  rw [trackedSource, Source.tracked_eq _ _ _ defined]
  dsimp only
  rw [if_neg stays, if_neg (by rw [start]; exact Bool.false_ne_true), Source.sequenced_eq, unbroken]
  rfl

/-- Such a cell changes nothing but the record of the source. -/
theorem Tracked.plain (h : Tracked s b n c y) (start : c.frameStart = false) (unbroken : (s.sources.get n).breaks c.seq = false)
    (same : trackedSource s n c = { s.sources.get n with lastSeq := some c.seq }) : y = { s with
      receivers := y.receivers, returns := y.returns, sources := s.sources.set n { s.sources.get n with lastSeq := some c.seq } } := by
  have stays : lockChanges (s.sources.get n).state (trackedSource s n c).state = false := by
    rw [same]
    exact bne_self_eq_false _
  have formats : y.formats = s.formats := Tbl.ext_get fun f => by
    rw [h.formats, cellAnchors, start, steered, stays]
    rfl
  have ports : y.ports = s.ports := by
    rw [h.ports, stays]
    rfl
  have still (d : DestNo) : cellMoves s n c d = false := by rw [cellMoves, start]; rfl
  have switching : y.switching = s.switching := Tbl.ext_get fun d => by
    rw [h.switching, still, sequencedSwitching, unbroken]
    rfl
  have active : y.active = s.active := Tbl.ext_get fun d => by
    rw [h.active, still]
    rfl
  have rest := h.rest
  rw [formats, ports, switching, active, same] at rest
  exact rest

/-- A cell that is no frame start, queued for each of its receivers, moves no switching record. -/
theorem Switched.switching_plain (w : Switched y n c got z) (start : c.frameStart = false)
    (gets : ∀ d, cellReceives y n c d = true → got d = true) : z.switching = y.switching := by
  refine Tbl.ext_get fun d => ?_
  have drained : drainEnded n c.frameStart y = y := by rw [start]; rfl
  rw [w.switching, drained]
  dsimp only
  split
  · next receives =>
    rw [gets d receives]
    rw [cellReceives_eq, start] at receives
    unfold settledSwitching
    cases hc : (y.switching.get d).cut with
    | steady m flag => rw [hc] at receives; cases m <;> cases flag <;> simp_all
    | draining => rfl
    | joining x => rw [hc] at receives; cases receives
  · rfl

end

/-- The first half of O25: a plain cell is stored once with an entry per receiver, or not at all. -/
theorem plainEssence_replicated {t : Trunk} {c : Cell} (pick : PoolNo) {s : State} (line : s.resetLine = false) (good : c.good = true)
    (kind : c.kind = 1) (start : c.frameStart = false) (state : (s.receivers.get t).state ≠ .quarantined)
    {n : SourceNo} (source : n = sourceOf t c.stream) {ds : List DestNo} (receiving : ds = receivingSet s n false)
    (defined : (s.sources.get n).state ≠ .undefined) (present : (s.sources.get n).state ≠ .absent)
    (next : ∀ q, (s.sources.get n).lastSeq = some q → c.seq = q + 1)
    (room : ∀ p, (s.ports.get p).essence.length + servedBy p ds ≤ 512) (free : s.pool.length < 2048)
    (distinct : (s.pool.map (·.number)).Nodup) : ∃ s', exec (.trunkCellArrival t c pick) s = .next s' ∧
      s' = { s with
        receivers := s'.receivers, returns := s'.returns, sources := s.sources.set n { s.sources.get n with lastSeq := some c.seq },
        pool := s'.pool, ports := s'.ports } ∧
      (ds = [] → s'.pool = s.pool ∧ s'.ports = s.ports) ∧
      (ds ≠ [] → ∃ k, (∀ x ∈ s.pool, x.number ≠ k) ∧ s'.pool = poolInsert ⟨k, ds.length, c⟩ s.pool ∧
        ∀ p, s'.ports.get p = { s.ports.get p with
          essence := (s.ports.get p).essence ++ (ds.filter fun d => portOf d == p).map fun d => ⟨k, channelOf d⟩ }) := by
  subst source
  generalize hn : sourceOf t c.stream = n at *
  have unbroken : (s.sources.get n).breaks c.seq = false := by
    unfold Source.breaks
    cases hq : (s.sources.get n).lastSeq with
    | none => rfl
    | some q => simp [next q hq]
  obtain ⟨b, y, z, -, run, tracked, queued, switched⟩ := essence_arrives pick line good kind state (by rw [hn]; exact defined)
    fun h => absurd (start.symm.trans h) Bool.false_ne_true
  rw [hn] at tracked queued switched
  have yrest := tracked.plain start unbroken (trackedSource_plain start defined present unbroken)
  have drained : drainEnded n c.frameStart y = y := by rw [start]; rfl
  have receivers : receivers y n c = ds := by
    rw [Machine.receivers, drained, receiving, start, yrest]
    rfl
  have member (d : DestNo) : cellReceives y n c d = true ↔ d ∈ ds := by rw [← mem_receivers, receivers]
  have ports : y.ports = s.ports := by rw [yrest]
  have pool : y.pool = s.pool := by rw [yrest]
  have admitted (d : DestNo) : cellAdmitted y n c d = cellReceives y n c d := by
    rw [cellAdmitted]
    cases h : cellReceives y n c d with
    | false => rfl
    | true =>
      rw [Bool.true_and, hasRoom_of_all (receivers_ordered y n c) (mem_receivers.mpr h)]
      rw [receivers, ports]
      exact room _
  have slot : (takeSlot y.pool pick).isSome = true := by
    rw [pool]
    exact (takeSlot_isSome distinct pick).mpr free
  have gets (d : DestNo) : cellGets y n c pick d = cellReceives y n c d := by rw [cellGets_room slot, admitted]
  have joins (d : DestNo) : cellCompletes y n c d = none := cellCompletes_none (by rw [cellJoins, start]; rfl)
  have switching : z.switching = y.switching := switched.switching_plain start fun d h => (gets d).trans h
  have active : z.active = y.active := Tbl.ext_get fun d => by rw [switched.active, joins]; rfl
  have follow : z.follow = y.follow := Tbl.ext_get fun d => by rw [switched.follow, joins]; rfl
  have exhausted : z.poolExhausted = y.poolExhausted := by
    rw [queued.exhausted, if_neg fun h => by rw [h.2] at slot; cases slot]
  obtain ⟨salvos, returns⟩ := switched.quiet joins
  obtain ⟨mode, zports⟩ := switched.idle joins
  have refused (p : Port) : (z.ports.get p).refused = (s.ports.get p).refused := by
    have nobody : ((List.finRange 128).countP fun d => cellReceives y n c d && !cellAdmitted y n c d && portOf d == p) = 0 := by
      rw [List.countP_eq_zero]
      intro d _
      rw [admitted]
      cases cellReceives y n c d <;> simp
    rw [queued.refused, nobody, ports]
    rfl
  refine ⟨z, run, ?_, fun none => ?_, fun some => ?_⟩
  · have rest := switched.rest
    rw [switching, active, follow, exhausted, salvos, mode] at rest
    rw [rest]
    rw [yrest]
  · have nobody (d : DestNo) : cellGets y n c pick d = false := by
      rw [gets, Bool.eq_false_iff, ne_eq, member, none]
      exact List.not_mem_nil
    obtain ⟨kept, essence⟩ := queued.unstored nobody
    refine ⟨kept.trans pool, Tbl.ext_get fun p => ?_⟩
    rw [zports, essence, refused, ports]
  · obtain ⟨d, hd⟩ := List.exists_mem_of_ne_nil _ some
    obtain ⟨k, fresh, stored, essence⟩ := queued.stored ⟨d, (gets d).trans ((member d).mpr hd)⟩
    have list : (List.finRange 128).filter (cellGets y n c pick) = ds := by
      rw [← receivers, receivers_eq]
      exact List.filter_congr fun d _ => gets d
    refine ⟨k, by rw [← pool]; exact fresh, ?_, fun p => ?_⟩
    · rw [stored, List.countP_eq_length_filter, list, pool]
    · have served : ((List.finRange 128).filter fun d => cellGets y n c pick d && portOf d == p) = ds.filter fun d => portOf d == p := by
        rw [← list, List.filter_filter]
        exact List.filter_congr fun d _ => Bool.and_comm ..
      rw [zports, essence, refused, served, ports]

end Sys2Proof.Machine
end

section
/-! SUPPORT. O25: the device mode after an essence cell, and what a completion tells. -/

namespace Sys2Proof.Machine

section
variable {s y z : State} {b : Tbl ReturnTx 8} {n : SourceNo} {c : Cell} {got : DestNo → Bool} {d : DestNo} {f : FormatNo} {k : Take}

/-- The frame points after the cell are those after its tracking. -/
theorem Switched.schedule (w : Switched y n c got z) : SameSchedule y z := by
  rw [w.rest]
  exact .of_formats rfl rfl rfl

/-- A destination WAITING_FRAME on the source receives frame starts alone. -/
theorem Tracked.waiting_receives (h : Tracked s b n c y) (hc : (s.switching.get d).cut = .steady (some n) .waiting) :
    cellReceives y n c d = c.frameStart := by
  rw [h.receives, hc]
  simp

section
variable (h : Tracked s b n c y) (w : Switched y n c got z) (receives : ∀ e, got e = true → cellReceives y n c e = true) (law : SwitchLaw s)
include h w receives law

/-- A cell ends the cuts that join, and begins none (R82, R85). -/
theorem Arrived.inProgress (d : DestNo) :
    (z.switching.get d).cut.inProgress = (!cellJoins s n c d && (s.switching.get d).cut.inProgress) := by
  cases hc : (s.switching.get d).cut with
  | steady m flag =>
    have ends : (z.switching.get d).cut.inProgress = false := by
      by_cases own : m = some n
      · subst own
        cases flag with
        | forwarding =>
          rw [Arrived.forwarding h w law hc (receives d)]
          split <;> rfl
        | waiting =>
          rw [Arrived.waiting h w hc fun g => h.waiting_receives hc ▸ receives d g]
          split
          · rfl
          · rw [keptSwitching_cut, hc]
            rfl
      · rw [Arrived.steady_other h w hc own, keptSwitching_cut, hc]
        rfl
    rw [ends]
    exact (Bool.and_false _).symm
  | joining x =>
    rw [Arrived.joining h w law hc]
    cases cellJoins s n c d with
    | true => cases got d <;> rfl
    | false =>
      rw [if_neg Bool.false_ne_true, keptSwitching_cut, hc]
      rfl
  | draining old tail x =>
    by_cases own : old = n
    · subst own
      rw [Arrived.draining h w law hc]
      cases start : c.frameStart with
      | true =>
        cases cellJoins s old c d with
        | true => cases got d <;> rfl
        | false => rfl
      | false =>
        have stays : cellJoins s old c d = false := by rw [cellJoins, start]; rfl
        rw [if_neg Bool.false_ne_true, stays]
        split
        · rfl
        · rw [keptSwitching_cut, hc]
          rfl
    · have stays : cellJoins s n c d = false := by
        rw [cellJoins, hc]
        simp [own]
      rw [Arrived.switching_other h w (by rw [cutOn, hc]; exact beq_false_of_ne own), stays]
      split
      · exact congrArg Cut.inProgress hc
      · rw [hc]
        rfl

omit receives law in
/-- The COMMITTED takes of the cuts that join are gone, and no take becomes COMMITTED (R71, R73). -/
theorem Arrived.isCommitted (modes : ModeLaw s) (d : DestNo) :
    isCommitted (z.active.get d) = (!cellJoins s n c d && isCommitted (s.active.get d)) := by
  have counts (o : Option Take) : Machine.isCommitted o = (o.filter fun k => k.state == .committed).isSome := by
    unfold Machine.isCommitted
    cases o with
    | none => rfl
    | some k => cases hk : k.state == .committed <;> simp [Option.filter_some, hk]
  cases joins : cellJoins s n c d with
  | true =>
    have cut : (s.switching.get d).cut.inProgress = true := by
      unfold cellJoins at joins
      cases hc : (s.switching.get d).cut with
      | steady m flag => simp [hc] at joins
      | draining | joining => rfl
    obtain ⟨k, active, committed⟩ := isCommitted_iff.mp (modes.cutHasTake d cut)
    rw [(Arrived.completed h w joins active committed).2]
    cases s.follow.get d <;> rfl
  | false =>
    have stays : (cellCompletes y n c d).isSome = false := by rw [cellCompletes_none (by rw [h.joins]; exact joins)]; rfl
    rw [w.active, stays, if_neg Bool.false_ne_true, h.active]
    cases cellMoves s n c d with
    | false => rfl
    | true => exact (counts _).trans ((congrArg Option.isSome (recomputedAt_committed ..)).trans (counts _).symm)

/-- HOLDING is left with the last cut (R176). -/
theorem Arrived.mode (modes : ModeLaw s) (after : ModeLaw z) : z.mode = if s.mode = .holding ∧ (∃ d, cellJoins s n c d = true) ∧
    (∀ e, cellJoins s n c e = true ∨ (Machine.isCommitted (s.active.get e) = false ∧ (s.switching.get e).cut.inProgress = false)) then .held
      else s.mode := by
  have same : y.mode = s.mode := by rw [h.rest]
  have step := w.mode
  rw [same] at step
  have none : noCutInProgress z = true ↔ ∀ e, cellJoins s n c e = true ∨
      (Machine.isCommitted (s.active.get e) = false ∧ (s.switching.get e).cut.inProgress = false) := by
    rw [noCutInProgress_iff, ← forall_and]
    refine forall_congr' fun e => ?_
    rw [Arrived.isCommitted h w modes, Arrived.inProgress h w receives law]
    cases cellJoins s n c e <;> simp
  by_cases holding : s.mode = .holding
  · by_cases all : noCutInProgress z = true
    · have some : ∃ d, cellJoins s n c d = true := by
        by_contra nobody
        have idle : noCutInProgress s = true :=
          noCutInProgress_iff.mpr (forall_and.mp fun e => (none.mp all e).resolve_left fun j => nobody ⟨e, j⟩)
        rw [modes.holding holding] at idle
        cases idle
      rw [if_pos ⟨holding, some, none.mp all⟩]
      refine (step.resolve_left fun stays => ?_).2
      rw [after.holding (stays.trans holding)] at all
      cases all
    · rw [if_neg fun both => all (none.mpr both.2.2)]
      exact step.resolve_right fun both => all (after.held both.2)
  · rw [if_neg fun both => holding both.1]
    exact step.resolve_right fun both => holding both.1

end

/-- The one completion of a cell, told after what its capture tells (R71, R72). -/
theorem Arrived.told (h : Tracked s b n c y) (w : Switched y n c got z) {told : State} (before : SameTold y told)
    (joins : cellJoins s n c d = true) (single : ∀ e, cellJoins s n c e = true → e = d) (active : s.active.get d = some k)
    (committed : k.state = .committed) (run : s.mode = .run) :
    SameTold z (notifyEnd d k (outcomeOf (.frameStart ((trackedSource s n c).state == .locked)) k.late) told) := by
  have source : y.sources.get n = trackedSource s n c := by rw [h.rest]; exact Tbl.get_set_self ..
  have completes : cellCompletes y n c d = some k := by rw [h.completes]; exact cellCompletes_some.mpr ⟨joins, active, committed⟩
  have running : y.mode ≠ .holding := by rw [h.rest, run]; decide
  have others (e : DestNo) (he : e ≠ d) : cellCompletes y n c e = none :=
    cellCompletes_none (Bool.eq_false_iff.mpr fun j => he (single e (by rw [← h.joins]; exact j)))
  obtain ⟨salvos, returns⟩ := w.told d k running completes others
  rw [source] at salvos returns
  have now : z.houseTime = y.houseTime := by rw [w.rest]
  have ended (o : TakeOutcome) : (notifyEnd d k o y).houseTime = y.houseTime := by simp
  exact (⟨now.trans (ended _).symm, salvos, returns⟩ : SameTold z _).trans (notifyEnd_told before ..)

/-- What the capture tells before any completion. -/
theorem Tracked.told (h : Tracked s s.returns n c y) {told : State} (lock : told = lockTold s n (s.sources.get n).state (trackedSource s n c)) :
    ((∀ f, cellAnchors s n c f = false) → SameTold y told) ∧
      ∀ f, cellAnchors s n c f = true → SameTold y (queueMasked (anchorReport s y f) told) := by
  have now : told.houseTime = s.houseTime := by
    rw [lock, lockTold]
    split <;> simp
  have salvos : told.salvos = s.salvos := by
    rw [lock, lockTold]
    split <;> simp
  have time : y.houseTime = s.houseTime := h.now
  have slots : y.salvos = s.salvos := by rw [h.rest]
  refine ⟨fun none => ⟨time.trans now.symm, slots.trans salvos.symm, ?_⟩, fun f anchors => ⟨?_, ?_, ?_⟩⟩
  · rw [lock]
    exact h.unanchored none
  · simpa using time.trans now.symm
  · simpa using slots.trans salvos.symm
  · rw [lock]
    exact h.anchored f anchors

/-- The ANCHOR report, read from the state after the cell. -/
theorem Tracked.anchorReport_after (h : Tracked s b n c y) (same : SameSchedule y z) (margin : z.margin = y.margin) (anchor : cellAnchors s n c f = true) :
    anchorReport s y f = .anchor f (deviation (s.formats.get f) s.houseTime) (y.formats.get f).epoch (y.formats.get f).epochFrame
      ((List.finRange 128).countP fun e => (s.dests.get e).format == some f && isArmed (s.active.get e))
      ((List.finRange 128).countP fun e => (s.dests.get e).format == some f && (s.active.get e).any fun q =>
        q.state == .armed && isDue s (addTicks (placeFor z e q.mode q.target q.frames).switchPoint (-s.margin))) := by
  have own : y.formats.get f = { steered s n (s.sources.get n).state (trackedSource s n c) f with
      epoch := s.houseTime, epochFrame := frameNumber (s.formats.get f) (nearestFrame (s.formats.get f) s.houseTime),
      reanchors := bump (s.formats.get f).reanchors } := by
    rw [h.formats]
    dsimp only
    rw [if_pos anchor, steered_frames]
    rfl
  have due : isDue y = isDue s := by unfold isDue; rw [h.now]
  have retargets (e : DestNo) (q : Take) :
      mustRetarget y e q = isDue s (addTicks (placeFor z e q.mode q.target q.frames).switchPoint (-s.margin)) := by
    have place := placeFor_congr same.frames same.dests margin e q.mode q.target q.frames
    have before : y.margin = s.margin := by rw [h.rest]
    rw [place, ← due, ← before]
    rfl
  rw [anchorReport, own]
  simp only [retargets]

end

end Sys2Proof.Machine
end

section
/-! SUPPORT. O25: an essence cell as a whole. -/

namespace Sys2Proof.Machine

/-- Settles O25, first the plain cell, then the tracking of any cell and its replication one after the other. -/
theorem essenceCellReplicated : Obligations.EssenceCellReplicated := by
  unfold Obligations.EssenceCellReplicated
  refine ⟨?_, ?_⟩
  · intro t c pick s line good kind start state n r ds defined present next room free distinct
    exact plainEssence_replicated pick line good kind start state rfl rfl defined present next room free distinct
  · intro t c pick s line good kind state distinct law n r defined format breaks receives ahead admitted gets joins
    obtain ⟨b, y, z, clean, run, tracked, queued, switched⟩ :=
      essence_arrives pick line good kind state defined fun _ f hf hc => (format f hf hc).steers n f hf hc
    have receiving : receives = cellReceives y n c := funext fun d => (tracked.receives d).symm
    have admitting : admitted = cellAdmitted y n c := funext fun d => by
      rw [cellAdmitted, tracked.room]
      unfold admitted ahead
      rw [receiving]
    have getting : gets = cellGets y n c pick := funext fun d => by
      unfold gets
      rw [cellGets, admitting, tracked.pool]
      exact congrArg _ (Bool.eq_iff_iff.mpr (decide_eq_true_iff.trans (takeSlot_isSome distinct pick).symm))
    have taken (d : DestNo) (g : gets d = true) : cellReceives y n c d = true := cellGets_receives (getting ▸ g)
    have full : takeSlot s.pool pick = none ↔ 2048 ≤ s.pool.length := by
      rw [← Option.not_isSome_iff_eq_none, takeSlot_isSome distinct pick, not_lt]
    have exhausted : y.poolExhausted = s.poolExhausted := by rw [tracked.rest]
    rw [← getting] at switched
    have schedule := switched.schedule
    have margin : z.margin = y.margin := by rw [switched.rest]
    have source : z.sources.get n = trackedSource s n c := by
      have kept : z.sources = y.sources := by rw [switched.rest]
      rw [kept, tracked.rest]
      exact Tbl.get_set_self ..
    have formats : z.formats = y.formats := by rw [switched.rest]
    refine ⟨z, run, ?_, fun none => ?_, fun some => ?_, ?_, fun p => ?_, ?_⟩
    · rw [switched.rest]
      rw [tracked.rest]
    · rw [getting] at none
      obtain ⟨pool, essence⟩ := queued.unstored none
      exact ⟨pool.trans tracked.pool, fun p => (essence p).trans (tracked.essence p).1⟩
    · rw [getting] at some ⊢
      obtain ⟨k, fresh, pool, essence⟩ := queued.stored some
      rw [tracked.pool] at fresh pool
      exact ⟨k, fresh, pool, fun p => (essence p).trans (congrArg (· ++ _) (tracked.essence p).1)⟩
    · rw [queued.exhausted, tracked.pool, exhausted, admitting]
      exact if_congr (and_congr_right fun _ => full) rfl rfl
    · rw [queued.refused, (tracked.essence p).2, receiving, admitting]
    · intro anchors moved soon later kept resumed waits broken
      have anchoring (f : FormatNo) : cellAnchors s n c f = true ↔ anchors f := by
        rw [cellAnchors_iff, ← source]
      have unanchored (f : FormatNo) (h : ¬anchors f) : cellAnchors s n c f = false := Bool.eq_false_iff.mpr fun a => h ((anchoring f).mp a)
      have moves (d : DestNo) : cellMoves s n c d = true ↔ moved d := by
        rw [cellMoves_iff]
        exact exists_congr fun f => and_congr_right fun _ => anchoring f
      have points (d : DestNo) (x : Time) : pointFrom z d x = pointFrom y d x := pointFrom_congr schedule.frames schedule.dests d x
      have keeping (d : DestNo) : keptSwitching s y n c d = kept d := by
        refine if_congr (moves d) ?_ rfl
        rw [realigned, tracked.now]
        unfold soon
        rw [points]
      have waiting (d : DestNo) : ({ cut := .steady (some n) .waiting, fill := some (laterPoint s y d) } : Switching) = waits d := by
        unfold waits later
        rw [points]
        rfl
      have breaking (d : DestNo) : ({ cut := .steady (some n) .waiting, fill := some (if (s.sources.get n).breaks c.seq = true ∧ cellMoves s n c d = true
          then pointFrom y d (s.houseTime + 1) else laterPoint s y d) } : Switching) = broken d := by
        unfold broken soon later
        rw [points, points]
        exact congrArg (fun x : Time => ({ cut := .steady (some n) .waiting, fill := some x } : Switching))
          (if_congr (and_congr_right fun _ => moves d) rfl rfl)
      refine ⟨fun d => ?_, fun d away => ?_, fun d k joins active committed => ?_, fun modes => ?_, ?_⟩
      · cases hc : (s.switching.get d).cut with
        | steady m flag =>
          cases m with
          | none => exact (Arrived.steady_other tracked switched hc (by simp)).trans (keeping d)
          | some m =>
            by_cases own : m = n
            · subst own
              cases flag with
              | forwarding =>
                refine (Arrived.forwarding tracked switched law hc (taken d)).trans ?_
                rw [breaking]
                exact (if_neg (not_not.mpr rfl)).symm
              | waiting =>
                refine (Arrived.waiting tracked switched hc fun g => tracked.waiting_receives hc ▸ taken d g).trans ?_
                rw [keeping]
                exact (if_congr (and_iff_right rfl) rfl rfl).symm
            · refine (Arrived.steady_other tracked switched hc (by simpa using own)).trans ((keeping d).trans ?_)
              cases flag <;> simp [own]
        | draining old tail x =>
          by_cases own : old = n
          · subst own
            refine (Arrived.draining tracked switched law hc).trans ?_
            rw [keeping, waiting]
            exact (if_neg (not_not.mpr rfl)).symm
          · refine (Arrived.switching_other tracked switched (by rw [cutOn, hc]; exact beq_false_of_ne own)).trans ((keeping d).trans ?_)
            simp [own]
        | joining x =>
          exact (Arrived.joining tracked switched law hc).trans (if_congr Iff.rfl (if_congr Iff.rfl rfl (waiting d)) (keeping d))
      · refine ⟨Arrived.follow_kept tracked switched away, fun unmoved => ?_⟩
        refine Arrived.active_kept tracked switched (cellCompletes_none away) ?_
        by_cases move : moved d
        · exact .inr (Bool.eq_false_iff.mpr fun armed => unmoved ⟨move, armed⟩)
        · exact .inl (Bool.eq_false_iff.mpr fun m => move ((moves d).mp m))
      · obtain ⟨follow, promoted⟩ := Arrived.completed tracked switched joins active committed
        refine ⟨follow, promoted.trans (congrArg (Option.map · _) (funext fun q => ?_))⟩
        have place (goal : Time) := placeFor_congr schedule.frames schedule.dests margin d q.mode goal q.frames
        simp only [place]
        rw [promotedTake, tracked.now]
      · have after : ModeLaw z := by
          have result := modes.goodArrival t c pick
          rw [exec_trunkCellArrival_good line good] at run
          injection run with same
          rwa [same] at result
        exact Arrived.mode tracked switched taken law modes after
      · intro d k joins single active committed running cleanly r' out told ended
        have untouched : b = s.returns := clean cleanly
        subst untouched
        have record : r' = trackedSource s n c := source
        have telling : told = lockTold s n (s.sources.get n).state (trackedSource s n c) := by
          have carried : (trackedSource s n c).format = r.format := trackedSource_format s n c
          unfold told
          rw [record, lockTold, carried]
          by_cases change : lockChanges r.state (trackedSource s n c).state = true
          · rw [if_pos change, if_neg (lockChanges_iff.mp change)]
          · rw [if_neg change, if_pos (not_not.mp fun h => change (lockChanges_iff.mpr h))]
        have outcome : outcomeOf (.frameStart ((trackedSource s n c).state == .locked)) k.late = out := by
          unfold out
          rw [record]
          cases (trackedSource s n c).state <;> rfl
        have cut : (s.switching.get d).cut.inProgress = true := by
          have joins' : cellJoins s n c d = true := joins
          unfold cellJoins at joins'
          cases hc : (s.switching.get d).cut with
          | steady m flag => simp [hc] at joins'
          | draining | joining => rfl
        have told_of {u : State} (before : SameTold y u) : SameTold z (ended u) := by
          have := Arrived.told tracked switched before joins single active committed running
          rwa [outcome] at this
        obtain ⟨quiet, anchored⟩ := tracked.told telling
        have salvos {u : State} (same : u.salvos = s.salvos) : (ended u).salvos = (ended s).salvos := by
          unfold ended
          rw [notifyEnd_salvos, notifyEnd_salvos, same]
        have plain : told.salvos = s.salvos := by
          unfold told
          split <;> simp
        refine ⟨?_, ?_, fun none => (told_of (quiet fun f => unanchored f (none f))).returns, fun f anchor => ?_⟩
        · refine switched.waits d ?_ (by rw [tracked.dests]; exact law.defined_inProgress cut)
          rw [tracked.completes, cellCompletes_some.mpr ⟨joins, active, committed⟩]
          rfl
        · by_cases none : ∀ f, cellAnchors s n c f = false
          · exact (told_of (quiet none)).salvos.trans (salvos plain)
          · obtain ⟨f, hf⟩ := not_forall.mp none
            exact (told_of (anchored f (Bool.not_eq_false _ ▸ hf))).salvos.trans (salvos (by simpa using plain))
        · have := (told_of (anchored f ((anchoring f).mpr anchor))).returns
          rw [tracked.anchorReport_after schedule margin ((anchoring f).mpr anchor), ← formats] at this
          exact this

end Sys2Proof.Machine
end
